-- ==== Sys2Proof/Word.lean ====
section
/-! DEFINITION. The bytes of the links and nozzle lines, and the fixed tables the blocks keep
(eight points, twelve tanks, ...): a table is a vector read and written at one place. -/

namespace Sys2Proof

/-- One byte of a link frame or of a nozzle message. -/
abbrev Byte := BitVec 8

/-- A fixed number of like things, numbered from 0 inside the model (P1 is 0, T12 is 11). -/
abbrev Table (n : Nat) (α : Type) := Vector α n

/-- The entry of a table at one place. -/
def look {n : Nat} {α : Type} (t : Table n α) (i : Fin n) : α := t[i]

/-- The table with one place replaced. -/
def put {n : Nat} {α : Type} (t : Table n α) (i : Fin n) (x : α) : Table n α := t.set i x

/-- The table with one place changed by a function of what it held. -/
def adjust {n : Nat} {α : Type} (t : Table n α) (i : Fin n) (f : α → α) : Table n α :=
  put t i (f (look t i))

/-- Every place of a table the same. -/
def fill (n : Nat) {α : Type} (x : α) : Table n α := Vector.replicate n x

/-- Every entry of a table changed by one function. -/
def mapTable {n : Nat} {α β : Type} (t : Table n α) (f : α → β) : Table n β := t.map f

/-- The thing with the given 1-based number, where the number is one of the bay's. -/
def numbered (n : Nat) (number : Nat) : Option (Fin n) :=
  if h : 1 ≤ number ∧ number ≤ n then some ⟨number - 1, by omega⟩ else none

/-- The 1-based number by which the manual and the links name a thing. -/
def numberOf {n : Nat} (i : Fin n) : Nat := i.val + 1

end Sys2Proof
end

