-- ==== Sys2Proof/Syntax.lean ====
section
/-! DEFINITION. The commands of the FB-364: every row of spec/opcode_table.json is one constructor of
`Instr`.  A request carries the raw numbers of its fields, in or out of range, because the checks of the
rules judge them; a field line or timer command carries what the line delivered. -/

namespace Sys2Proof

/-! ## Numbers of the bay -/

/-- A command link L1 to L3. -/
abbrev Link := Fin 3
/-- A dispense point P1 to P8. -/
abbrev PointId := Fin 8
/-- A pump 1 to 6. -/
abbrev PumpId := Fin 6
/-- A delivery inlet D1 or D2. -/
abbrev InletId := Fin 2
/-- A tank T1 to T12. -/
abbrev TankId := Fin 12
/-- A bund B1 to B4. -/
abbrev BundId := Fin 4
/-- A product code 1 to 8. -/
abbrev ProductId := Fin 8
/-- A machine class 0 to 15. -/
abbrev ClassId := Fin 16

/-- One of the ten meters (R1). -/
inductive MeterId where
  | point (p : PointId)
  | inlet (i : InletId)
  deriving DecidableEq, Repr

/-- The 32 line inputs that have a debounce timer (R146): all but ESTOP. -/
inductive DebouncedInput where
  | drip (p : PointId)
  | overpress (p : PointId)
  | sump (b : BundId)
  | highhigh (t : TankId)
  deriving DecidableEq, Repr

/-- An input that can be bypassed (R161): a DRIP or a SUMP input. -/
inductive BypassId where
  | drip (p : PointId)
  | sump (b : BundId)
  deriving DecidableEq, Repr

/-! ## Enumerated fields -/

/-- The value of an enumerated field of a request: `none` when the byte sent is none of its codes. -/
abbrev Coded (α : Type) := Option α

/-- R20: the kind of a dispense order. -/
inductive OrderKind where
  | fuel | service | topup | waste
  deriving DecidableEq, Repr

/-- R63: the kind of a product. -/
inductive ProductKind where
  | fuel | lube | coolant | waste
  deriving DecidableEq, Repr

/-- R105: the three statuses a link writes. -/
inductive StatusName where
  | active | held | barred
  deriving DecidableEq, Repr

/-- R105: the overdue action of an account. -/
inductive OverdueAction where
  | note | hold
  deriving DecidableEq, Repr

/-- R18: the attendance interval. -/
inductive AttendanceInterval where
  | off | s15 | s30 | s45 | s60 | s90 | s120 | s180 | s240
  deriving DecidableEq, Repr

/-- R132: the field a scan compares. -/
inductive ScanField where
  | serviceRemaining | burnAverage | shiftUsed | hourMeter | classNumber | status
  deriving DecidableEq, Repr

/-- R132: the condition of a scan. -/
inductive ScanCondition where
  | equal | atMost | atLeast
  deriving DecidableEq, Repr

/-- R147: the input classes that have a debounce time. -/
inductive InputClass where
  | drip | overpress | sump | highhigh
  deriving DecidableEq, Repr

/-- R184: a permission set. -/
structure Perms where
  dispense : Bool
  override : Bool
  accounts : Bool
  stock : Bool
  collect : Bool
  release : Bool
  configure : Bool
  deriving DecidableEq, Repr

/-- R192: a set of notice classes. -/
structure NoticeClasses where
  orders : Bool
  stock : Bool
  accounts : Bool
  shutdown : Bool
  bay : Bool
  deriving DecidableEq, Repr

/-! ## Fields of the requests -/

/-- How a request came: its link, the TAG of its frame, and the part number of R183 when it has one. -/
structure Via where
  link : Link
  tag : Byte
  part : Option Byte
  deriving DecidableEq, Repr

/-- R2: a meter's settings, the nominal pulse volume and the linearity table. -/
structure MeterSettings where
  pulseVolume : Nat
  q1 : Nat
  q2 : Nat
  q3 : Nat
  q4 : Nat
  d1 : Int
  d2 : Int
  d3 : Int
  d4 : Int
  deriving DecidableEq, Repr

/-- R192: the fields of SET_SUBSCRIPTION. -/
structure SetSubscription where
  link : Nat
  classes : Coded NoticeClasses
  level : Nat
  deriving DecidableEq, Repr

/-- R184: the fields of SET_PERMISSIONS. -/
structure SetPermissions where
  link : Nat
  perms : Coded Perms
  deriving DecidableEq, Repr

/-- R185: the settings record READ_SETTINGS names. -/
inductive SettingsName where
  | point (n : Nat)
  | pump (n : Nat)
  | inlet (n : Nat)
  | product (n : Nat)
  | tank (n : Nat)
  | stockTiming
  | debounce
  | shiftTable
  | link (n : Nat)
  deriving DecidableEq, Repr

/-- R20: the fields of OPEN_ORDER. -/
structure OpenOrder where
  point : Nat
  kind : Coded OrderKind
  machine : Option Nat
  preset : Option Nat
  manualHours : Option Nat
  override : Coded Bool
  deriving DecidableEq, Repr

/-- R38: the fields of STOP_ORDER. -/
structure StopOrder where
  point : Nat
  number : Nat
  deriving DecidableEq, Repr

/-- R89: the fields of OPEN_DELIVERY; the tanker identifier as its characters' codes. -/
structure OpenDelivery where
  inlet : Nat
  tank : Nat
  product : Nat
  tanker : List Nat
  declared : Option Nat
  deriving DecidableEq, Repr

/-- R94: the fields of STOP_DELIVERY. -/
structure StopDelivery where
  inlet : Nat
  number : Nat
  deriving DecidableEq, Repr

/-- R80: the fields of the DELTA form of ADJUST_STOCK. -/
structure AdjustDelta where
  amount : Int
  reason : Nat
  deriving DecidableEq, Repr

/-- R82: the fields of SET_TANK_SERVICE; `inService` is IN. -/
structure SetTankService where
  tank : Nat
  inService : Coded Bool
  deriving DecidableEq, Repr

/-- R108, R112: a service line as a request gives it. -/
structure LineFields where
  product : Nat
  interval : Nat
  lastService : Nat
  deriving DecidableEq, Repr

/-- R108: the fields of ADD_ACCOUNT; `lines` is `none` when the count sent exceeds four. -/
structure AddAccount where
  machine : Nat
  klass : Nat
  status : Coded StatusName
  allowance : Nat
  action : Coded OverdueAction
  lines : Coded (List LineFields)
  hourMeter : Option Nat
  deriving DecidableEq, Repr

/-- R138: the fields of WRITE_ACCOUNT, each present or absent. -/
structure WriteAccount where
  machine : Nat
  status : Option (Coded StatusName)
  klass : Option Nat
  allowance : Option Nat
  hourMeter : Option Nat
  action : Option (Coded OverdueAction)
  lines : Option (Coded (List LineFields))
  deriving DecidableEq, Repr

/-- R132: the fields of SCAN_ACCOUNTS. -/
structure ScanAccounts where
  field : Coded ScanField
  condition : Coded ScanCondition
  value : Nat
  start : Nat
  limit : Nat
  deriving DecidableEq, Repr

/-- R135: the fields of SET_RANGE_STATUS. -/
structure SetRangeStatus where
  first : Nat
  last : Nat
  klass : Option Nat
  status : Coded StatusName
  deriving DecidableEq, Repr

/-- R106: the fields of SET_CLASS. -/
structure SetClass where
  klass : Nat
  bandMin : Nat
  bandMax : Nat
  capacity : Nat
  tolerance : Nat
  deriving DecidableEq, Repr

/-- R153: the latch RELEASE_TRIP names. -/
inductive LatchName where
  | point (n : Nat)
  | bund (n : Nat)
  | bay
  deriving DecidableEq, Repr

/-- R161: the input SET_BYPASS names. -/
inductive BypassName where
  | drip (n : Nat)
  | sump (n : Nat)
  deriving DecidableEq, Repr

/-- R161: the fields of SET_BYPASS; `input` is `none` for any input that has no bypass. -/
structure SetBypass where
  input : Coded BypassName
  code : Nat
  minutes : Nat
  deriving DecidableEq, Repr

/-- R165: what READ_TRIP_LOG asks for. -/
inductive TripLogName where
  | number (n : Nat)
  | newest
  deriving DecidableEq, Repr

/-- R173: what READ_JOURNAL asks for. -/
inductive JournalName where
  | position (n : Nat)
  | oldestUncollected
  deriving DecidableEq, Repr

/-- R18: the fields of SET_POINT. -/
structure SetPoint where
  point : Nat
  enabled : Coded Bool
  product : Nat
  pump : Nat
  nozzleFitted : Coded Bool
  identTime : Nat
  attendance : Coded AttendanceInterval
  maxFlow : Nat
  noFlowThreshold : Nat
  noFlowTime : Nat
  primeTime : Nat
  stopAllowance : Nat
  maxOrder : Nat
  meter : MeterSettings
  deriving DecidableEq, Repr

/-- R48: the fields of SET_PUMP. -/
structure SetPump where
  pump : Nat
  startTime : Nat
  holdTime : Nat
  deriving DecidableEq, Repr

/-- R87: the fields of SET_INLET; `reachable` is `none` when the set sent names no tank of the bay. -/
structure SetInlet where
  inlet : Nat
  reachable : Coded (List TankId)
  noFlowThreshold : Nat
  noFlowTime : Nat
  settleTime : Nat
  settleStep : Nat
  meter : MeterSettings
  deriving DecidableEq, Repr

/-- R63: the fields of SET_PRODUCT; the name as its characters' codes, the chain as tank numbers. -/
structure SetProduct where
  product : Nat
  kind : Coded ProductKind
  beta : Nat
  name : List Nat
  chain : Coded (List Nat)
  deriving DecidableEq, Repr

/-- R64: one point of a strapping table. -/
structure StrapPoint where
  level : Nat
  volume : Nat
  deriving DecidableEq, Repr

/-- R64: the fields of SET_TANK. -/
structure SetTank where
  tank : Nat
  product : Nat
  bund : Nat
  capacity : Nat
  lowCut : Nat
  lowAlarm : Nat
  highCut : Nat
  hysteresis : Nat
  tolerance : Nat
  leakThreshold : Nat
  strapping : Table 12 StrapPoint
  deriving DecidableEq, Repr

/-- R77: the fields of SET_STOCK_TIMING, in minutes. -/
structure SetStockTiming where
  checkPeriod : Nat
  quietPeriod : Nat
  deriving DecidableEq, Repr

/-- R147: the fields of SET_DEBOUNCE, the time in tenths of a second. -/
structure SetDebounce where
  inputs : Coded InputClass
  tenths : Nat
  deriving DecidableEq, Repr

/-! ## Fields of the line and timer commands -/

/-- R25: a frame on a nozzle line, as received. -/
structure NozzleFrame where
  data : Byte
  mark : Bool
  parity : Bool
  stop : Bool
  deriving DecidableEq, Repr

/-- R74: what a gauge delivered in one second: a level, a temperature and the stability indication. -/
structure GaugeReport where
  level : Nat
  temperature : Int
  stable : Bool
  deriving DecidableEq, Repr

/-- R199, R200: what a restart finds: whether each memory passes its check, and, when the supply fails again during
its sequence, after how many events of the sequence that is. -/
structure MemoryCheck where
  imageValid : Bool
  settingsValid : Bool
  cutAfter : Option Nat
  deriving DecidableEq, Repr

/-! ## The commands -/

/-- One constructor for each row of spec/opcode_table.json, in the table's order. -/
inductive Instr where
  | fetchResult (v : Via)
  | stopLong (v : Via)
  | fetchNotices (v : Via) (count : Nat)
  | setSubscription (v : Via) (f : SetSubscription)
  | linkStatus (v : Via)
  | setPermissions (v : Via) (f : SetPermissions)
  | readSettings (v : Via) (name : Coded SettingsName)
  | openOrder (v : Via) (f : OpenOrder)
  | stopOrder (v : Via) (f : StopOrder)
  | pointStatus (v : Via) (point : Nat)
  | pumpStatus (v : Via)
  | openDelivery (v : Via) (f : OpenDelivery)
  | stopDelivery (v : Via) (f : StopDelivery)
  | inletStatus (v : Via) (inlet : Nat)
  | stockReportNow (v : Via) (product : Nat)
  | stockReportSettled (v : Via) (product : Nat)
  | adjustStockSetToGauge (v : Via) (tank : Nat)
  | adjustStockDelta (v : Via) (tank : Nat) (f : AdjustDelta)
  | setTankService (v : Via) (f : SetTankService)
  | readAccount (v : Via) (machine : Nat)
  | readNextAccount (v : Via)
  | setCursor (v : Via) (machine : Nat)
  | addAccount (v : Via) (f : AddAccount)
  | writeAccount (v : Via) (f : WriteAccount)
  | deleteAccount (v : Via) (machine : Nat)
  | scanAccounts (v : Via) (f : ScanAccounts)
  | setRangeStatus (v : Via) (f : SetRangeStatus)
  | readDeferred (v : Via) (machine : Option Nat)
  | readClass (v : Via) (klass : Nat)
  | setClass (v : Via) (f : SetClass)
  | shutdownStatus (v : Via) (key : Bool)
  | releaseTrip (v : Via) (name : Coded LatchName) (key : Bool)
  | setBypass (v : Via) (f : SetBypass)
  | readTripLog (v : Via) (name : Coded TripLogName)
  | readJournal (v : Via) (name : Coded JournalName)
  | releaseJournal (v : Via) (position : Nat)
  | bayStatus (v : Via)
  | setModeOpen (v : Via)
  | setModeStandby (v : Via)
  | setModeLock (v : Via)
  | setModeUnlock (v : Via)
  | setClock (v : Via) (calendar : Nat)
  | setShiftTable (v : Via) (minutes : Coded (List Nat))
  | restartRequest (v : Via)
  | setPoint (v : Via) (f : SetPoint)
  | setPump (v : Via) (f : SetPump)
  | setInlet (v : Via) (f : SetInlet)
  | setProduct (v : Via) (f : SetProduct)
  | setTank (v : Via) (f : SetTank)
  | setStockTiming (v : Via) (f : SetStockTiming)
  | setDebounce (v : Via) (f : SetDebounce)
  | rateSeekCharacter (l : Link) (widthNs : Nat) (char : Byte) (stopGood : Bool)
  | goodFrame (l : Link) (bytes : List Byte) (key : Bool)
  | badFrame (l : Link)
  | frameGapTimeout (l : Link)
  | breakLine (l : Link)
  | replySent (l : Link)
  | meterPulse (m : MeterId)
  | windowEnd (m : MeterId) (reading : Option Int)
  | nozzleFrame (p : PointId) (f : NozzleFrame)
  | nozzleBreak (p : PointId)
  | nozzleLineHigh (p : PointId)
  | identTimerExpiry (p : PointId)
  | primeTimerExpiry (p : PointId)
  | attendanceTimerExpiry (p : PointId)
  | stopTimerExpiry (p : PointId) (reading : Option Int)
  | attend (p : PointId)
  | stopBtn (p : PointId)
  | startTimerExpiry (m : PumpId)
  | holdTimerExpiry (m : PumpId)
  | pumpFaultActive (m : PumpId)
  | pumpFaultInactive (m : PumpId)
  | supplyReadyActive
  | supplyReadyInactive
  | inletCoupledActive (i : InletId)
  | inletCoupledInactive (i : InletId)
  | inletStopTimerExpiry (i : InletId) (reading : Option Int)
  | settleTimerExpiry (i : InletId)
  | gaugeReading (t : TankId) (report : Option GaugeReport)
  | stockCheckExpiry
  | settledReportWaitExpiry (l : Link)
  | lineInputChange (x : DebouncedInput) (level : Bool)
  | debounceExpiry (x : DebouncedInput)
  | estopChange (level : Bool)
  | bypassExpiry (x : BypassId)
  | scanVisit (l : Link)
  | rangeVisit (l : Link)
  | shiftStart
  | powerOn (check : MemoryCheck) (offMs : Nat)
  | supplyDip
  | requestedRestart (l : Link) (check : MemoryCheck)
  | supplyReturn (check : MemoryCheck)
  deriving DecidableEq, Repr

end Sys2Proof
end

