-- ==== Sys2Proof/Decode.lean ====
section
/-! DEFINITION. The commands that a word of spec/opcode_table.json spells.  No row of the table gives bits:
the commands of this block come as requests in link frames (Sys2Proof/Machine/Operands.lean reads those) and as
events on its lines. -/

namespace Sys2Proof

/-- The command that a word spells by the table's bits: none, since no row of the table gives any. -/
def decodeTableWord (_nbits _w : Nat) : Option Instr := none

end Sys2Proof
end

