-- ==== Sys2Proof/Config.lean ====
section
/-! DEFINITION. What the manual fixes as numbers of the part (the fixed-numbers table of 00_scope.md),
and the values it leaves open, each an opaque constant that no proof can see into. -/

namespace Sys2Proof.Config

/-- R107: the account table holds at most 1,024 records. -/
def maxAccounts : Nat := 1024
/-- R139: the deferred change queue holds at most 16 entries. -/
def maxDeferred : Nat := 16
/-- R169: the journal ring has 512 slots. -/
def journalSlots : Nat := 512
/-- R175, R176: the reserve at which curtailment is set. -/
def curtailAt : Nat := 480
/-- R176: the reserve below which curtailment is lifted. -/
def curtailLiftBelow : Nat := 448
/-- R190: a link's notice queue holds at most 16 notices. -/
def maxNotices : Nat := 16
/-- R164: the trip log is a ring of 32 entries. -/
def maxTripLog : Nat := 32
/-- R145: a latch's cause list holds at most four causes. -/
def maxLatchCauses : Nat := 4
/-- R42, R97: a record keeps at most three secondary causes. -/
def maxSecondaries : Nat := 3
/-- R4: a window lasts 200 ms. -/
def windowMs : Nat := 200
/-- R10: the temperature hold covers 150 window ends. -/
def holdWindows : Nat := 150
/-- R40, R96: the stop time limit, 5 s. -/
def stopLimitMs : Nat := 5000
/-- R40, R41, R96: the quiet time that ends a stop, 1 s. -/
def quietMs : Nat := 1000
/-- R74: the gauge reading hold, 60 s. -/
def gaugeHoldSeconds : Nat := 60
/-- R84: the settled report wait limit, 120 s. -/
def settledWaitMs : Nat := 120000
/-- R98: at most eight settle extensions. -/
def maxExtensions : Nat := 8
/-- R5: the largest pulse count of a window. -/
def maxPulses : Nat := 65535
/-- R114, R105: the largest engine hour meter, in dh. -/
def maxHours : Nat := 9999999
/-- R105: the saturation bound of the decilitre totals that saturate at 9,999,999 dL. -/
def maxDecilitres : Nat := 9999999
/-- R105: the saturation bound of an account's fuel total. -/
def maxFuelTotal : Nat := 4294967295
/-- R105: the saturation bound of the burn sample counts. -/
def maxSamples : Nat := 65535
/-- R183, log entry 19: the bytes of content that fit a reply payload of 247 bytes beside the two bytes of part number
and count. -/
def wholeContent : Nat := 245
/-- The upper end of the 32-bit counts (R164, R169, R198). -/
def maxCount : Nat := 4294967295
/-- R26: how long a nozzle line is high before the receiver is coupled, 100 ms. -/
def coupleMs : Nat := 100

/-- Log entry 14: what the running seconds read as once they have passed 4,294,967,295 (R198 gives the
range and no rule beyond it).  A free value. -/
opaque secondsPastRange : Nat → Nat

/-- Log entry 14: what calendar time reads as outside 0 to 4,294,967,295 (R198).  A free value. -/
opaque calendarPastRange : Int → Nat

/-- Log entry 14: the number that follows an order number or a trip number of 4,294,967,295 (R164, R169
give the range and no rule beyond it).  A free value. -/
opaque countPastRange : Nat → Nat

/-- Log entry 15: whether a low stretch whose width lies exactly midway between two bit times locks the
link to the faster of the two rates (R179 says only "nearest").  A free value. -/
opaque midwayLocksFaster : Bool

/-- Log entry 6: the TEMP line's reading, of the numbered meter (1 to 8 the points, 9 and 10 the inlets),
in a window that an event other than its own end cuts short at the given millisecond (R14).  The
line is outside the controller and the event carries no reading.  A free value. -/
opaque shortWindowReading : Nat → Nat → Option Int

end Sys2Proof.Config
end

