-- ==== Sys2Proof/Machine/State.lean ====
section
/-! DEFINITION. The state of the FB-364: every block's registers, records, queues, timers, lines and
settings, as plain data, and the state right after reset.  Deadlines are instants of the battery-kept
clock in milliseconds; recorded times are running seconds. -/

namespace Sys2Proof.Machine

open Sys2Proof

/-! ## What a step can stop with -/

/-- No command of this block stops the machine: every rule that refuses gives a reply status, and every
event that finds nothing to act on changes nothing.  So there is no fault to raise, which is safe. -/
inductive Fault where
  deriving DecidableEq, Repr

/-- Why a command has no meaning. -/
inductive Refusal where
  /-- Raised only by an arm of `exec` for a command that has no meaning yet; safe, since the run stops. -/
  | notModelled (mnemonic : String)
  deriving DecidableEq, Repr

/-! ## Statuses, causes and the wire items of replies -/

/-- R182: the statuses of a reply. -/
inductive Status where
  | ok | accepted | deferred | already | alreadyStopping
  | busy | unknownRequest | notPermitted | range | longBusy | noResult | noOperation | lastConfigure
  | bayLocked | bayBusy | journalFull | tripped
  | pointDisabled | pointBusy | kindMismatch | productEmpty | noOrder
  | unknownMachine | accountBarred | accountHeld | machineInUse | allowanceSpent
  | inletBusy | notReachable | productMismatch | tankUnavailable | noDelivery
  | productBusy | tankBusy | noGauge
  | notFound | duplicate | tableFull | deferFull | accountDeleting
  | notTripped | stillActive | keyRequired | badCode
  deriving DecidableEq, Repr

/-- R43, R97, R194: the causes of orders and deliveries, in the order of their codes. -/
inductive Cause where
  | preset | full | stopped | idleStop | allowance | capacity | tankEmpty | wasteFull | attendanceLapsed
  | trip | hoseBreak | valveLeak | uncoupled | pumpFault | noFlowStart | interrupted
  | noIdent | idMismatch | unknownMachine | accountBarred | accountHeld | machineInUse | allowanceSpent
  | emptied | highLevel | highHigh
  deriving DecidableEq, Repr

/-- R43, R97: the class of a record. -/
inductive RecordClass where
  | normal | limited | abnormal | refused
  deriving DecidableEq, Repr

/-- Section 8.1: the causes of trips. -/
inductive TripCause where
  | dripTray | overpressure | sumpHigh | highHigh | estop | hoseBreak | valveLeak | tankLoss | badBypassCode
  deriving DecidableEq, Repr

/-- R194: one coded field of a reply or notice. -/
inductive Item where
  /-- An unsigned number in so many bytes; absent is all ones. -/
  | nat (width : Nat) (value : Option Nat)
  /-- A signed number in so many bytes, two's complement; absent is the most negative value. -/
  | int (width : Nat) (value : Option Int)
  /-- Text in a fixed number of bytes, padded with spaces. -/
  | text (width : Nat) (chars : List Nat)
  /-- Zero bytes: the unused places of a list. -/
  | zeros (count : Nat)
  deriving DecidableEq, Repr

/-- R182, R183: a reply: the request's TAG and CODE, the status, the part number asked for, and the whole
content of which that part is sent. -/
structure Reply where
  tag : Byte
  code : Byte
  status : Status
  part : Nat
  content : List Item
  deriving DecidableEq, Repr

/-! ## The settings store (R199) -/

/-- R18: the settings of a point. -/
structure PointSettings where
  enabled : Bool
  product : ProductId
  pump : PumpId
  nozzleFitted : Bool
  identTime : Nat
  attendance : AttendanceInterval
  maxFlow : Nat
  noFlowThreshold : Nat
  noFlowTime : Nat
  primeTime : Nat
  stopAllowance : Nat
  maxOrder : Nat
  meter : MeterSettings
  deriving DecidableEq, Repr

/-- R48: the settings of a pump, in seconds. -/
structure PumpSettings where
  startTime : Nat
  holdTime : Nat
  deriving DecidableEq, Repr

/-- R87: the settings of an inlet; the settle times in minutes. -/
structure InletSettings where
  reachable : List TankId
  noFlowThreshold : Nat
  noFlowTime : Nat
  settleTime : Nat
  settleStep : Nat
  meter : MeterSettings
  deriving DecidableEq, Repr

/-- R63: the settings of a product record. -/
structure ProductSettings where
  kind : ProductKind
  beta : Nat
  name : List Nat
  chain : List TankId
  deriving DecidableEq, Repr

/-- R64: the settings of a tank; `outOfService` is the service condition of R67, R82. -/
structure TankSettings where
  product : ProductId
  bund : BundId
  capacity : Nat
  lowCut : Nat
  lowAlarm : Nat
  highCut : Nat
  hysteresis : Nat
  tolerance : Nat
  leakThreshold : Nat
  strapping : Table 12 StrapPoint
  outOfService : Bool
  deriving DecidableEq, Repr

/-- R147: the debounce times, in tenths of a second. -/
structure DebounceTimes where
  drip : Nat
  overpress : Nat
  sump : Nat
  highhigh : Nat
  deriving DecidableEq, Repr

/-- R184, R192: what the settings store holds for a link. -/
structure LinkSettings where
  perms : Perms
  classes : NoticeClasses
  level : Nat
  deriving DecidableEq, Repr

/-- R199: the nonvolatile settings store. -/
structure Store where
  points : Table 8 PointSettings
  pumps : Table 6 PumpSettings
  inlets : Table 2 InletSettings
  products : Table 8 ProductSettings
  tanks : Table 12 TankSettings
  timing : SetStockTiming
  debounce : DebounceTimes
  shifts : List Nat
  links : Table 3 LinkSettings
  deriving DecidableEq, Repr

/-! ## Metering units (section 1.1) -/

/-- R10: the temperature state of a meter. -/
inductive TempState where
  | live | held | default
  deriving DecidableEq, Repr

/-- R1: the working settings copied at entry to METERING. -/
structure Working where
  meter : MeterSettings
  beta : Nat
  deriving DecidableEq, Repr

/-- Section 1.1: a metering unit.  It is METERING exactly while it holds working settings.  `windowStart`
and `lastPulse` are instants in milliseconds (R4, R40). -/
structure Meter where
  working : Option Working
  windowStart : Nat
  pulses : Nat
  overrange : Bool
  grossRem : Nat
  netRem : Nat
  lastValid : Option Int
  holdAge : Nat
  tempState : TempState
  lastPulse : Option Nat
  deriving DecidableEq, Repr

/-- R13: what a metering unit hands its owner at a window's end. -/
structure WindowResult where
  pulses : Nat
  flow : Nat
  deviation : Int
  gross : Nat
  net : Nat
  temperature : Int
  tempState : TempState
  overrange : Bool
  uncompensated : Bool
  last : Bool
  deriving DecidableEq, Repr

/-! ## Point units (chapter 2) -/

/-- Section 2.2: the states of a point. -/
inductive PointState where
  | disabled | idle | identifying | awaitPump | priming | flowing | stopping
  deriving DecidableEq, Repr

/-- R113: the source of an hour reading. -/
inductive HourSource where
  | ident | manual | none
  deriving DecidableEq, Repr

/-- R45: a tank entry of a record. -/
structure TankEntry where
  tank : TankId
  amount : Int
  deriving DecidableEq, Repr

/-- R22, R45: the running record of an open dispense order, held in retained memory. -/
structure Order where
  number : Nat
  openTime : Nat
  kind : OrderKind
  product : ProductId
  override : Bool
  machine : Option Nat
  preset : Option Nat
  manualHours : Option Nat
  hours : Option Nat
  hourSource : HourSource
  readingTime : Option Nat
  uncompensated : Bool
  manualId : Bool
  clamped : Bool
  overrange : Bool
  limit : Option Nat
  limitCause : Option Cause
  gross : Nat
  net : Nat
  lastTemp : Option Int
  entries : List TankEntry
  termination : Option Cause
  secondaries : List Cause
  deriving DecidableEq, Repr

/-- Section 2.5: the nozzle receiver's state, with the message being collected. -/
inductive Receiver where
  | uncoupled
  | sleeping
  | collecting (message : List Byte)
  deriving DecidableEq, Repr

/-- R29: the latest identity. -/
structure Identity where
  machine : Nat
  hours : Nat
  time : Nat
  deriving DecidableEq, Repr

/-- A point unit.  Timers hold the instant they expire; `lineSince` is the instant from which the
receiver's line is followed (R26, R47). -/
structure PointUnit where
  state : PointState
  valve : Bool
  order : Option Order
  identDue : Option Nat
  primeDue : Option Nat
  attendDue : Option Nat
  stopDue : Option Nat
  stoppingAt : Nat
  lowFlow : Nat
  hoseBreak : Nat
  meter : Meter
  receiver : Receiver
  identity : Option Identity
  lineSince : Nat
  deriving DecidableEq, Repr

/-! ## The pump manager (chapter 3) -/

/-- Section 3.2: the states of a pump. -/
inductive PumpState where
  | off | queued | starting | running | holding | faulted
  deriving DecidableEq, Repr

/-- R49: what the pump manager keeps for a pump; `run` is the PUMP_RUN output and `faultLine` the level of
PUMP_FAULT. -/
structure PumpUnit where
  state : PumpState
  claims : List PointId
  startDue : Option Nat
  holdDue : Option Nat
  run : Bool
  faultLine : Bool
  deriving DecidableEq, Repr

/-- R52, R58: the pump manager: the pumps, the start queue (head first) and the SUPPLY_READY level. -/
structure PumpManager where
  units : Table 6 PumpUnit
  queue : List PumpId
  supplyReady : Bool
  deriving DecidableEq, Repr

/-! ## Inlet units (chapter 5) -/

/-- Section 5.2: the states of an inlet. -/
inductive InletState where
  | idle | awaitCoupling | receiving | stopping | settling
  deriving DecidableEq, Repr

/-- R90, R102: the running record of an open delivery, held in retained memory.  `holdsFlag` says that it
still holds its tank's RECEIVING flag, and `tally` is its debit tally (R73). -/
structure Delivery where
  number : Nat
  openTime : Nat
  tank : TankId
  product : ProductId
  tanker : List Nat
  declared : Option Nat
  link : Link
  before : Option Int
  gross : Nat
  net : Nat
  lastTemp : Option Int
  uncompensated : Bool
  overrange : Bool
  shared : Bool
  holdsFlag : Bool
  tally : Int
  extensions : Nat
  termination : Option Cause
  secondaries : List Cause
  deriving DecidableEq, Repr

/-- An inlet unit; `coupled` is the level of INLET_COUPLED, and `stopRequestAt` the instant of the
STOP_DELIVERY that started STOPPING (R94). -/
structure InletUnit where
  state : InletState
  valve : Bool
  delivery : Option Delivery
  stopDue : Option Nat
  settleDue : Option Nat
  stoppingAt : Nat
  stopRequestAt : Option Nat
  flowBegun : Bool
  lowFlow : Nat
  meter : Meter
  coupled : Bool
  deriving DecidableEq, Repr

/-! ## The stock unit (chapter 4) -/

/-- R74: the states of a gauge. -/
inductive GaugeState where
  | waiting | good | held | fault
  deriving DecidableEq, Repr

/-- R65 to R86: the live record of a tank. -/
structure Tank where
  book : Int
  low : Bool
  full : Bool
  gauge : GaugeState
  gauged : Option Int
  stable : Bool
  lastGood : Option Nat
  overStrap : Bool
  variance : Option Int
  runCount : Nat
  quietStart : Nat
  quietRef : Option Int
  rebased : Bool
  rebasePending : Bool
  deriving DecidableEq, Repr

/-- R63: the draw (or fill) tank and the last draw tank of a product. -/
structure Draw where
  current : Option TankId
  last : Option TankId
  deriving DecidableEq, Repr

/-- R70: an exhaustion report to the points with an open order on a product. -/
structure Exhaustion where
  product : ProductId
  reason : Cause
  deriving DecidableEq, Repr

/-- The stock unit.  `checkDue` is the stock check timer's expiry.  Two fields are the model's own, for
the event in progress: `reports` the exhaustion reports not yet handed (empty between events), `tripping`
that a latch leaves NORMAL or takes a further cause in this event (false between events; R70). -/
structure StockUnit where
  tanks : Table 12 Tank
  draws : Table 8 Draw
  checkDue : Nat
  reports : List Exhaustion
  tripping : Bool
  deriving DecidableEq, Repr

/-! ## The account unit (chapters 6 and 7) -/

/-- R105: the hold reasons. -/
inductive HoldReason where
  | link | hours | service
  deriving DecidableEq, Repr

/-- R105: an account's status, with its hold reason. -/
inductive AccountStatus where
  | active
  | held (reason : HoldReason)
  | barred
  deriving DecidableEq, Repr

/-- R105: an hour meter and the running seconds at which it was stored. -/
structure HourMeter where
  value : Nat
  time : Nat
  deriving DecidableEq, Repr

/-- R121: the state of a service line. -/
inductive LineState where
  | ok | due | overdue
  deriving DecidableEq, Repr

/-- R105: a service line. -/
structure ServiceLine where
  product : ProductId
  interval : Nat
  lastService : Nat
  topUp : Nat
  state : LineState
  deriving DecidableEq, Repr

/-- R105: an account record. -/
structure Account where
  machine : Nat
  klass : ClassId
  status : AccountStatus
  hourMeter : Option HourMeter
  fullRef : Option Nat
  fuelSinceFull : Nat
  burnAverage : Option Nat
  samplesTaken : Nat
  samplesRejected : Nat
  implausibleRun : Nat
  allowance : Nat
  shiftUsed : Nat
  fuelTotal : Nat
  action : OverdueAction
  lines : List ServiceLine
  openSet : List Nat
  deriving DecidableEq, Repr

/-- R106: a class record. -/
structure ClassRecord where
  bandMin : Nat
  bandMax : Nat
  capacity : Nat
  tolerance : Nat
  deriving DecidableEq, Repr

/-- R112, R139: a value written to an account, at once or deferred. -/
inductive AccountWrite where
  | status (x : StatusName)
  | klass (x : ClassId)
  | allowance (x : Nat)
  | hourMeter (x : Nat)
  | action (x : OverdueAction)
  | lines (x : List ServiceLine)
  deriving DecidableEq, Repr

/-- R139: the field of a deferred entry, with its value. -/
inductive DeferredChange where
  | write (w : AccountWrite)
  | delete
  deriving DecidableEq, Repr

/-- R139: an entry of the deferred change queue. -/
structure DeferredEntry where
  machine : Nat
  change : DeferredChange
  source : Link
  deriving DecidableEq, Repr

/-- The account unit: the table in ascending machine number, the class table, the deferred change queue,
the links' cursors and the last shift change time. -/
structure AccountUnit where
  table : List Account
  classes : Table 16 ClassRecord
  deferred : List DeferredEntry
  cursors : Table 3 Nat
  lastShiftChange : Nat
  deriving DecidableEq, Repr

/-! ## The shutdown unit (chapter 8) -/

/-- R145: the thirteen latches. -/
inductive LatchId where
  | point (p : PointId)
  | bund (b : BundId)
  | bay
  deriving DecidableEq, Repr

/-- Section 8.1: the 33 line inputs. -/
inductive LineInput where
  | debounced (x : DebouncedInput)
  | estop
  deriving DecidableEq, Repr

/-- R145: the state of a latch. -/
inductive LatchState where
  | normal | tripped | clearable
  deriving DecidableEq, Repr

/-- R145: a latch. -/
structure Latch where
  state : LatchState
  causes : List TripCause
  contributing : List LineInput
  trip : Option Nat
  time : Option Nat
  deriving DecidableEq, Repr

/-- R146: a debounced state. -/
inductive Settled where
  | unsettled | clear | active
  deriving DecidableEq, Repr

/-- R146: a line input: the line's level, its debounced state and its debounce timer. -/
structure Input where
  level : Bool
  settled : Settled
  due : Option Nat
  deriving DecidableEq, Repr

/-- R161: a bypass that is ON: its expiry in running seconds and the link that set it. -/
structure Bypass where
  expiry : Nat
  link : Link
  deriving DecidableEq, Repr

/-- R164: an entry of the trip log. -/
structure TripEntry where
  number : Nat
  time : Nat
  scope : LatchId
  causes : List TripCause
  stopped : Nat
  releaseTime : Option Nat
  releaseLink : Option Link
  deriving DecidableEq, Repr

/-- The shutdown unit.  A bypass that is OFF is `none`; `resetKey` is the RESET_KEY level as last read
(log entry 5). -/
structure ShutdownUnit where
  pointLatches : Table 8 Latch
  bundLatches : Table 4 Latch
  bayLatch : Latch
  drip : Table 8 Input
  overpress : Table 8 Input
  sump : Table 4 Input
  highhigh : Table 12 Input
  estop : Input
  dripBypass : Table 8 (Option Bypass)
  sumpBypass : Table 4 (Option Bypass)
  log : List TripEntry
  nextTrip : Nat
  resetKey : Bool
  deriving DecidableEq, Repr

/-! ## The journal unit (chapter 9) -/

/-- R45: a dispense record. -/
structure DispenseRecord where
  number : Nat
  position : Nat
  kind : OrderKind
  point : PointId
  product : ProductId
  machine : Option Nat
  hours : Option Nat
  hourSource : HourSource
  plausible : Option Bool
  openTime : Nat
  closeTime : Nat
  gross : Nat
  net : Nat
  netDl : Int
  lastTemp : Option Int
  uncompensated : Bool
  manualId : Bool
  clamped : Bool
  override : Bool
  overrange : Bool
  limit : Option Nat
  termination : Cause
  secondaries : List Cause
  klass : RecordClass
  entries : List TankEntry
  deriving DecidableEq, Repr

/-- R102: what became of a delivery's reconciliation. -/
inductive Reconciliation where
  | done | notSettled | gaugeFault | settleCut | interrupted
  deriving DecidableEq, Repr

/-- R102: a delivery record. -/
structure DeliveryRecord where
  number : Nat
  position : Nat
  inlet : InletId
  tank : TankId
  product : ProductId
  tanker : List Nat
  link : Link
  openTime : Nat
  closeTime : Nat
  gross : Nat
  net : Nat
  grossDl : Int
  netDl : Int
  lastTemp : Option Int
  declared : Option Nat
  before : Option Int
  after : Option Int
  debits : Option Int
  variance : Option Int
  docketVariance : Option Int
  reconciliation : Reconciliation
  extensions : Nat
  uncompensated : Bool
  overrange : Bool
  unsettled : Bool
  settleCut : Bool
  shared : Bool
  termination : Cause
  secondaries : List Cause
  klass : RecordClass
  entries : List TankEntry
  deriving DecidableEq, Repr

/-- R80, R81: the form of a stock adjustment. -/
inductive AdjustForm where
  | setToGauge
  | delta (f : AdjustDelta)
  deriving DecidableEq, Repr

/-- R81: an ADJUSTMENT record. -/
structure AdjustmentRecord where
  number : Nat
  position : Nat
  tank : TankId
  product : ProductId
  form : AdjustForm
  change : Int
  changeDl : Int
  bookBefore : Int
  bookAfter : Int
  gaugedUsed : Option Int
  link : Link
  time : Nat
  deriving DecidableEq, Repr

/-- R172: a record of the journal. -/
inductive Record where
  | dispense (r : DispenseRecord)
  | delivery (r : DeliveryRecord)
  | adjustment (r : AdjustmentRecord)
  deriving DecidableEq, Repr

/-- R169: the journal: the held records, oldest first, and its counts. -/
structure Journal where
  held : List Record
  nextPosition : Nat
  mark : Nat
  uncollected : Nat
  openCount : Nat
  nextOrder : Nat
  deriving DecidableEq, Repr

/-! ## The bay unit (chapter 11) -/

/-- Section 11.1: the bay mode. -/
inductive Mode where
  | open | standby | locked
  deriving DecidableEq, Repr

/-- R199: why the controller restarted. -/
inductive RestartCause where
  | powerOn | supplyDip | request
  deriving DecidableEq, Repr

/-- R202: the restart cause record. -/
structure RestartRecord where
  cause : RestartCause
  imageKept : Bool
  settingsKept : Bool
  interrupted : Nat
  seconds : Nat
  calendar : Nat
  link : Option Link
  deriving DecidableEq, Repr

/-- R195, R196: what changed the bay mode. -/
inductive ModeSource where
  | request (l : Link)
  | openOrder (l : Link)
  | openDelivery (l : Link)
  | attend (p : PointId)
  | nozzle (p : PointId)
  | coupled (i : InletId)
  | setModeOpen (l : Link)
  | restart
  deriving DecidableEq, Repr

/-- The bay unit.  `stopped` says that a supply dip has stopped the controller until the supply returns
(R199; log entry 53: what its outputs do meanwhile).  `nextShift` outlives a settings store found blank (log entry
54). -/
structure BayUnit where
  stopped : Bool
  mode : Mode
  curtailed : Bool
  offset : Int
  clockSet : Bool
  nextShift : Nat
  restart : RestartRecord
  deriving DecidableEq, Repr

/-! ## The link units (chapter 10) -/

/-- R174 to R191: a notice's kind and content. -/
inductive Notice where
  | orderClosed (number position : Nat) (point : PointId) (netDl : Int) (cause : Cause)
  | deliveryClosed (number position : Nat) (inlet : InletId) (tank : TankId) (netDl : Int) (cause : Cause)
      (variance : Option Int)
  | trip (latch : LatchId) (number : Nat) (cause : TripCause) (first : Bool) (state : LatchState)
  | tripClearable (latch : LatchId) (number : Nat)
  | tripReleased (latch : LatchId) (number : Nat) (link : Link)
  | tankLow (tank : TankId) (product : ProductId) (bookDl : Int)
  | drawChanged (product : ProductId) (old : Option TankId) (new : TankId)
  | productEmpty (product : ProductId) (old : TankId) (reason : Cause)
  | stockVariance (tank : TankId) (bookDl : Int) (gauged : Option Int) (variance : Int)
  | gaugeFault (tank : TankId) (lastGood : Option Nat)
  | serviceDue (machine place : Nat) (product : ProductId) (state : LineState) (hours : Nat)
  | deferredApplied (entry : DeferredEntry)
  | journalHigh (isSet : Bool) (uncollected openCount reserve : Nat)
  | bayMode (before after : Mode) (source : ModeSource)
  | restarted (record : RestartRecord)
  | operationDone (kind : Nat) (tag : Byte) (outcome : Nat)
  deriving DecidableEq, Repr

/-- R190: a queued notice with the running seconds of its event. -/
structure NoticeEntry where
  notice : Notice
  time : Nat
  deriving DecidableEq, Repr

/-- R179: the rates of a link. -/
inductive Rate where
  | r9600 | r19200 | r38400 | r57600 | r115200
  deriving DecidableEq, Repr

/-- R134: a running scan. -/
structure ScanWork where
  field : ScanField
  condition : ScanCondition
  value : Nat
  limit : Nat
  position : Nat
  hits : List Nat
  deriving DecidableEq, Repr

/-- R135: a running range operation. -/
structure RangeWork where
  last : Nat
  filter : Option ClassId
  status : StatusName
  position : Nat
  changed : Nat
  deferred : Nat
  passed : Nat
  deriving DecidableEq, Repr

/-- R187: what runs in a long-operation slot.  A settled report holds its product and the instant its wait
runs out (R84). -/
inductive LongWork where
  | scan (w : ScanWork)
  | range (w : RangeWork)
  | settled (product : ProductId) (due : Nat)
  deriving DecidableEq, Repr

/-- R187: a running operation with the TAG of the frame that started it. -/
structure LongOp where
  work : LongWork
  tag : Byte
  deriving DecidableEq, Repr

/-- R134: the outcomes of a scan. -/
inductive ScanOutcome where
  | hit | notSatisfied | stopped
  deriving DecidableEq, Repr

/-- R137: the outcomes of a range operation. -/
inductive RangeOutcome where
  | done | part | stopped
  deriving DecidableEq, Repr

/-- R84, R187: the outcomes of a SETTLED report. -/
inductive ReportOutcome where
  | settled | provisional | stopped
  deriving DecidableEq, Repr

/-- R187: the result of a long operation. -/
inductive LongContent where
  | scan (outcome : ScanOutcome) (hits : List Nat) (lastVisited : Nat)
  | range (outcome : RangeOutcome) (changed deferred passed : Nat) (firstNotDone : Option Nat)
  | report (outcome : ReportOutcome) (report : Option (List Item))
  deriving DecidableEq, Repr

/-- R187: a held result with the TAG of the frame that started its operation. -/
structure LongResult where
  content : LongContent
  tag : Byte
  deriving DecidableEq, Repr

/-- R199: how far a RESTART_REQUEST of a link has come: none, its reply still to be sent, its reply over. -/
inductive RestartOwed where
  | none | replying | over
  deriving DecidableEq, Repr

/-- A link unit.  `rate` is the locked rate, absent in RATE_SEEK; `service` the reply being sent,
`busyWaiting` the TAG and CODE of a waiting BUSY reply; `notice` the NOTICE line; `lastReply` the reply
last composed (the model's own record of what the link answered). -/
structure LinkUnit where
  rate : Option Rate
  inFrame : Bool
  service : Option Reply
  busyWaiting : Option (Byte × Byte)
  running : Option LongOp
  result : Option LongResult
  queue : List NoticeEntry
  overflow : Bool
  notice : Bool
  restartOwed : RestartOwed
  lastReply : Option Reply
  deriving DecidableEq, Repr

/-! ## The state -/

/-- The state of the FB-364, with the queue of commands that wait, first in first out.  `clock` is the
battery-kept count in milliseconds; running seconds are its whole seconds (R198). -/
structure State where
  clock : Nat
  bay : BayUnit
  store : Store
  points : Table 8 PointUnit
  pumps : PumpManager
  inlets : Table 2 InletUnit
  stock : StockUnit
  accounts : AccountUnit
  shutdown : ShutdownUnit
  journal : Journal
  links : Table 3 LinkUnit
  pending : List Instr
  deriving DecidableEq, Repr

/-! ## Blank and reset values -/

/-- R2: the meter settings of a blank store. -/
def blankMeter : MeterSettings :=
  ⟨10000, 100, 400, 800, 1200, 0, 0, 0, 0⟩

/-- R18: the point settings of a blank store. -/
def PointSettings.blank : PointSettings :=
  { enabled := false, product := 0, pump := 0, nozzleFitted := false, identTime := 6
    attendance := .s60, maxFlow := 1000, noFlowThreshold := 15, noFlowTime := 4, primeTime := 10
    stopAllowance := 20, maxOrder := 2000, meter := blankMeter }

/-- R48: the pump settings of a blank store. -/
def PumpSettings.blank : PumpSettings := ⟨5, 120⟩

/-- R87: the inlet settings of a blank store. -/
def InletSettings.blank : InletSettings := ⟨[], 15, 4, 10, 2, blankMeter⟩

/-- R63: the product record of a blank store: its chain is the one tank whose number equals the code. -/
def ProductSettings.blank (k : ProductId) : ProductSettings :=
  ⟨.fuel, 0, [], [⟨k.val, by omega⟩]⟩

/-- R64: the product of a tank in a blank store: the tank number for T1 to T8, then 1, 2, 3, 4. -/
def blankTankProduct (t : TankId) : ProductId := ⟨t.val % 8, by omega⟩

/-- R64: the bund of a tank in a blank store: three tanks to a bund. -/
def blankTankBund (t : TankId) : BundId := ⟨t.val / 3, by omega⟩

/-- R64: the strapping table of a blank store. -/
def blankStrapping : Table 12 StrapPoint := Vector.ofFn fun i => ⟨5000 * (i.val + 1), 8000 * (i.val + 1)⟩

/-- R64: the tank settings of a blank store; every tank is out of service. -/
def TankSettings.blank (t : TankId) : TankSettings :=
  { product := blankTankProduct t, bund := blankTankBund t, capacity := 100000, lowCut := 5000
    lowAlarm := 10000, highCut := 95000, hysteresis := 1000, tolerance := 500, leakThreshold := 200
    strapping := blankStrapping, outOfService := true }

/-- R184: all seven permissions. -/
def allPerms : Perms := ⟨true, true, true, true, true, true, true⟩

/-- R192: all five notice classes. -/
def allClasses : NoticeClasses := ⟨true, true, true, true, true⟩

/-- R199: the blank settings store. -/
def Store.blank : Store :=
  { points := fill 8 .blank
    pumps := fill 6 .blank
    inlets := fill 2 .blank
    products := Vector.ofFn ProductSettings.blank
    tanks := Vector.ofFn TankSettings.blank
    timing := ⟨15, 60⟩
    debounce := ⟨5, 5, 5, 5⟩
    shifts := [360, 1080]
    links := fill 3 ⟨allPerms, allClasses, 1⟩ }

/-- Section 1.1, R17: a metering unit that is IDLE. -/
def Meter.idle : Meter :=
  { working := none, windowStart := 0, pulses := 0, overrange := false, grossRem := 0, netRem := 0
    lastValid := none, holdAge := 0, tempState := .default, lastPulse := none }

/-- R47: a point unit as a restart leaves it, with no order. -/
def PointUnit.restarted (enabled : Bool) (now : Nat) : PointUnit :=
  { state := if enabled then .idle else .disabled, valve := false, order := none, identDue := none
    primeDue := none, attendDue := none, stopDue := none, stoppingAt := 0, lowFlow := 0, hoseBreak := 0
    meter := .idle, receiver := .uncoupled, identity := none, lineSince := now }

/-- R62: a pump as a restart leaves it. -/
def PumpUnit.restarted (faultLine : Bool) : PumpUnit :=
  { state := .off, claims := [], startDue := none, holdDue := none, run := false, faultLine := faultLine }

/-- R104: an inlet unit as a restart leaves it, with no delivery. -/
def InletUnit.restarted (coupled : Bool) : InletUnit :=
  { state := .idle, valve := false, delivery := none, stopDue := none, settleDue := none, stoppingAt := 0
    stopRequestAt := none, flowBegun := false, lowFlow := 0, meter := .idle, coupled := coupled }

/-- R85: a tank after a lost image, at the given running seconds. -/
def Tank.lost (seconds : Nat) : Tank :=
  { book := 0, low := false, full := false, gauge := .waiting, gauged := none, stable := false
    lastGood := none, overStrap := false, variance := none, runCount := 0, quietStart := seconds
    quietRef := none, rebased := false, rebasePending := true }

/-- R106: the class record defaults. -/
def ClassRecord.initial : ClassRecord := ⟨20, 20000, 10000, 5⟩

/-- R150, R168: a NORMAL latch. -/
def Latch.clear : Latch := ⟨.normal, [], [], none, none⟩

/-- R193: a link unit as a restart leaves it. -/
def LinkUnit.restarted : LinkUnit :=
  { rate := none, inFrame := false, service := none, busyWaiting := none, running := none, result := none
    queue := [], overflow := false, notice := false, restartOwed := .none, lastReply := none }

/-- R169, R178: the journal after a lost image. -/
def Journal.lost : Journal := ⟨[], 1, 0, 0, 0, 1⟩

/-- R202: the restart cause record of the first power-on. -/
def RestartRecord.first : RestartRecord := ⟨.powerOn, false, false, 0, 0, 0, none⟩

/-- R167: a debounced input at a restart at instant 0, its line inactive, its timer at the blank 0.5 s. -/
def Input.first : Input := ⟨false, .unsettled, some 500⟩

/-- The machine right after reset: the restart sequence of R201 and R199 run by a POWER_ON that finds the
retained image lost and the settings store blank, with every line inactive (log entries 3 and 4).  The
RESTARTED notice of R202 waits on every link. -/
def State.reset : State :=
  { clock := 0
    bay :=
      { stopped := false, mode := .locked, curtailed := false, offset := 0, clockSet := false
        nextShift := 21600, restart := .first }
    store := .blank
    points := fill 8 (.restarted false 0)
    pumps := { units := fill 6 (.restarted false), queue := [], supplyReady := false }
    inlets := fill 2 (.restarted false)
    stock := { tanks := fill 12 (.lost 0), draws := fill 8 ⟨none, none⟩, checkDue := 900000, reports := []
               tripping := false }
    accounts :=
      { table := [], classes := fill 16 .initial, deferred := [], cursors := fill 3 0, lastShiftChange := 0 }
    shutdown :=
      { pointLatches := fill 8 .clear, bundLatches := fill 4 .clear, bayLatch := .clear
        drip := fill 8 .first, overpress := fill 8 .first, sump := fill 4 .first, highhigh := fill 12 .first
        estop := ⟨false, .clear, none⟩, dripBypass := fill 8 none, sumpBypass := fill 4 none
        log := [], nextTrip := 1, resetKey := false }
    journal := .lost
    links := fill 3 { LinkUnit.restarted with queue := [⟨.restarted .first, 0⟩], notice := true }
    pending := [] }

end Sys2Proof.Machine
end

