-- ==== Sys2Proof/Machine/Layout.lean ====
section
/-! DEFINITION. The coding of R194: the bytes of a field, the frames of a link with the CRC of R181, the
codes of the enumerated values, and the layouts of journal records and notices. -/

namespace Sys2Proof.Machine

open Sys2Proof

/-! ## Bytes of a field -/

/-- The lowest `width` bytes of a number, high byte first (R194). -/
def bigEndian : Nat → Nat → List Byte
  | 0, _ => []
  | width + 1, n => BitVec.ofNat 8 (n / 256 ^ width) :: bigEndian width n

/-- The number that bytes spell, high byte first (R194). -/
def spelled (bytes : List Byte) : Nat := bytes.foldl (fun n b => n * 256 + b.toNat) 0

/-- The number spelled in two's complement, high byte first (R194). -/
def spelledSigned (bytes : List Byte) : Int :=
  let n := spelled bytes
  let range := 256 ^ bytes.length
  if n * 2 < range then (n : Int) else (n : Int) - (range : Int)

/-- The two's complement of a signed number in so many bytes, as an unsigned number. -/
def twosComplement (width : Nat) (x : Int) : Nat := (x % ((256 ^ width : Nat) : Int)).toNat

/-- R194: the bytes of one coded field. -/
def Item.bytes : Item → List Byte
  | .nat width (some n) => bigEndian width n
  | .nat width none => List.replicate width 0xFF
  | .int width (some x) => bigEndian width (twosComplement width x)
  | .int width none => bigEndian width (256 ^ width / 2)
  | .text width chars => (chars ++ List.replicate (width - chars.length) 0x20).map (BitVec.ofNat 8)
  | .zeros count => List.replicate count 0

/-- The bytes of a content. -/
def contentBytes (items : List Item) : List Byte := items.flatMap Item.bytes

/-! ## Items -/

/-- A number in one byte. -/
def item1 (n : Nat) : Item := .nat 1 (some n)
/-- A number in two bytes. -/
def item2 (n : Nat) : Item := .nat 2 (some n)
/-- A number in four bytes. -/
def item4 (n : Nat) : Item := .nat 4 (some n)
/-- A signed number in four bytes. -/
def itemInt4 (x : Int) : Item := .int 4 (some x)
/-- A gauged net, which is never negative (R75, R76), or absent. -/
def itemGauged (x : Option Int) : Item := .nat 4 (x.map Int.toNat)
/-- The debits of a delivery record, which its layout does not call signed, or absent; a tally that WASTE credits
have made negative is sent in two's complement (log entry 18). -/
def itemDebits (x : Option Int) : Item := .nat 4 (x.map (twosComplement 4))
/-- Whether something holds: 1 for yes, 0 for no (log entry 18). -/
def itemFlag (b : Bool) : Item := item1 b.toNat
/-- The 1-based number of a thing of the bay. -/
def itemId {n : Nat} (i : Fin n) : Item := item1 (numberOf i)
/-- The 1-based number of a thing of the bay, or absent. -/
def itemId? {n : Nat} (i : Option (Fin n)) : Item := .nat 1 (i.map numberOf)
/-- R194: a set, one bit for each possible member, least significant first. -/
def itemSet (width : Nat) (members : List Bool) : Item :=
  .nat width (some (members.foldr (fun b n => b.toNat + 2 * n) 0))
/-- R194: a list: its count, its items, and zeros for the unused places, each `size` bytes long. -/
def itemList {α : Type} (capacity size : Nat) (f : α → List Item) (xs : List α) : List Item :=
  item1 xs.length :: xs.flatMap f ++ [.zeros ((capacity - xs.length) * size)]

/-! ## Codes of enumerated values -/

/-- R182: the value the STATUS byte carries. -/
def Status.code : Status → Nat
  | .ok => 0x00 | .accepted => 0x01 | .deferred => 0x02 | .already => 0x03 | .alreadyStopping => 0x04
  | .busy => 0x10 | .unknownRequest => 0x11 | .notPermitted => 0x12 | .range => 0x13 | .longBusy => 0x14
  | .noResult => 0x15 | .noOperation => 0x16 | .lastConfigure => 0x17
  | .bayLocked => 0x20 | .bayBusy => 0x21 | .journalFull => 0x22 | .tripped => 0x23
  | .pointDisabled => 0x30 | .pointBusy => 0x31 | .kindMismatch => 0x32 | .productEmpty => 0x33
  | .noOrder => 0x34
  | .unknownMachine => 0x38 | .accountBarred => 0x39 | .accountHeld => 0x3A | .machineInUse => 0x3B
  | .allowanceSpent => 0x3C
  | .inletBusy => 0x40 | .notReachable => 0x41 | .productMismatch => 0x42 | .tankUnavailable => 0x43
  | .noDelivery => 0x44
  | .productBusy => 0x48 | .tankBusy => 0x49 | .noGauge => 0x4A
  | .notFound => 0x50 | .duplicate => 0x51 | .tableFull => 0x52 | .deferFull => 0x53
  | .accountDeleting => 0x54
  | .notTripped => 0x60 | .stillActive => 0x61 | .keyRequired => 0x62 | .badCode => 0x63

/-- R182: statuses 0x00 to 0x04 report a request that was taken. -/
def Status.taken (s : Status) : Bool := s.code ≤ 4

/-- R194: the cause codes. -/
def Cause.code : Cause → Nat
  | .preset => 1 | .full => 2 | .stopped => 3 | .idleStop => 4 | .allowance => 5 | .capacity => 6
  | .tankEmpty => 7 | .wasteFull => 8 | .attendanceLapsed => 9 | .trip => 10 | .hoseBreak => 11
  | .valveLeak => 12 | .uncoupled => 13 | .pumpFault => 14 | .noFlowStart => 15 | .interrupted => 16
  | .noIdent => 17 | .idMismatch => 18 | .unknownMachine => 19 | .accountBarred => 20 | .accountHeld => 21
  | .machineInUse => 22 | .allowanceSpent => 23 | .emptied => 24 | .highLevel => 25 | .highHigh => 26

/-- R194: the record classes. -/
def RecordClass.code : RecordClass → Nat
  | .normal => 1 | .limited => 2 | .abnormal => 3 | .refused => 4

/-- R194, section 8.1: the trip causes, numbered from 1 in the order of section 8.1's table.  DESIGN CHOICE (log
entry 18): no rule lists these codes, and HOSE_BREAK, VALVE_LEAK and HIGH_HIGH, which also have cause codes in section
10.7, do not carry them here. -/
def TripCause.code : TripCause → Nat
  | .dripTray => 1 | .overpressure => 2 | .sumpHigh => 3 | .highHigh => 4 | .estop => 5 | .hoseBreak => 6
  | .valveLeak => 7 | .tankLoss => 8 | .badBypassCode => 9

def orderKindCode : OrderKind → Nat
  | .fuel => 1 | .service => 2 | .topup => 3 | .waste => 4

def productKindCode : ProductKind → Nat
  | .fuel => 1 | .lube => 2 | .coolant => 3 | .waste => 4

def statusCode : StatusName → Nat
  | .active => 1 | .held => 2 | .barred => 3

def actionCode : OverdueAction → Nat
  | .note => 1 | .hold => 2

def attendanceCode : AttendanceInterval → Nat
  | .off => 1 | .s15 => 2 | .s30 => 3 | .s45 => 4 | .s60 => 5 | .s90 => 6 | .s120 => 7 | .s180 => 8 | .s240 => 9

def HourSource.code : HourSource → Nat
  | .ident => 1 | .manual => 2 | .none => 3

def PointState.code : PointState → Nat
  | .disabled => 1 | .idle => 2 | .identifying => 3 | .awaitPump => 4 | .priming => 5 | .flowing => 6
  | .stopping => 7

def PumpState.code : PumpState → Nat
  | .off => 1 | .queued => 2 | .starting => 3 | .running => 4 | .holding => 5 | .faulted => 6

def InletState.code : InletState → Nat
  | .idle => 1 | .awaitCoupling => 2 | .receiving => 3 | .stopping => 4 | .settling => 5

def GaugeState.code : GaugeState → Nat
  | .waiting => 1 | .good => 2 | .held => 3 | .fault => 4

def Receiver.code : Receiver → Nat
  | .uncoupled => 1 | .sleeping => 2 | .collecting _ => 3

def LineState.code : LineState → Nat
  | .ok => 1 | .due => 2 | .overdue => 3

def LatchState.code : LatchState → Nat
  | .normal => 1 | .tripped => 2 | .clearable => 3

def Settled.code : Settled → Nat
  | .unsettled => 1 | .clear => 2 | .active => 3

def Mode.code : Mode → Nat
  | .open => 1 | .standby => 2 | .locked => 3

def RestartCause.code : RestartCause → Nat
  | .powerOn => 1 | .supplyDip => 2 | .request => 3

def Reconciliation.code : Reconciliation → Nat
  | .done => 0 | .notSettled => 1 | .gaugeFault => 2 | .settleCut => 3 | .interrupted => 4

def AdjustForm.code : AdjustForm → Nat
  | .setToGauge => 1 | .delta _ => 2

def AccountStatus.name : AccountStatus → StatusName
  | .active => .active | .held _ => .held | .barred => .barred

def HoldReason.code : HoldReason → Nat
  | .link => 1 | .hours => 2 | .service => 3

def AccountStatus.reason : AccountStatus → Option HoldReason
  | .held r => some r
  | _ => none

def Rate.bits : Rate → Nat
  | .r9600 => 9600 | .r19200 => 19200 | .r38400 => 38400 | .r57600 => 57600 | .r115200 => 115200

/-- R187: the kind of a long operation, in the order of its table. -/
def LongWork.kind : LongWork → Nat
  | .scan _ => 1 | .range _ => 2 | .settled _ _ => 3

def LongContent.kind : LongContent → Nat
  | .scan .. => 1 | .range .. => 2 | .report .. => 3

/-- R187: the outcome of a result, numbered in the order its operation lists them. -/
def LongContent.outcome : LongContent → Nat
  | .scan .hit _ _ => 1 | .scan .notSatisfied _ _ => 2 | .scan .stopped _ _ => 3
  | .range .done .. => 1 | .range .part .. => 2 | .range .stopped .. => 3
  | .report .settled _ => 1 | .report .provisional _ => 2 | .report .stopped _ => 3

/-- R139: the field of a deferred change. -/
def DeferredChange.code : DeferredChange → Nat
  | .write (.status _) => 1 | .write (.klass _) => 2 | .write (.allowance _) => 3
  | .write (.hourMeter _) => 4 | .write (.action _) => 5 | .write (.lines _) => 6 | .delete => 7

/-! ## Choices between forms -/

/-- R153, R194: a latch: the selector of its scope, then its point and its bund number. -/
def latchItems : LatchId → List Item
  | .point p => [item1 1, itemId p, .nat 1 none]
  | .bund b => [item1 2, .nat 1 none, itemId b]
  | .bay => [item1 3, .nat 1 none, .nat 1 none]

/-- The number by which a reply names a line input: DRIP 1 to 8, OVERPRESS 9 to 16, SUMP 17 to 20,
HIGHHIGH 21 to 32, ESTOP 33, the order of section 8.1. -/
def LineInput.number : LineInput → Nat
  | .debounced (.drip p) => p.val + 1
  | .debounced (.overpress p) => p.val + 9
  | .debounced (.sump b) => b.val + 17
  | .debounced (.highhigh t) => t.val + 21
  | .estop => 33

/-- R105, R108: a service line as it was written: product, interval, hours at last service. -/
def writtenLineItems (l : ServiceLine) : List Item :=
  [itemId l.product, item2 l.interval, item4 l.lastService]

/-- R142, R143: the field and the value of a deferred change, the fields of every form with those not chosen absent.
Log entry 18, the model's choice (DESIGN CHOICE): the field's code is sent once, as the field and as the selector of the
value's form. -/
def changeItems (c : DeferredChange) : List Item :=
  let w : Option AccountWrite := match c with
    | .write w => some w
    | .delete => none
  [ item1 c.code,
    .nat 1 (match w with | some (.status x) => some (statusCode x) | _ => none),
    .nat 1 (match w with | some (.klass x) => some x.val | _ => none),
    .nat 4 (match w with | some (.allowance x) => some x | _ => none),
    .nat 4 (match w with | some (.hourMeter x) => some x | _ => none),
    .nat 1 (match w with | some (.action x) => some (actionCode x) | _ => none) ] ++
  (match w with
    | some (.lines ls) => itemList 4 7 writtenLineItems ls
    | _ => [.nat 1 none, .zeros 28])

/-- R202: the restart cause record. -/
def restartItems (r : RestartRecord) : List Item :=
  [ item1 r.cause.code, item1 (if r.imageKept then 1 else 2), item1 (if r.settingsKept then 1 else 2),
    item1 r.interrupted, item4 r.seconds, item4 r.calendar, itemId? r.link ]

/-- R194, R195, R196: what changed the mode, a choice between two forms: 1 the requesting link, 2 a wake source,
with its kind, its point, its inlet and its link.  Log entry 18, the model's choices: the wake sources are numbered in
the order of R196, OPEN_ORDER, OPEN_DELIVERY, ATTEND, the nozzle, the hose and SET_MODE OPEN.  Log entry 16: SET_MODE
OPEN in STANDBY is named as a wake source, and a restart as neither form, its selector and every field absent. -/
def modeSourceItems (source : ModeSource) : List Item :=
  let absent : Item := .nat 1 none
  let woken (kind : Nat) (point inlet link : Item) : List Item :=
    [item1 2, absent, item1 kind, point, inlet, link]
  match source with
  | .request l => [item1 1, itemId l, absent, absent, absent, absent]
  | .openOrder l => woken 1 absent absent (itemId l)
  | .openDelivery l => woken 2 absent absent (itemId l)
  | .attend p => woken 3 (itemId p) absent absent
  | .nozzle p => woken 4 (itemId p) absent absent
  | .coupled i => woken 5 absent (itemId i) absent
  | .setModeOpen l => woken 6 absent absent (itemId l)
  | .restart => [absent, absent, absent, absent, absent, absent]

/-! ## Notices (section 10.6) -/

/-- R189: the code of a notice's kind. -/
def Notice.code : Notice → Nat
  | .orderClosed .. => 1 | .deliveryClosed .. => 2 | .trip .. => 3 | .tripClearable .. => 4
  | .tripReleased .. => 5 | .tankLow .. => 6 | .drawChanged .. => 7 | .productEmpty .. => 8
  | .stockVariance .. => 9 | .gaugeFault .. => 10 | .serviceDue .. => 11 | .deferredApplied .. => 12
  | .journalHigh .. => 13 | .bayMode .. => 14 | .restarted .. => 15 | .operationDone .. => 16

/-- The content of a notice, in the order its posting rule lists it.  Log entry 18, the model's choice (DESIGN CHOICE):
the reason of PRODUCT_EMPTY is numbered 1 TRIP, 2 WASTE_FULL, 3 TANK_EMPTY in the order of R70, and not by the cause codes
of the journal's layout. -/
def Notice.items : Notice → List Item
  | .orderClosed number position point netDl cause =>
    [item4 number, item4 position, itemId point, itemInt4 netDl, item1 cause.code]
  | .deliveryClosed number position inlet tank netDl cause variance =>
    [item4 number, item4 position, itemId inlet, itemId tank, itemInt4 netDl, item1 cause.code, .int 4 variance]
  | .trip latch number cause first state =>
    latchItems latch ++ [item4 number, item1 cause.code, item1 (if first then 1 else 2), item1 state.code]
  | .tripClearable latch number => latchItems latch ++ [item4 number]
  | .tripReleased latch number link => latchItems latch ++ [item4 number, itemId link]
  | .tankLow tank product bookDl => [itemId tank, itemId product, itemInt4 bookDl]
  | .drawChanged product old new => [itemId product, itemId? old, itemId new]
  | .productEmpty product old reason =>
    [itemId product, itemId old, item1 (match reason with | .trip => 1 | .wasteFull => 2 | _ => 3)]
  | .stockVariance tank bookDl gauged variance =>
    [itemId tank, itemInt4 bookDl, itemGauged gauged, itemInt4 variance]
  | .gaugeFault tank lastGood => [itemId tank, .nat 8 lastGood]
  | .serviceDue machine place product state hours =>
    [item2 machine, item1 place, itemId product, item1 state.code, item4 hours]
  | .deferredApplied e => item2 e.machine :: changeItems e.change
  | .journalHigh isSet uncollected openCount reserve =>
    [item1 (if isSet then 1 else 2), item2 uncollected, item1 openCount, item2 reserve]
  | .bayMode before after source => [item1 before.code, item1 after.code] ++ modeSourceItems source
  | .restarted r => restartItems r
  | .operationDone kind tag outcome => [item1 kind, item1 tag.toNat, item1 outcome]

/-- Section 10.7: a notice entry: its length, its kind, the running seconds and its content. -/
def noticeEntryItems (e : NoticeEntry) : List Item :=
  let content := e.notice.items
  [item1 ((contentBytes content).length + 6), item1 e.notice.code, item4 e.time] ++ content

/-! ## Journal records (section 10.7) -/

/-- A tank entry: tank number and signed µL. -/
def tankEntryItems (e : TankEntry) : List Item := [itemId e.tank, .int 8 (some e.amount)]

/-- The common header of a record. -/
def headerItems (kind position number openTime closeTime : Nat) (flags : List Bool) (termination : Nat)
    (secondaries : List Cause) (klass : Nat) (entries : List TankEntry) : List Item :=
  [item1 kind, item4 position, item4 number, item4 openTime, item4 closeTime, itemSet 1 flags,
    item1 termination] ++
  itemList 3 1 (fun c => [item1 c.code]) secondaries ++ [item1 klass] ++
  itemList 4 9 tankEntryItems entries

/-- The layout of a dispense record. -/
def DispenseRecord.items (r : DispenseRecord) : List Item :=
  headerItems (orderKindCode r.kind) r.position r.number r.openTime r.closeTime
    [r.uncompensated, r.manualId, r.clamped, r.override, r.overrange, false, false, false]
    r.termination.code r.secondaries r.klass.code r.entries ++
  [ itemId r.point, itemId r.product, .nat 2 r.machine, .nat 4 r.hours, item1 r.hourSource.code,
    .nat 1 (r.plausible.map Bool.toNat), .int 8 (some r.gross), .int 8 (some r.net), itemInt4 r.netDl,
    .int 2 r.lastTemp, .nat 4 r.limit ]

/-- The layout of a delivery record. -/
def DeliveryRecord.items (r : DeliveryRecord) : List Item :=
  headerItems 5 r.position r.number r.openTime r.closeTime
    [r.uncompensated, false, false, false, r.overrange, r.unsettled, r.settleCut, r.shared]
    r.termination.code r.secondaries r.klass.code r.entries ++
  [ itemId r.inlet, itemId r.tank, itemId r.product, .text 12 r.tanker, itemId r.link,
    .int 8 (some r.gross), .int 8 (some r.net), itemInt4 r.grossDl, itemInt4 r.netDl, .int 2 r.lastTemp,
    .nat 4 r.declared, itemGauged r.before, itemGauged r.after, itemDebits r.debits, .int 4 r.variance,
    .int 4 r.docketVariance, item1 r.reconciliation.code, item1 r.extensions ]

/-- The layout of an adjustment record; its open and close times are equal. -/
def AdjustmentRecord.items (r : AdjustmentRecord) : List Item :=
  headerItems 6 r.position r.number r.time r.time (List.replicate 8 false) 0 [] 0 [⟨r.tank, r.change⟩] ++
  [ itemId r.tank, itemId r.product, item1 r.form.code,
    .nat 1 (match r.form with | .setToGauge => none | .delta f => some f.reason),
    .int 8 (some r.change), itemInt4 r.changeDl, .int 8 (some r.bookBefore), .int 8 (some r.bookAfter),
    itemGauged r.gaugedUsed, itemId r.link ]

/-- R172, R194: the layout of a record as read over a link. -/
def Record.items : Record → List Item
  | .dispense r => r.items
  | .delivery r => r.items
  | .adjustment r => r.items

/-! ## Replies in parts (R183) -/

/-- R182: the reply to a request that was taken carries the content of its rule, and so does a refusal whose rule
gives it content; every other refusal has an empty payload and no parts. -/
def carriesParts (st : Status) (content : List Item) : Bool := st.taken || !content.isEmpty

/-- R183: the number of parts of a content: one when it fits a payload of 247 bytes beside the two bytes of part
number and count, else as many as parts of 240 bytes give (log entry 19). -/
def partCount (items : List Item) : Nat :=
  let n := (contentBytes items).length
  if n ≤ Config.wholeContent then 1 else (n + 239) / 240

/-- R183: the bytes of one part of a content: all of it when it is one part, else the 240 bytes from there on. -/
def partBytes (items : List Item) (part : Nat) : List Byte :=
  if partCount items = 1 then contentBytes items else ((contentBytes items).drop (240 * part)).take 240

/-- R183: the part number and the number of parts, then the bytes of that part. -/
def Reply.payload (r : Reply) : List Byte :=
  if carriesParts r.status r.content then
    [BitVec.ofNat 8 r.part, BitVec.ofNat 8 (partCount r.content)] ++ partBytes r.content r.part
  else []

/-! ## Frames (section 10.2) -/

/-- R181: one bit into the CRC, polynomial x^16 + x^12 + x^5 + 1. -/
def crcBit (crc : BitVec 16) (bit : Bool) : BitVec 16 :=
  if crc.msb != bit then (crc <<< 1) ^^^ 0x1021 else crc <<< 1

/-- R181: one byte into the CRC, bits taken most significant first. -/
def crcByte (crc : BitVec 16) (b : Byte) : BitVec 16 :=
  [7, 6, 5, 4, 3, 2, 1, 0].foldl (fun c i => crcBit c (b.getLsbD i)) crc

/-- R181: the CRC over bytes, initial value 0xFFFF, no final inversion. -/
def crc16 (bytes : List Byte) : BitVec 16 := bytes.foldl crcByte 0xFFFF

/-- R194: the bytes of a frame: START, then what the CRC covers, then CHECK high byte first. -/
def frameOf (covered : List Byte) : List Byte :=
  0xA5 :: covered ++ bigEndian 2 (crc16 covered).toNat

/-- R194: the frame of a reply. -/
def Reply.frame (r : Reply) : List Byte :=
  frameOf ([BitVec.ofNat 8 (r.payload.length + 3), r.tag, r.code, BitVec.ofNat 8 r.status.code] ++ r.payload)

/-- What a good frame carries: TAG, CODE and payload. -/
structure GoodFrame where
  tag : Byte
  code : Byte
  payload : List Byte
  deriving DecidableEq, Repr

/-- R181: the frame that the characters after START spell, from LEN through CHECK: good when LEN is 2 to
250, as many characters follow it as it says with two more for CHECK, and the CRC matches. -/
def readFrame (bytes : List Byte) : Option GoodFrame :=
  match bytes with
  | len :: tag :: code :: rest =>
    let n := len.toNat
    if 2 ≤ n ∧ n ≤ 250 ∧ bytes.length = n + 3 then
      if (crc16 (bytes.take (n + 1))).toNat = spelled (bytes.drop (n + 1)) then
        some ⟨tag, code, rest.take (n - 2)⟩
      else none
    else none
  | _ => none

end Sys2Proof.Machine
end

