-- ==== Sys2Proof/Machine/Ops.lean ====
section
/-! DEFINITION. The operations every block shares: the clock, decilitre rounding, the places of the tables,
the latches and inputs, notices, and the taking of a request with the reply it gets. -/

namespace Sys2Proof.Machine

open Sys2Proof

/-! ## The bay's numbers -/

def allPoints : List PointId := [0, 1, 2, 3, 4, 5, 6, 7]
def allPumps : List PumpId := [0, 1, 2, 3, 4, 5]
def allInlets : List InletId := [0, 1]
def allTanks : List TankId := [0, 1, 2, 3, 4, 5, 6, 7, 8, 9, 10, 11]
def allProducts : List ProductId := [0, 1, 2, 3, 4, 5, 6, 7]
def allBunds : List BundId := [0, 1, 2, 3]
def allLinks : List Link := [0, 1, 2]

/-! ## Time (R198) -/

/-- R198: running seconds, 0 to 4,294,967,295; past that a free value (log entry 14). -/
def State.seconds (s : State) : Nat :=
  let n := s.clock / 1000
  if n ≤ Config.maxCount then n else Config.secondsPastRange n

/-- R198: calendar time, running seconds plus the offset; outside its range a free value (log entry 14). -/
def State.calendar (s : State) : Nat :=
  let c := (s.seconds : Int) + s.bay.offset
  if 0 ≤ c ∧ c ≤ (Config.maxCount : Int) then c.toNat else Config.calendarPastRange c

/-- The clock brought to an instant, unless it is already there (log entry 2). -/
def State.reach (s : State) (instant : Nat) : State :=
  if s.clock < instant then { s with clock := instant } else s

/-- The instant so many seconds after now. -/
def State.after (s : State) (seconds : Nat) : Nat := s.clock + seconds * 1000

/-- One millisecond of the battery-kept clock passes with no command waiting (log entry 2). -/
def idle (s : State) : State := { s with clock := s.clock + 1 }

/-- The time left to an instant in whole seconds, rounded up (R61, R103); for the attendance timer, which R46 does
not say, DESIGN CHOICE (log entry 44). -/
def State.secondsLeft (s : State) (instant : Nat) : Nat := (instant - s.clock + 999) / 1000

/-- The next value of a 32-bit count; past its range a free value (log entry 14). -/
def nextCount (n : Nat) : Nat := if n < Config.maxCount then n + 1 else Config.countPastRange n

/-- R198: the first calendar time after `c` whose second falls at the start of the minute of day `m`. -/
def nextStartOf (c m : Nat) : Nat :=
  let today := c / 86400 * 86400 + m * 60
  if c < today then today else today + 86400

/-- R198: the next shift start after a calendar time: the earliest over the shift table.  Log entry 14, the model's choice
(DESIGN CHOICE): one past the range of calendar time is held as the number it is. -/
def nextShiftStart (c : Nat) (table : List Nat) : Nat :=
  match table with
  | [] => c + 86400
  | m :: ms => ms.foldl (fun least m => min least (nextStartOf c m)) (nextStartOf c m)

/-! ## Rounding (R15) -/

/-- R15: a microlitre amount in decilitres, half up, symmetrically for negative amounts. -/
def decilitres (x : Int) : Int :=
  if 0 ≤ x then (x + 50000) / 100000 else -((-x + 50000) / 100000)

/-- A count that saturates at its upper bound (R105). -/
def saturate (bound n : Nat) : Nat := min bound n

/-! ## Places of the tables -/

def State.updPoint (p : PointId) (f : PointUnit → PointUnit) (s : State) : State :=
  { s with points := adjust s.points p f }

def State.updInlet (i : InletId) (f : InletUnit → InletUnit) (s : State) : State :=
  { s with inlets := adjust s.inlets i f }

def State.updPump (m : PumpId) (f : PumpUnit → PumpUnit) (s : State) : State :=
  { s with pumps := { s.pumps with units := adjust s.pumps.units m f } }

def State.updTank (t : TankId) (f : Tank → Tank) (s : State) : State :=
  { s with stock := { s.stock with tanks := adjust s.stock.tanks t f } }

def State.updDraw (k : ProductId) (f : Draw → Draw) (s : State) : State :=
  { s with stock := { s.stock with draws := adjust s.stock.draws k f } }

def State.updLink (l : Link) (f : LinkUnit → LinkUnit) (s : State) : State :=
  { s with links := adjust s.links l f }

def State.point (s : State) (p : PointId) : PointUnit := look s.points p
def State.inlet (s : State) (i : InletId) : InletUnit := look s.inlets i
def State.pump (s : State) (m : PumpId) : PumpUnit := look s.pumps.units m
def State.tank (s : State) (t : TankId) : Tank := look s.stock.tanks t
def State.draw (s : State) (k : ProductId) : Draw := look s.stock.draws k
def State.link (s : State) (l : Link) : LinkUnit := look s.links l
def State.pointSet (s : State) (p : PointId) : PointSettings := look s.store.points p
def State.pumpSet (s : State) (m : PumpId) : PumpSettings := look s.store.pumps m
def State.inletSet (s : State) (i : InletId) : InletSettings := look s.store.inlets i
def State.productSet (s : State) (k : ProductId) : ProductSettings := look s.store.products k
def State.tankSet (s : State) (t : TankId) : TankSettings := look s.store.tanks t

/-- The running record of an open order changed. -/
def State.updOrder (p : PointId) (f : Order → Order) (s : State) : State :=
  s.updPoint p fun u => { u with order := u.order.map f }

/-- The running record of an open delivery changed. -/
def State.updDelivery (i : InletId) (f : Delivery → Delivery) (s : State) : State :=
  s.updInlet i fun u => { u with delivery := u.delivery.map f }

/-- One thing done for each of a list of places, in order. -/
def forEach {α : Type} (xs : List α) (f : α → State → State) (s : State) : State :=
  xs.foldl (fun s x => f x s) s

/-! ## Latches and inputs (chapter 8) -/

/-- The latch of a scope. -/
def State.latch (s : State) : LatchId → Latch
  | .point p => look s.shutdown.pointLatches p
  | .bund b => look s.shutdown.bundLatches b
  | .bay => s.shutdown.bayLatch

def State.setLatch (x : LatchId) (l : Latch) (s : State) : State :=
  match x with
  | .point p => { s with shutdown := { s.shutdown with pointLatches := put s.shutdown.pointLatches p l } }
  | .bund b => { s with shutdown := { s.shutdown with bundLatches := put s.shutdown.bundLatches b l } }
  | .bay => { s with shutdown := { s.shutdown with bayLatch := l } }

/-- R145: a latch is set while it is TRIPPED or CLEARABLE. -/
def State.isSet (s : State) (x : LatchId) : Bool := (s.latch x).state ≠ .normal

def allLatches : List LatchId := allPoints.map .point ++ allBunds.map .bund ++ [.bay]

/-- A debounced input. -/
def State.debounced (s : State) : DebouncedInput → Input
  | .drip p => look s.shutdown.drip p
  | .overpress p => look s.shutdown.overpress p
  | .sump b => look s.shutdown.sump b
  | .highhigh t => look s.shutdown.highhigh t

/-- A line input. -/
def State.input (s : State) : LineInput → Input
  | .debounced x => s.debounced x
  | .estop => s.shutdown.estop

def State.updDebounced (x : DebouncedInput) (f : Input → Input) (s : State) : State :=
  match x with
  | .drip p => { s with shutdown := { s.shutdown with drip := adjust s.shutdown.drip p f } }
  | .overpress p => { s with shutdown := { s.shutdown with overpress := adjust s.shutdown.overpress p f } }
  | .sump b => { s with shutdown := { s.shutdown with sump := adjust s.shutdown.sump b f } }
  | .highhigh t => { s with shutdown := { s.shutdown with highhigh := adjust s.shutdown.highhigh t f } }

/-- A bypass: `none` is OFF. -/
def State.bypass (s : State) : BypassId → Option Bypass
  | .drip p => look s.shutdown.dripBypass p
  | .sump b => look s.shutdown.sumpBypass b

def State.setBypass (x : BypassId) (b : Option Bypass) (s : State) : State :=
  match x with
  | .drip p => { s with shutdown := { s.shutdown with dripBypass := put s.shutdown.dripBypass p b } }
  | .sump n => { s with shutdown := { s.shutdown with sumpBypass := put s.shutdown.sumpBypass n b } }

/-- The input a bypass holds off. -/
def bypassInput : BypassId → DebouncedInput
  | .drip p => .drip p
  | .sump b => .sump b

def allDebounced : List DebouncedInput :=
  allPoints.map .drip ++ allPoints.map .overpress ++ allBunds.map .sump ++ allTanks.map .highhigh

def allBypasses : List BypassId := allPoints.map .drip ++ allBunds.map .sump

/-! ## Permissions (R184) -/

/-- R184: the permission set of a link. -/
def State.perms (s : State) (l : Link) : Perms := (look s.store.links l).perms

/-! ## Notices (section 10.6) -/

/-- R189: whether a link's subscription holds the class of a notice.  DEFERRED_APPLIED, OPERATION_DONE and
RESTARTED do not go by subscription and are posted by `postTo`. -/
def subscribed (c : NoticeClasses) : Notice → Bool
  | .orderClosed .. | .deliveryClosed .. => c.orders
  | .trip .. | .tripClearable .. | .tripReleased .. => c.shutdown
  | .tankLow .. | .drawChanged .. | .productEmpty .. | .stockVariance .. | .gaugeFault .. => c.stock
  | .serviceDue .. | .deferredApplied .. => c.accounts
  | .journalHigh .. | .bayMode .. | .restarted .. | .operationDone .. => c.bay

/-- R191: the NOTICE line is active while the queue holds at least as many notices as the level. -/
def LinkUnit.lineAt (level : Nat) (u : LinkUnit) : LinkUnit :=
  { u with notice := decide (level ≤ u.queue.length) }

/-- R190, R191: a notice placed in a link's queue, or lost with the overflow flag set. -/
def LinkUnit.enqueue (level : Nat) (e : NoticeEntry) (u : LinkUnit) : LinkUnit :=
  if u.queue.length < Config.maxNotices then ({ u with queue := u.queue ++ [e] }).lineAt level
  else { u with overflow := true }

/-- R189: a notice placed in one link's queue, whatever its subscription. -/
def State.postTo (l : Link) (n : Notice) (s : State) : State :=
  s.updLink l (LinkUnit.enqueue (look s.store.links l).level ⟨n, s.seconds⟩)

/-- R189: a notice placed in the queue of each link whose subscription holds its class. -/
def State.post (n : Notice) (s : State) : State :=
  forEach allLinks (fun l s => if subscribed (look s.store.links l).classes n then s.postTo l n else s) s

/-! ## The bay mode (R195, R196) -/

/-- R195: the bay mode changed, with its notice. -/
def changeMode (new : Mode) (source : ModeSource) (s : State) : State :=
  ({ s with bay := { s.bay with mode := new } }).post (.bayMode s.bay.mode new source)

/-- R196: a wake: in STANDBY the mode moves to OPEN before any other part of the event. -/
def wake (source : ModeSource) (s : State) : State :=
  if s.bay.mode = .standby then changeMode .open source s else s

/-! ## Requests and replies (R182, R183) -/

/-- The outcome of a request's checks and effect: the status, the content of the reply, and the state. -/
structure Answer where
  status : Status
  content : List Item
  state : State

/-- A refusal: it changes nothing. -/
def refuse (st : Status) (s : State) : Answer := ⟨st, [], s⟩

/-- The status of the first check of a list that fails; each check is what makes it fail and its status. -/
def firstFailure : List (Bool × Status) → Option Status
  | [] => none
  | (failed, st) :: rest => if failed then some st else firstFailure rest

/-- A request whose checks are taken in order, the first failure being the reply. -/
def checked (checks : List (Bool × Status)) (act : State → Answer) (s : State) : Answer :=
  match firstFailure checks with
  | some st => refuse st s
  | none => act s

/-- A request answered OK with no content. -/
def done (s : State) : Answer := ⟨.ok, [], s⟩

/-- R182: a reply composed on a link.  A link that is LOCKED sends it, and its request is in service until
it has been sent; in RATE_SEEK the link sends nothing (R179).  The reply is kept as the last one. -/
def State.reply (l : Link) (r : Reply) (s : State) : State :=
  s.updLink l fun u =>
    { u with lastReply := some r, service := if u.rate.isSome then some r else none }

/-- R183: the part a request names, taken as 0 when absent. -/
def partNumber (v : Via) : Nat := (v.part.map BitVec.toNat).getD 0

/-- R183: whether a request names a part at or beyond the number of parts of the content its reply carries. -/
def badPart (v : Via) (st : Status) (content : List Item) : Bool :=
  carriesParts st content && decide (partCount content ≤ partNumber v)

/-- R182, R183: a request taken on its link: checked and acted on in one event, its reply composed from the
state that event leaves.  A request that names a part beyond the content of its reply is answered RANGE and
has no effect but its wake (log entry 19). -/
def serve (v : Via) (code : Nat) (request : State → Answer) (s : State) : State :=
  let a := request s
  let code := BitVec.ofNat 8 code
  if badPart v a.status a.content then s.reply v.link ⟨v.tag, code, .range, partNumber v, []⟩
  else a.state.reply v.link ⟨v.tag, code, a.status, partNumber v, a.content⟩

/-- R199: a controller that a supply dip has stopped takes no event. -/
def whileRunning (event : State → State) (s : State) : State := if s.bay.stopped then s else event s

end Sys2Proof.Machine
end

