-- ==== Sys2Proof/Machine/Metering.lean ====
section
/-! DEFINITION. The metering unit (chapter 1): pulses to gross and net volume, window by window. -/

namespace Sys2Proof.Machine

open Sys2Proof

/-- R6: the flow of a window of so many microlitres nominal, in L/min. -/
def flowOf (nominal : Nat) : Nat := nominal * 300 / 1000000

/-- R7: the deviation between two table points, the quotient truncated toward zero. -/
def between (q qa qb : Nat) (da db : Int) : Int :=
  da + ((db - da) * ((q : Int) - qa)).tdiv ((qb : Int) - qa)

/-- R7: the linearity deviation at a flow, in hundredths of a percent. -/
def deviationAt (m : MeterSettings) (q : Nat) : Int :=
  if q ≤ m.q1 then m.d1
  else if m.q4 ≤ q then m.d4
  else if q < m.q2 then between q m.q1 m.q2 m.d1 m.d2
  else if q < m.q3 then between q m.q2 m.q3 m.d2 m.d3
  else between q m.q3 m.q4 m.d3 m.d4

/-- R9, R74: a temperature clamped to −400 … +850 T10. -/
def clampTemperature (x : Int) : Int := max (-400) (min 850 x)

/-- R11: the compensation factor F10. -/
def factor (beta : Nat) (t10 : Int) : Int := 10000000 - (beta : Int) * (t10 - 150)

/-- R10: the temperature used in a window and the hold state after it. -/
structure HoldStep where
  t10 : Int
  lastValid : Option Int
  holdAge : Nat
  state : TempState
  deriving DecidableEq, Repr

/-- R10: the table of readings and hold states. -/
def holdStep (lastValid : Option Int) (holdAge : Nat) (reading : Option Int) : HoldStep :=
  match reading, lastValid with
  | some x, _ => ⟨clampTemperature x, some (clampTemperature x), 0, .live⟩
  | none, some x =>
    if holdAge + 1 ≤ Config.holdWindows then ⟨x, some x, holdAge + 1, .held⟩ else ⟨150, none, 0, .default⟩
  | none, none => ⟨150, none, 0, .default⟩

/-- R8: gross volume and the new gross remainder. -/
def grossOf (nominal : Nat) (d : Int) (rem : Nat) : Nat × Nat :=
  let t := (nominal : Int) * (10000 + d) + rem
  ((t / 10000).toNat, (t % 10000).toNat)

/-- R12: net volume and the new net remainder. -/
def netOf (gross : Nat) (f10 : Int) (rem : Nat) : Nat × Nat :=
  let u := (gross : Int) * f10 + rem
  ((u / 10000000).toNat, (u % 10000000).toNat)

/-- R6 to R13: the result of a window that ends with a reading. -/
def windowResult (m : Meter) (w : Working) (reading : Option Int) (last : Bool) : WindowResult :=
  let nominal := m.pulses * w.meter.pulseVolume
  let q := flowOf nominal
  let d := deviationAt w.meter q
  let gross := (grossOf nominal d m.grossRem).1
  let h := holdStep m.lastValid m.holdAge reading
  { pulses := m.pulses, flow := q, deviation := d, gross := gross
    net := (netOf gross (factor w.beta h.t10) m.netRem).1, temperature := h.t10, tempState := h.state
    overrange := m.overrange, uncompensated := decide (h.state = .default), last := last }

/-- R4: the metering unit after a window that ends with a reading: the remainders and the hold state pass
on, and the next window begins where this one ended, with the pulse count at 0. -/
def nextWindow (m : Meter) (w : Working) (reading : Option Int) : Meter :=
  let nominal := m.pulses * w.meter.pulseVolume
  let d := deviationAt w.meter (flowOf nominal)
  let g := grossOf nominal d m.grossRem
  let h := holdStep m.lastValid m.holdAge reading
  { m with
    windowStart := m.windowStart + Config.windowMs, pulses := 0, overrange := false, grossRem := g.2
    netRem := (netOf g.1 (factor w.beta h.t10) m.netRem).2
    lastValid := h.lastValid, holdAge := h.holdAge, tempState := h.state }

/-- R1: entry to METERING at an instant, with the working settings copied. -/
def enterMetering (m : MeterSettings) (beta now : Nat) : Meter :=
  { Meter.idle with working := some ⟨m, beta⟩, windowStart := now }

/-- R5: a pulse at an instant; in IDLE it is not counted.  DESIGN CHOICE: a pulse that finds the count at 65,535 is
a pulse counted for the quiet of R40, R41 and R96 (log entry 46). -/
def countPulse (now : Nat) (m : Meter) : Meter :=
  if m.working.isNone then m
  else if m.pulses < Config.maxPulses then { m with pulses := m.pulses + 1, lastPulse := some now }
  else { m with overrange := true, lastPulse := some now }

/-- R40, R96: the instant from which quiet is measured: the later of the last pulse and the entry to
STOPPING. -/
def quietFrom (m : Meter) (stoppingAt : Nat) : Nat := max stoppingAt (m.lastPulse.getD 0)

/-- R40, R96: quiet has lasted at least 1 s. -/
def isQuiet (now : Nat) (m : Meter) (stoppingAt : Nat) : Bool := quietFrom m stoppingAt + Config.quietMs ≤ now

/-- R41, R96: a pulse was counted in the last second. -/
def pulsedLately (now : Nat) (m : Meter) : Bool :=
  match m.lastPulse with
  | some t => now < t + Config.quietMs
  | none => false

/-- The number of a meter, 1 to 8 the points and 9 and 10 the inlets. -/
def meterNumber : MeterId → Nat
  | .point p => p.val + 1
  | .inlet i => i.val + 9

/-- R14, log entry 6: the reading of a window that another event ends at this instant. -/
def shortReading (m : MeterId) (s : State) : Option Int := Config.shortWindowReading (meterNumber m) s.clock

end Sys2Proof.Machine
end

