-- ==== Sys2Proof/Machine/Flags.lean ====
section
/-! DEFINITION. The flags and conditions the blocks read off the state: what a tank shows, which tanks are
eligible, which operations are open, the reserve, and the class of a record. -/

namespace Sys2Proof.Machine

open Sys2Proof

/-! ## Tanks (section 4.2) -/

/-- R63: a product of kind WASTE is filled, every other is drawn. -/
def State.isWaste (s : State) (k : ProductId) : Bool := (s.productSet k).kind = .waste

/-- R73: the RECEIVING flag of a tank: a delivery into it still holds the flag. -/
def State.receiving (s : State) (t : TankId) : Bool :=
  allInlets.any fun i =>
    match (s.inlet i).delivery with
    | some d => d.holdsFlag && d.tank = t
    | none => false

/-- R67: the trip condition of a tank: the latch of its bund, or the BAY latch, is set. -/
def State.tankTripped (s : State) (t : TankId) : Bool := s.isSet (.bund (s.tankSet t).bund) || s.isSet .bay

/-- R67: the state a tank shows. -/
inductive TankShows where
  | available | drawnDown | full | bundTripped | outOfService
  deriving DecidableEq, Repr

/-- R67: the first condition that holds, in the order service, trip, low, full. -/
def State.tankShows (s : State) (t : TankId) : TankShows :=
  if (s.tankSet t).outOfService then .outOfService
  else if s.tankTripped t then .bundTripped
  else if (s.tank t).low then .drawnDown
  else if (s.tank t).full then .full
  else .available

/-- R69: a tank that shows AVAILABLE and does not carry REBASE_PENDING. -/
def State.ready (s : State) (t : TankId) : Bool := s.tankShows t = .available && !(s.tank t).rebasePending

/-- R69: whether a tank of a product's chain is eligible.  A receiving tank of a drawn product serves only
when no other tank of the chain can serve without a delivery running into it. -/
def State.eligible (s : State) (k : ProductId) (t : TankId) : Bool :=
  s.ready t &&
    (s.isWaste k || !s.receiving t ||
      !(s.productSet k).chain.any fun other => other ≠ t && s.ready other && !s.receiving other)

/-! ## Open operations -/

/-- R63: a dispense order or a delivery is open on a product. -/
def State.openOnProduct (s : State) (k : ProductId) : Bool :=
  (allPoints.any fun p => (s.point p).order.any fun o => o.product = k) ||
    allInlets.any fun i => (s.inlet i).delivery.any fun d => d.product = k

/-- R102: the tank entries of a delivery: one with its net, or none when the net is 0. -/
def Delivery.entries (d : Delivery) : List TankEntry := if d.net = 0 then [] else [⟨d.tank, d.net⟩]

/-- R64, R80, R82: an open operation has a tank entry on the tank, or the tank is RECEIVING.  DEDUCED: a delivery in
SETTLING whose net is 0 has no entry and no flag, so its tank is not busy (log entry 47). -/
def State.tankBusy (s : State) (t : TankId) : Bool :=
  (allPoints.any fun p => (s.point p).order.any fun o => o.entries.any fun e => e.tank = t) ||
    (allInlets.any fun i => (s.inlet i).delivery.any fun d => d.entries.any fun e => e.tank = t) ||
    s.receiving t

/-- The product of the open dispense order with a number, for check 12 of R21. -/
def State.productOfOrder (s : State) (number : Nat) : Option ProductId :=
  allPoints.findSome? fun p =>
    match (s.point p).order with
    | some o => if o.number = number then some o.product else none
    | none => none

/-- Whether any dispense order or delivery is open, counting a delivery in SETTLING (R195). -/
def State.anyOpen (s : State) : Bool :=
  (allPoints.any fun p => (s.point p).order.isSome) || allInlets.any fun i => (s.inlet i).delivery.isSome

/-- R160: the open operations that have not yet taken a termination cause. -/
def State.unstopped (s : State) : Nat :=
  (allPoints.countP fun p => (s.point p).order.any fun o => o.termination.isNone) +
    allInlets.countP fun i => (s.inlet i).delivery.any fun d => d.termination.isNone

/-- R175: the reserve. -/
def Journal.reserve (j : Journal) : Nat := j.uncollected + j.openCount

/-! ## Kinds, causes and classes -/

/-- R21, check 7: whether an order kind may be opened on a product kind. -/
def kindFits : OrderKind → ProductKind → Bool
  | .fuel, .fuel => true
  | .service, .lube | .service, .coolant | .topup, .lube | .topup, .coolant => true
  | .waste, .waste => true
  | _, _ => false

/-- R43, R97: the class of a cause. -/
def Cause.klass : Cause → RecordClass
  | .preset | .full | .stopped | .idleStop | .emptied => .normal
  | .allowance | .capacity | .tankEmpty | .wasteFull | .attendanceLapsed | .highLevel => .limited
  | .trip | .hoseBreak | .valveLeak | .uncoupled | .pumpFault | .noFlowStart | .interrupted | .highHigh =>
    .abnormal
  | .noIdent | .idMismatch | .unknownMachine | .accountBarred | .accountHeld | .machineInUse
  | .allowanceSpent => .refused

/-- R43, R97: the class of a record: the most severe among its causes, in the order ABNORMAL, LIMITED,
NORMAL; REFUSED stands on orders with a REFUSED termination cause, which take no secondaries. -/
def recordClass (termination : Cause) (secondaries : List Cause) : RecordClass :=
  let classes := (termination :: secondaries).map Cause.klass
  if classes.contains .refused then .refused
  else if classes.contains .abnormal then .abnormal
  else if classes.contains .limited then .limited
  else .normal

/-- R42, R97: a cause added to the secondaries: not when it is already held, and not as a fourth. -/
def addCause (termination : Option Cause) (secondaries : List Cause) (c : Cause) : List Cause :=
  if termination = some c || secondaries.contains c then secondaries
  else if secondaries.length < Config.maxSecondaries then secondaries ++ [c]
  else secondaries

/-- R18, R37: the attendance interval in seconds; OFF has none. -/
def attendanceSeconds : AttendanceInterval → Option Nat
  | .off => none
  | .s15 => some 15 | .s30 => some 30 | .s45 => some 45 | .s60 => some 60 | .s90 => some 90
  | .s120 => some 120 | .s180 => some 180 | .s240 => some 240

/-- R147: the debounce time of an input, in tenths of a second. -/
def debounceTenths (d : DebounceTimes) : DebouncedInput → Nat
  | .drip _ => d.drip
  | .overpress _ => d.overpress
  | .sump _ => d.sump
  | .highhigh _ => d.highhigh

/-- R148, section 8.1: the latch of a debounced input's scope; a HIGHHIGH input belongs to the bund its
tank names at this moment. -/
def State.latchOf (s : State) : DebouncedInput → LatchId
  | .drip p => .point p
  | .overpress p => .point p
  | .sump b => .bund b
  | .highhigh t => .bund (s.tankSet t).bund

/-- Section 8.1: the cause a debounced input hands. -/
def causeOf : DebouncedInput → TripCause
  | .drip _ => .dripTray
  | .overpress _ => .overpressure
  | .sump _ => .sumpHigh
  | .highhigh _ => .highHigh

/-- The bypass of a debounced input, where it has one. -/
def bypassOf : DebouncedInput → Option BypassId
  | .drip p => some (.drip p)
  | .sump b => some (.sump b)
  | _ => none

/-- R163: the input's bypass is ON. -/
def State.isBypassed (s : State) (x : DebouncedInput) : Bool :=
  match bypassOf x with
  | some b => (s.bypass b).isSome
  | none => false

/-- R152: an input counts as clear for the release check: it is CLEAR, or a DRIP or SUMP input whose bypass
is ON. -/
def State.countsClear (s : State) : LineInput → Bool
  | .debounced x => (s.debounced x).settled = .clear || s.isBypassed x
  | .estop => s.shutdown.estop.settled = .clear

end Sys2Proof.Machine
end

