-- ==== Sys2Proof/Machine/Journal.lean ====
section
/-! DEFINITION. The journal unit (chapter 9): order numbers, the writing of records, the reserve and the
curtailment flag, and the two requests that read and release records. -/

namespace Sys2Proof.Machine

open Sys2Proof

/-! ## Counts and the reserve -/

/-- R170: the next order number given out. -/
def takeOrderNumber (s : State) : State :=
  { s with journal := { s.journal with nextOrder := nextCount s.journal.nextOrder } }

/-- R176: JOURNAL_HIGH with the three figures. -/
def journalHigh (isSet : Bool) (j : Journal) : Notice := .journalHigh isSet j.uncollected j.openCount j.reserve

/-- R176: the flag set, with its notice, when an acceptance or adjustment has brought the reserve to 480. -/
def judgeCurtail (s : State) : State :=
  if Config.curtailAt ≤ s.journal.reserve ∧ s.bay.curtailed = false then
    ({ s with bay := { s.bay with curtailed := true } }).post (journalHigh true s.journal)
  else s

/-- R176: the flag cleared, with its notice, when a release has brought the reserve below 448. -/
def judgeLift (s : State) : State :=
  if s.journal.reserve < Config.curtailLiftBelow ∧ s.bay.curtailed = true then
    ({ s with bay := { s.bay with curtailed := false } }).post (journalHigh false s.journal)
  else s

/-- R22, R90, R169: an operation counted as open, with its order number taken. -/
def countOpen (s : State) : State :=
  let s := takeOrderNumber s
  { s with journal := { s.journal with openCount := s.journal.openCount + 1 } }

/-- R171: the ring after a record: when all slots are full the oldest held record is overwritten. -/
def ringAfter (held : List Record) (r : Record) : List Record :=
  (if held.length < Config.journalSlots then held else held.drop 1) ++ [r]

/-- R171: a record, built from its position, written at the close of an operation.  `wasOpen` says that the
operation was counted in the open count (an adjustment is not). -/
def journalWrite (record : Nat → Record) (wasOpen : Bool) (s : State) : State :=
  let j := s.journal
  { s with journal := { j with
      held := ringAfter j.held (record j.nextPosition)
      nextPosition := j.nextPosition + 1
      uncollected := j.uncollected + 1
      openCount := if wasOpen then j.openCount - 1 else j.openCount } }

/-! ## Reading (R173) -/

/-- R169: the newest position, the next position less 1. -/
def Journal.newest (j : Journal) : Nat := j.nextPosition - 1

/-- R169: the oldest held position. -/
def Journal.oldest (j : Journal) : Nat := j.nextPosition - j.held.length

/-- R169: the record held at a position. -/
def Journal.at? (j : Journal) (position : Nat) : Option Record :=
  if j.oldest ≤ position then j.held[position - j.oldest]? else none

/-- R173: the figures every reply carries. -/
def journalFigures (s : State) : List Item :=
  let j := s.journal
  let present := !j.held.isEmpty
  [ .nat 8 (if present then some j.oldest else none), .nat 8 (if present then some j.newest else none),
    item4 j.mark, item2 j.uncollected, item1 j.openCount, itemFlag s.bay.curtailed ]

/-- R173: OK with a record and its standing, 1 COLLECTED or 2 UNCOLLECTED. -/
def journalFound (s : State) (position : Nat) (r : Record) : Answer :=
  ⟨.ok, r.items ++ [item1 (if position ≤ s.journal.mark then 1 else 2)] ++ journalFigures s, s⟩

/-- R173: NOT_FOUND with a reason, 1 OVERWRITTEN, 2 NOT_WRITTEN, 3 NONE_UNCOLLECTED. -/
def journalMissing (s : State) (reason : Nat) : Answer := ⟨.notFound, item1 reason :: journalFigures s, s⟩

/-- R173: READ_JOURNAL.  A position outside 1 to 4,294,967,295 is RANGE (log entry 27). -/
def readJournalRequest (name : Coded JournalName) (s : State) : Answer :=
  match name with
  | none => refuse .range s
  | some (.position p) =>
    if p < 1 ∨ Config.maxCount < p then refuse .range s
    else if s.journal.held.isEmpty then journalMissing s 2
    else if p < s.journal.oldest then journalMissing s 1
    else match s.journal.at? p with
      | some r => journalFound s p r
      | none => journalMissing s 2
  | some .oldestUncollected =>
    if s.journal.uncollected = 0 then journalMissing s 3
    else match s.journal.at? (s.journal.mark + 1) with
      | some r => journalFound s (s.journal.mark + 1) r
      | none => journalMissing s 3

/-! ## Releasing (R174) -/

/-- R174: the release mark set to `p`, the released records taken from the uncollected count. -/
def releaseTo (p : Nat) (s : State) : State :=
  let j := s.journal
  { s with journal := { j with mark := p, uncollected := j.uncollected - (p - j.mark) } }

/-- R174: RELEASE_JOURNAL. -/
def releaseJournalRequest (v : Via) (p : Nat) (s : State) : Answer :=
  if !(s.perms v.link).collect then refuse .notPermitted s
  else if p ≤ s.journal.mark then ⟨.already, [item4 s.journal.mark], s⟩
  else if s.journal.newest < p then refuse .range s
  else
    let released := releaseTo p s
    ⟨.ok, [item4 p, item2 (p - s.journal.mark), item2 released.journal.uncollected], judgeLift released⟩

end Sys2Proof.Machine
end

