-- ==== Sys2Proof/Machine/Accounts.lean ====
section
/-! DEFINITION. The account unit (chapter 6): accounts, class records, the close-time updates, the writes of
links, the deferred change queue and the shift change. -/

namespace Sys2Proof.Machine

open Sys2Proof

/-! ## The table (R107) -/

/-- The record of a machine, where the table holds one. -/
def State.account (s : State) (machine : Nat) : Option Account :=
  s.accounts.table.find? fun a => a.machine = machine

/-- R107: a record put into the table at the place its number calls for. -/
def insertAccount (a : Account) : List Account → List Account
  | [] => [a]
  | b :: rest => if a.machine < b.machine then a :: b :: rest else b :: insertAccount a rest

/-- A table with one machine's record changed; the record keeps its number. -/
def changeAccount (machine : Nat) (f : Account → Account) (table : List Account) : List Account :=
  table.map fun a => if a.machine = machine then { f a with machine := a.machine } else a

def State.setTable (table : List Account) (s : State) : State :=
  { s with accounts := { s.accounts with table := table } }

def State.updAccount (machine : Nat) (f : Account → Account) (s : State) : State :=
  s.setTable (changeAccount machine f s.accounts.table)

/-- R109: a record removed from the table. -/
def State.removeAccount (machine : Nat) (s : State) : State :=
  s.setTable (s.accounts.table.filter fun a => a.machine ≠ machine)

/-! ## Service lines (R121 to R124) -/

/-- R121: the hours since service of a line: 0 with no hour meter, and 0 when the difference is negative. -/
def hoursSince (h : Option HourMeter) (l : ServiceLine) : Nat :=
  match h with
  | some h => h.value - l.lastService
  | none => 0

/-- R121: the state of a line at so many hours since service. -/
def lineStateAt (l : ServiceLine) (hours : Nat) : LineState :=
  if hours < l.interval * 10 then .ok else if hours < l.interval * 11 then .due else .overdue

/-- R121: the remaining-to-due of a line. -/
def remainingToDue (h : Option HourMeter) (l : ServiceLine) : Nat := l.interval * 10 - hoursSince h l

/-- R123: whether a move from one state to another posts SERVICE_DUE. -/
def movesUp : LineState → LineState → Bool
  | .ok, .due | .ok, .overdue | .due, .overdue => true
  | _, _ => false

/-- R121, R123: the lines evaluated from a place on, with the SERVICE_DUE notices of those that move up. -/
def evaluateLines (machine : Nat) (h : Option HourMeter) : Nat → List ServiceLine → List ServiceLine × List Notice
  | _, [] => ([], [])
  | place, l :: rest =>
    let hours := hoursSince h l
    let new := lineStateAt l hours
    let (ls, ns) := evaluateLines machine h (place + 1) rest
    ({ l with state := new } :: ls,
      if movesUp l.state new then .serviceDue machine place l.product new hours :: ns else ns)

/-- R124: the overdue action applied to a status. -/
def applyAction (a : Account) : AccountStatus :=
  let overdue := a.lines.any fun l => l.state = .overdue
  match a.status with
  | .active => if a.action = .hold ∧ overdue then .held .service else .active
  | .held .service =>
    if overdue ∧ a.action = .hold then .held .service
    else if a.implausibleRun = 3 then .held .hours
    else .active
  | other => other

/-- R121, R123, R124: an account's service states re-evaluated. -/
def reevaluate (a : Account) : Account × List Notice :=
  let (ls, ns) := evaluateLines a.machine a.hourMeter 1 a.lines
  let b := { a with lines := ls }
  ({ b with status := applyAction b }, ns)

/-! ## The writes of a link (R112) -/

/-- R110, R112: the status a written name gives; HELD takes reason LINK. -/
def writtenStatus : StatusName → AccountStatus
  | .active => .active
  | .held => .held .link
  | .barred => .barred

/-- R112: the effect of one field written, at the running seconds of its application. -/
def applyWrite (now : Nat) (w : AccountWrite) (a : Account) : Account × List Notice :=
  match w with
  | .status x => ({ a with status := writtenStatus x }, [])
  | .klass x => ({ a with klass := x }, [])
  | .allowance x => ({ a with allowance := x }, [])
  | .hourMeter x =>
    reevaluate
      { a with
        hourMeter := some ⟨x, now⟩, implausibleRun := 0, fullRef := none, fuelSinceFull := 0
        status := if a.status = .held .hours then .active else a.status }
  | .action x => reevaluate { a with action := x }
  | .lines x => reevaluate { a with lines := x }

/-- R112: several fields written in one application, in the order given. -/
def applyWrites (now : Nat) : List AccountWrite → Account → Account × List Notice
  | [], a => (a, [])
  | w :: rest, a =>
    let (b, ns) := applyWrite now w a
    let (c, ms) := applyWrites now rest b
    (c, ns ++ ms)

/-- The notices of a list, posted in order. -/
def postAll (ns : List Notice) (s : State) : State := forEach ns State.post s

/-- R112: a link's writes applied to a machine's account in the table, with their notices. -/
def writeNow (machine : Nat) (ws : List AccountWrite) (s : State) : State :=
  match s.account machine with
  | none => s
  | some a =>
    let (b, ns) := applyWrites s.seconds ws a
    postAll ns (s.updAccount machine fun _ => b)

/-! ## The deferred change queue (R139 to R142) -/

/-- R139: whether an entry waits for a machine and a field. -/
def DeferredEntry.sameAs (machine : Nat) (c : DeferredChange) (e : DeferredEntry) : Bool :=
  e.machine = machine && e.change.code = c.code

/-- R140: an entry merged in its place, or appended at the tail. -/
def mergeDeferred (e : DeferredEntry) (queue : List DeferredEntry) : List DeferredEntry :=
  if queue.any (DeferredEntry.sameAs e.machine e.change) then
    queue.map fun old => if old.sameAs e.machine e.change then e else old
  else queue ++ [e]

/-- R140: how many of the changes need a new place in the queue. -/
def newPlaces (machine : Nat) (changes : List DeferredChange) (queue : List DeferredEntry) : Nat :=
  changes.countP fun c => !queue.any (DeferredEntry.sameAs machine c)

/-- R140: the changes placed whole, or `none` when they outnumber the free places. -/
def deferChanges (machine : Nat) (changes : List DeferredChange) (source : Link)
    (queue : List DeferredEntry) : Option (List DeferredEntry) :=
  if Config.maxDeferred < queue.length + newPlaces machine changes queue then none
  else some (changes.foldl (fun q c => mergeDeferred ⟨machine, c, source⟩ q) queue)

/-- R138, R141: a deferred delete waits for the machine. -/
def State.deleteWaits (s : State) (machine : Nat) : Bool :=
  s.accounts.deferred.any (DeferredEntry.sameAs machine .delete)

def State.setDeferred (queue : List DeferredEntry) (s : State) : State :=
  { s with accounts := { s.accounts with deferred := queue } }

/-- R127, R142: the writes among a machine's entries, in queue order. -/
def writesAmong (entries : List DeferredEntry) : List AccountWrite :=
  entries.filterMap fun e => match e.change with | .write w => some w | .delete => none

/-- R127, R142: the entries of a machine applied in queue order, a delete last: they leave the queue, each
source link gets DEFERRED_APPLIED, and the service notices of the writes follow. -/
def applyDeferred (machine : Nat) (s : State) : State :=
  let mine := s.accounts.deferred.filter fun e => e.machine = machine
  let writes := mine.filter fun e => e.change ≠ .delete
  let deletes := mine.filter fun e => e.change = .delete
  let s := s.setDeferred (s.accounts.deferred.filter fun e => e.machine ≠ machine)
  let (s, ns) := match s.account machine with
    | none => (s, [])
    | some a =>
      let (b, ns) := applyWrites s.seconds (writesAmong writes) a
      (s.updAccount machine fun _ => b, ns)
  let s := if deletes.isEmpty then s else s.removeAccount machine
  let s := forEach (writes ++ deletes) (fun e => State.postTo e.source (.deferredApplied e)) s
  postAll ns s

/-! ## Hour readings (R114, R115) -/

/-- R114: whether a reading is plausible against an account, with the class's tolerance. -/
def plausible (a : Account) (tolerance reading readingTime : Nat) : Bool :=
  reading ≤ Config.maxHours &&
    match a.hourMeter with
    | none => true
    | some h => h.value ≤ reading && reading - h.value ≤ (readingTime - h.time) * 10 / 3600 + tolerance

/-- R115: what a reading found plausible or not does to the account. -/
def storeReading (ok : Bool) (reading readingTime : Nat) (a : Account) : Account :=
  if ok then { a with hourMeter := some ⟨reading, readingTime⟩, implausibleRun := 0 }
  else
    let run := min 3 (a.implausibleRun + 1)
    { a with
      implausibleRun := run
      status := if run = 3 ∧ a.status = .active then .held .hours else a.status }

/-! ## Fuel and burn (R117 to R120) -/

/-- R117: a FUEL order's net added to the shift used and the fuel total. -/
def addFuel (netDl : Nat) (a : Account) : Account :=
  { a with
    shiftUsed := saturate Config.maxDecilitres (a.shiftUsed + netDl)
    fuelTotal := saturate Config.maxFuelTotal (a.fuelTotal + netDl) }

/-- R119: a burn sample in 0.1 L/h, from decilitres and tenths of an hour, rounded half up. -/
def burnSample (f h : Nat) : Nat := (20 * f + h) / (2 * h)

/-- R120: the burn average after a taken sample. -/
def averageAfter (old : Option Nat) (sample : Nat) : Nat :=
  match old with
  | none => sample
  | some old => ((old : Int) + ((sample : Int) - old).tdiv 4).toNat

/-- R119, R120: a sample judged against the burn band of the class. -/
def judgeSample (c : ClassRecord) (sample : Nat) (a : Account) : Account :=
  if c.bandMin ≤ sample ∧ sample ≤ c.bandMax then
    { a with
      samplesTaken := saturate Config.maxSamples (a.samplesTaken + 1)
      burnAverage := some (averageAfter a.burnAverage sample) }
  else { a with samplesRejected := saturate Config.maxSamples (a.samplesRejected + 1) }

/-- R118: the full reference and the fuel since full at the close of a FUEL order. -/
def fullToFull (c : ClassRecord) (cause : Cause) (ok : Bool) (reading : Option Nat) (netDl : Nat)
    (a : Account) : Account :=
  if cause = .full then
    match ok, reading with
    | true, some r =>
      let b := match a.fullRef with
        | some ref =>
          if 10 ≤ r - ref then judgeSample c (burnSample (a.fuelSinceFull + netDl) (r - ref)) a else a
        | none => a
      { b with fullRef := some r, fuelSinceFull := 0 }
    | _, _ => { a with fullRef := none, fuelSinceFull := 0 }
  else { a with fuelSinceFull := saturate Config.maxDecilitres (a.fuelSinceFull + netDl) }

/-- R122: the lines of a product reset by a SERVICE order. -/
def resetLines (k : ProductId) (a : Account) : Account :=
  { a with lines := a.lines.map fun l =>
      if l.product = k then
        { l with lastService := (a.hourMeter.map HourMeter.value).getD 0, topUp := 0, state := .ok }
      else l }

/-- R122: a TOPUP order's net added to the lines of its product. -/
def topUpLines (k : ProductId) (netDl : Nat) (a : Account) : Account :=
  { a with lines := a.lines.map fun l =>
      if l.product = k then { l with topUp := saturate Config.maxDecilitres (l.topUp + netDl) } else l }

/-! ## The close-time updates (R116) -/

/-- R114: the plausible field of a record: absent when the order has no reading, or holds no account. -/
def State.assess (s : State) (o : Order) : Option Bool :=
  match o.machine.bind s.account, o.hours, o.readingTime with
  | some a, some reading, some time =>
    if a.openSet.contains o.number then
      some (plausible a (look s.accounts.classes a.klass).tolerance reading time)
    else none
  | _, _, _ => none

/-- R116, steps 1 to 5, on an account: the reading, the fuel, the lines and the service states. -/
def updateAtClose (c : ClassRecord) (o : Order) (netDl : Nat) (cause : Cause) (ok : Option Bool)
    (a : Account) : Account × List Notice :=
  let a := match ok, o.hours, o.readingTime with
    | some ok, some reading, some time => storeReading ok reading time a
    | _, _, _ => a
  let a := match o.kind with
    | .fuel => fullToFull c cause (ok = some true) o.hours netDl (addFuel netDl a)
    | .service => resetLines o.product a
    | .topup => topUpLines o.product netDl a
    | .waste => a
  reevaluate a

/-- R116, R127: the close-time updates of an order whose number stands in an account's open-order set.  The
SERVICE_DUE notices follow the steps of the close (R123). -/
def closeUpdates (o : Order) (netDl : Nat) (cause : Cause) (ok : Option Bool) (s : State) : State :=
  match o.machine with
  | none => s
  | some machine =>
    match s.account machine with
    | none => s
    | some a =>
      if a.openSet.contains o.number then
        let (b, ns) := updateAtClose (look s.accounts.classes a.klass) o netDl cause ok a
        let b := { b with openSet := b.openSet.filter fun n => n ≠ o.number }
        let s := s.updAccount machine fun _ => b
        let s := if b.openSet.isEmpty then applyDeferred machine s else s
        postAll ns s
      else s

/-- R22, R30: an order joins an account's open-order set. -/
def joinOpenSet (machine number : Nat) (s : State) : State :=
  s.updAccount machine fun a => { a with openSet := a.openSet ++ [number] }

/-! ## Checks 9 to 13 of R21 -/

/-- R23: the allowance remaining. -/
def allowanceRemaining (a : Account) : Nat := a.allowance - a.shiftUsed

/-- R21, checks 10 to 13, and check 9 where a machine is named: what fails each, and its status. -/
def accountChecks (machine : Nat) (kind : OrderKind) (product : ProductId) (override : Bool) (s : State) :
    List (Bool × Status) :=
  match s.account machine with
  | none => [(true, .unknownMachine)]
  | some a =>
    [ (a.status = .barred, .accountBarred),
      (a.status.name = .held && !override, .accountHeld),
      (3 ≤ a.openSet.length || a.openSet.any fun n => s.productOfOrder n = some product, .machineInUse),
      (kind = .fuel && a.allowance ≠ 0 && a.allowance ≤ a.shiftUsed && !override, .allowanceSpent) ]

/-! ## Shifts (R126) -/

/-- R126: the shift change. -/
def shiftChange (s : State) : State :=
  { s with accounts := { s.accounts with
      table := s.accounts.table.map fun a => { a with shiftUsed := 0 }
      lastShiftChange := s.seconds } }

/-! ## Requests on one account (R106 to R109) -/

/-- R105: the layout of a service line of an account. -/
def serviceLineItems (l : ServiceLine) : List Item :=
  [itemId l.product, item2 l.interval, item4 l.lastService, item4 l.topUp, item1 l.state.code]

/-- R105, R107: an account as READ_ACCOUNT gives it: the whole record, the remaining-to-due of each line and
the allowance remaining. -/
def accountItems (a : Account) : List Item :=
  [ item2 a.machine, item1 a.klass.val, item1 (statusCode a.status.name),
    .nat 1 (a.status.reason.map HoldReason.code), .nat 4 (a.hourMeter.map HourMeter.value),
    .nat 8 (a.hourMeter.map HourMeter.time), .nat 4 a.fullRef, item4 a.fuelSinceFull, .nat 4 a.burnAverage,
    item2 a.samplesTaken, item2 a.samplesRejected, item1 a.implausibleRun, item4 a.allowance,
    item4 a.shiftUsed, item4 a.fuelTotal, item1 (actionCode a.action) ] ++
  itemList 4 12 serviceLineItems a.lines ++ itemList 3 4 (fun n => [item4 n]) a.openSet ++
  itemList 4 4 (fun l => [item4 (remainingToDue a.hourMeter l)]) a.lines ++ [item4 (allowanceRemaining a)]

/-- R105: machine numbers run from 1 to 65,534. -/
def machineInRange (n : Nat) : Bool := 1 ≤ n && n ≤ 65534

/-- R107: READ_ACCOUNT. -/
def readAccountRequest (machine : Nat) (s : State) : Answer :=
  if !machineInRange machine then refuse .range s
  else match s.account machine with
    | none => refuse .notFound s
    | some a => ⟨.ok, accountItems a, s⟩

/-- R105: the service lines of a request, each in range and with top-up 0, at most four. -/
def readLine (l : LineFields) : Option ServiceLine :=
  match numbered 8 l.product with
  | some k =>
    if 1 ≤ l.interval ∧ l.interval ≤ 10000 ∧ l.lastService ≤ Config.maxHours then
      some ⟨k, l.interval, l.lastService, 0, .ok⟩
    else none
  | none => none

def readLines : List LineFields → Option (List ServiceLine)
  | [] => some []
  | l :: rest =>
    match readLine l, readLines rest with
    | some x, some xs => some (x :: xs)
    | _, _ => none

/-- R105: a list of at most four lines, each in range. -/
def readLineList (ls : Coded (List LineFields)) : Option (List ServiceLine) :=
  match ls with
  | some ls => if ls.length ≤ 4 then readLines ls else none
  | none => none

/-- R105: a class number 0 to 15. -/
def readClassId (n : Nat) : Option ClassId := if h : n < 16 then some ⟨n, h⟩ else none

/-- R105: a shift allowance 0 to 200,000 dL. -/
def allowanceInRange (n : Nat) : Bool := n ≤ 200000

/-- R108: the record ADD_ACCOUNT asks for, when every field is in range; its lines not yet evaluated. -/
def newAccount (f : AddAccount) (now : Nat) : Option Account :=
  match readClassId f.klass, f.status, f.action, readLineList f.lines with
  | some klass, some status, some action, some lines =>
    if machineInRange f.machine && allowanceInRange f.allowance && f.hourMeter.all (· ≤ Config.maxHours) then
      some
        { machine := f.machine, klass := klass, status := writtenStatus status
          hourMeter := f.hourMeter.map fun x => ⟨x, now⟩, fullRef := none, fuelSinceFull := 0
          burnAverage := none, samplesTaken := 0, samplesRejected := 0, implausibleRun := 0
          allowance := f.allowance, shiftUsed := 0, fuelTotal := 0, action := action, lines := lines
          openSet := [] }
    else none
  | _, _, _, _ => none

/-- R108: ADD_ACCOUNT. -/
def addAccountRequest (v : Via) (f : AddAccount) (s : State) : Answer :=
  if !(s.perms v.link).accounts then refuse .notPermitted s
  else match newAccount f s.seconds with
    | none => refuse .range s
    | some a =>
      if (s.account a.machine).isSome then refuse .duplicate s
      else if Config.maxAccounts ≤ s.accounts.table.length then refuse .tableFull s
      else
        let (b, ns) := reevaluate a
        done (postAll ns (s.setTable (insertAccount b s.accounts.table)))

/-- R109, R141: DELETE_ACCOUNT. -/
def deleteAccountRequest (v : Via) (machine : Nat) (s : State) : Answer :=
  if !(s.perms v.link).accounts then refuse .notPermitted s
  else if !machineInRange machine then refuse .range s
  else match s.account machine with
    | none => refuse .notFound s
    | some a =>
      if a.openSet.isEmpty then done (s.removeAccount machine)
      else match deferChanges machine [.delete] v.link s.accounts.deferred with
        | none => refuse .deferFull s
        | some queue => ⟨.deferred, [], s.setDeferred queue⟩

/-- R138: a field of WRITE_ACCOUNT read into the write it asks for: absent, in range, or out of range. -/
def readField {α β : Type} (x : Option α) (f : α → Option β) : Option (List β) :=
  match x with
  | none => some []
  | some x => (f x).map fun y => [y]

/-- R112, R138: the writes WRITE_ACCOUNT names, in the order of R112; `none` when one is out of range. -/
def writesOf (f : WriteAccount) : Option (List AccountWrite) :=
  match readField f.status (·.map .status), readField f.klass (fun n => (readClassId n).map .klass),
    readField f.allowance (fun n => if allowanceInRange n then some (.allowance n) else none),
    readField f.hourMeter (fun n => if n ≤ Config.maxHours then some (.hourMeter n) else none),
    readField f.action (·.map .action), readField f.lines (fun ls => (readLineList ls).map .lines) with
  | some a, some b, some c, some d, some e, some g => some (a ++ b ++ c ++ d ++ e ++ g)
  | _, _, _, _, _, _ => none

/-- R138, R140: WRITE_ACCOUNT. -/
def writeAccountRequest (v : Via) (f : WriteAccount) (s : State) : Answer :=
  if !(s.perms v.link).accounts then refuse .notPermitted s
  else match writesOf f with
    | none | some [] => refuse .range s
    | some ws =>
      if !machineInRange f.machine then refuse .range s
      else match s.account f.machine with
        | none => refuse .notFound s
        | some a =>
          if s.deleteWaits f.machine then refuse .accountDeleting s
          else if a.openSet.isEmpty then done (writeNow f.machine ws s)
          else match deferChanges f.machine (ws.map .write) v.link s.accounts.deferred with
            | none => refuse .deferFull s
            | some queue => ⟨.deferred, [], s.setDeferred queue⟩

/-- R106: READ_CLASS. -/
def readClassRequest (klass : Nat) (s : State) : Answer :=
  match readClassId klass with
  | none => refuse .range s
  | some c =>
    let r := look s.accounts.classes c
    ⟨.ok, [item2 r.bandMin, item2 r.bandMax, item4 r.capacity, item2 r.tolerance], s⟩

/-- R106: SET_CLASS. -/
def setClassRequest (v : Via) (f : SetClass) (s : State) : Answer :=
  if !(s.perms v.link).accounts then refuse .notPermitted s
  else match readClassId f.klass with
    | none => refuse .range s
    | some c =>
      if f.bandMin ≤ f.bandMax ∧ f.bandMax ≤ 65535 ∧ 1 ≤ f.capacity ∧ f.capacity ≤ 200000 ∧ f.tolerance ≤ 1000 then
        done { s with accounts := { s.accounts with
          classes := put s.accounts.classes c ⟨f.bandMin, f.bandMax, f.capacity, f.tolerance⟩ } }
      else refuse .range s

end Sys2Proof.Machine
end

