-- ==== Sys2Proof/Machine/AccountTable.lean ====
section
/-! DEFINITION. The long-operation slot of a link (section 10.5), and the mechanisms that work on the account
table (chapter 7): cursors, scans, range status changes and the reading of the deferred queue. -/

namespace Sys2Proof.Machine

open Sys2Proof

/-! ## The long-operation slot (R187, R188) -/

/-- R187: the running operation of a link completes: its result replaces any result held, the slot holds no
running operation, and OPERATION_DONE is posted to this link. -/
def completeLong (l : Link) (content : LongContent) (s : State) : State :=
  match (s.link l).running with
  | none => s
  | some op =>
    (s.updLink l fun u => { u with running := none, result := some ⟨content, op.tag⟩ }).postTo l
      (.operationDone content.kind op.tag content.outcome)

/-- R187: a long operation's last check, and its start in the requesting link's slot. -/
def startLong (v : Via) (work : LongWork) (s : State) : Answer :=
  if (s.link v.link).running.isSome then refuse .longBusy s
  else ⟨.accepted, [], s.updLink v.link fun u => { u with running := some ⟨work, v.tag⟩ }⟩

/-- The content of a result, as FETCH_RESULT gives it.  Log entry 18, the model's choice (DESIGN CHOICE): a result carries
the content of its own operation alone, and not as a choice between forms with the fields of the others absent. -/
def LongContent.items : LongContent → List Item
  | .scan _ hits lastVisited => itemList 8 2 (fun n => [item2 n]) hits ++ [item2 lastVisited]
  | .range _ changed deferred passed firstNotDone =>
    [item2 changed, item2 deferred, item2 passed, .nat 2 firstNotDone]
  | .report _ taken => taken.getD []

/-- R188: FETCH_RESULT. -/
def fetchResultRequest (v : Via) (s : State) : Answer :=
  let u := s.link v.link
  match u.result with
  | none => ⟨.noResult, [itemFlag u.running.isSome], s⟩
  | some r =>
    ⟨.ok,
      [item1 r.content.kind, item1 r.tag.toNat, item1 r.content.outcome] ++ r.content.items ++
        [itemFlag u.running.isSome], s⟩

/-! ## Cursors (R129, R130) -/

def State.setCursor (l : Link) (n : Nat) (s : State) : State :=
  { s with accounts := { s.accounts with cursors := put s.accounts.cursors l n } }

/-- R129: SET_CURSOR. -/
def setCursorRequest (v : Via) (machine : Nat) (s : State) : Answer :=
  if 65534 < machine then refuse .range s else done (s.setCursor v.link machine)

/-- R131: the first account numbered above a position. -/
def State.accountAbove (s : State) (position : Nat) : Option Account :=
  s.accounts.table.find? fun a => position < a.machine

/-- R130: READ_NEXT_ACCOUNT; the account, then whether it is marked END. -/
def readNextAccountRequest (v : Via) (s : State) : Answer :=
  match s.accountAbove (look s.accounts.cursors v.link) with
  | some a => ⟨.ok, accountItems a ++ [itemFlag false], s.setCursor v.link a.machine⟩
  | none =>
    match s.accounts.table.getLast? with
    | some a => ⟨.ok, accountItems a ++ [itemFlag true], s.setCursor v.link a.machine⟩
    | none => refuse .notFound s

/-! ## Scans (R132 to R134) -/

/-- R132: SCAN_ACCOUNTS. -/
def scanAccountsRequest (v : Via) (f : ScanAccounts) (s : State) : Answer :=
  match f.field, f.condition with
  | some field, some condition =>
    if f.value ≤ Config.maxCount ∧ f.start ≤ 65534 ∧ 1 ≤ f.limit ∧ f.limit ≤ 8 then
      startLong v (.scan ⟨field, condition, f.value, f.limit, f.start, []⟩) s
    else refuse .range s
  | _, _ => refuse .range s

/-- The least of a list, absent when it is empty. -/
def leastOf : List Nat → Option Nat
  | [] => none
  | x :: xs => some (xs.foldl min x)

/-- R133: the scan figure of an account, absent when it has none. -/
def scanFigure (field : ScanField) (a : Account) : Option Nat :=
  match field with
  | .serviceRemaining => leastOf (a.lines.map (remainingToDue a.hourMeter))
  | .burnAverage => a.burnAverage
  | .shiftUsed => some a.shiftUsed
  | .hourMeter => a.hourMeter.map HourMeter.value
  | .classNumber => some a.klass.val
  | .status => some (match a.status with | .active => 0 | .held _ => 1 | .barred => 2)

/-- R132, R133: the wildcard value. -/
def wildcard : Nat := 4294967295

/-- R133: whether an account matches a scan. -/
def scanMatches (w : ScanWork) (a : Account) : Bool :=
  if w.value = wildcard then true
  else match scanFigure w.field a with
    | none => false
    | some figure => match w.condition with
      | .equal => figure = w.value
      | .atMost => figure ≤ w.value
      | .atLeast => w.value ≤ figure

/-- The running operation of a link goes on with new work. -/
def continueLong (l : Link) (work : LongWork) (s : State) : State :=
  s.updLink l fun u => { u with running := u.running.map fun op => { op with work := work } }

/-- R131, R134: one visit of a scan. -/
def scanVisitWork (l : Link) (w : ScanWork) (s : State) : State :=
  match s.accountAbove w.position with
  | none => completeLong l (.scan .notSatisfied w.hits w.position) s
  | some a =>
    let hits := if scanMatches w a then w.hits ++ [a.machine] else w.hits
    if scanMatches w a ∧ w.limit ≤ hits.length then completeLong l (.scan .hit hits a.machine) s
    else continueLong l (.scan { w with position := a.machine, hits := hits }) s

/-- R131: the visit event of the scan running in a link's slot. -/
def scanVisitEvent (l : Link) (s : State) : State :=
  match (s.link l).running with
  | some ⟨.scan w, _⟩ => scanVisitWork l w s
  | _ => s

/-! ## Range status changes (R135 to R137) -/

/-- R135: an optional class filter in its range. -/
def readFilter : Option Nat → Option (Option ClassId)
  | none => some none
  | some n => (readClassId n).map some

/-- R135: SET_RANGE_STATUS. -/
def setRangeStatusRequest (v : Via) (f : SetRangeStatus) (s : State) : Answer :=
  if !(s.perms v.link).accounts then refuse .notPermitted s
  else match readFilter f.klass, f.status with
    | some filter, some status =>
      if machineInRange f.first ∧ f.first ≤ f.last ∧ f.last ≤ 65534 then
        startLong v (.range ⟨f.last, filter, status, f.first - 1, 0, 0, 0⟩) s
      else refuse .range s
    | _, _ => refuse .range s

/-- R137: the result of a range operation that completes. -/
def rangeResult (outcome : RangeOutcome) (w : RangeWork) (firstNotDone : Option Nat) : LongContent :=
  .range outcome w.changed w.deferred w.passed firstNotDone

/-- R136: one visit of a range operation. -/
def rangeVisitWork (l : Link) (w : RangeWork) (s : State) : State :=
  match s.accountAbove w.position with
  | none => completeLong l (rangeResult .done w none) s
  | some a =>
    if w.last < a.machine then completeLong l (rangeResult .done w none) s
    else
      let w' := { w with position := a.machine }
      if w.filter.any fun c => a.klass ≠ c then continueLong l (.range w') s
      else if s.deleteWaits a.machine then continueLong l (.range { w' with passed := w.passed + 1 }) s
      else if a.openSet.isEmpty then
        continueLong l (.range { w' with changed := w.changed + 1 }) (writeNow a.machine [.status w.status] s)
      else match deferChanges a.machine [.write (.status w.status)] l s.accounts.deferred with
        | some queue =>
          continueLong l (.range { w' with deferred := w.deferred + 1 }) (s.setDeferred queue)
        | none => completeLong l (rangeResult .part w (some a.machine)) s

/-- R131: the visit event of the range operation running in a link's slot. -/
def rangeVisitEvent (l : Link) (s : State) : State :=
  match (s.link l).running with
  | some ⟨.range w, _⟩ => rangeVisitWork l w s
  | _ => s

/-! ## Stopping a long operation (R188) -/

/-- R137: the first account of a range still to be done, as the table stands at the stop. -/
def firstNotDone (w : RangeWork) (s : State) : Option Nat :=
  match s.accountAbove w.position with
  | some a => if a.machine ≤ w.last then some a.machine else none
  | none => none

/-- R84, R134, R137: the result of an operation that STOP_LONG ends. -/
def stoppedResult (work : LongWork) (s : State) : LongContent :=
  match work with
  | .scan w => .scan .stopped w.hits w.position
  | .range w => rangeResult .stopped w (firstNotDone w s)
  | .settled _ _ => .report .stopped none

/-- R188: STOP_LONG. -/
def stopLongRequest (v : Via) (s : State) : Answer :=
  match (s.link v.link).running with
  | none => refuse .noOperation s
  | some op => done (completeLong v.link (stoppedResult op.work s) s)

/-! ## READ_DEFERRED (R143) -/

/-- R143: an entry with its place in the queue. -/
def deferredEntryItems (place : Nat) (e : DeferredEntry) : List Item :=
  item2 e.machine :: changeItems e.change ++ [itemId e.source, item1 place]

/-- R143: the entries of a queue from a place on, all or those of one machine. -/
def deferredFrom (machine : Option Nat) : Nat → List DeferredEntry → List (List Item)
  | _, [] => []
  | place, e :: rest =>
    if machine.all (e.machine = ·) then deferredEntryItems place e :: deferredFrom machine (place + 1) rest
    else deferredFrom machine (place + 1) rest

/-- R143: READ_DEFERRED. -/
def readDeferredRequest (machine : Option Nat) (s : State) : Answer :=
  if machine.all machineInRange then
    let entries := deferredFrom machine 1 s.accounts.deferred
    ⟨.ok, itemList 16 45 id entries ++ [item1 (Config.maxDeferred - s.accounts.deferred.length)], s⟩
  else refuse .range s

end Sys2Proof.Machine
end

