-- ==== Sys2Proof/Machine/Stock.lean ====
section
/-! DEFINITION. The stock unit (chapter 4): conditions, chain checks, window postings, gauges, stock checks,
the loss watch, adjustments, tank service and stock reports. -/

namespace Sys2Proof.Machine

open Sys2Proof

/-- A figure in decilitres as microlitres (R66). -/
def microlitres (dl : Nat) : Int := (dl : Int) * 100000

/-! ## Conditions, low alarm and quiet window (R66, R68, R78) -/

/-- R66: a tank's low condition after an evaluation. -/
def lowAfter (set : TankSettings) (waste : Bool) (t : Tank) : Bool :=
  if waste then false
  else if t.book ≤ microlitres set.lowCut then true
  else if microlitres (set.lowCut + set.hysteresis) < t.book then false
  else t.low

/-- R66: a tank's full condition after an evaluation. -/
def fullAfter (set : TankSettings) (waste : Bool) (t : Tank) : Bool :=
  if !waste then false
  else if microlitres set.highCut ≤ t.book then true
  else if t.book < microlitres set.highCut - microlitres set.hysteresis then false
  else t.full

/-- R66: the two stock conditions of a tank evaluated. -/
def evaluateConditions (t : TankId) (s : State) : State :=
  let set := s.tankSet t
  let waste := s.isWaste set.product
  s.updTank t fun x => { x with low := lowAfter set waste x, full := fullAfter set waste x }

/-- R68: TANK_LOW, posted when a change of the book from `before` has crossed the low alarm downward. -/
def judgeLowAlarm (t : TankId) (before : Int) (s : State) : State :=
  let set := s.tankSet t
  let alarm := microlitres set.lowAlarm
  let book := (s.tank t).book
  if alarm ≤ before ∧ book < alarm then s.post (.tankLow t set.product (decilitres book)) else s

/-- R78: the quiet window of a tank restarted. -/
def restartQuiet (t : TankId) (s : State) : State :=
  s.updTank t fun x => { x with quietStart := s.seconds, quietRef := x.gauged }

/-! ## The chain check (R69, R70) -/

/-- R69: the first eligible tank of a list of a product's tanks. -/
def State.firstEligible (s : State) (k : ProductId) (tanks : List TankId) : Option TankId :=
  tanks.find? (s.eligible k)

/-- R69: a chain from the tank after a given one, wrapping round to the start and ending at the tank. -/
def chainAfter (t : TankId) (chain : List TankId) : List TankId :=
  (chain.dropWhile (· ≠ t)).drop 1 ++ chain.takeWhile (· ≠ t) ++ [t]

/-- R69: the draw tank a check gives.  `fromStart` says that the chain or the kind has just been written, or
the settings store has just been found blank; that line is taken before the others (log entry 31). -/
def State.drawAfter (s : State) (k : ProductId) (fromStart : Bool) : Option TankId :=
  let chain := (s.productSet k).chain
  match (s.draw k).current with
  | none => s.firstEligible k chain
  | some t =>
    if fromStart then s.firstEligible k chain
    else if chain.contains t && s.eligible k t then some t
    else s.firstEligible k (chainAfter t chain)

/-- R70: the reason of PRODUCT_EMPTY and of an exhaustion report. -/
def State.exhaustionReason (s : State) (k : ProductId) : Cause :=
  if s.stock.tripping then .trip else if s.isWaste k then .wasteFull else .tankEmpty

/-- R70: a product's draw tank moved, with the notice and the exhaustion report of the move. -/
def moveDraw (k : ProductId) (new : Option TankId) (s : State) : State :=
  match (s.draw k).current, new with
  | some old, some t =>
    if old = t then s
    else (s.updDraw k fun _ => ⟨some t, some old⟩).post (.drawChanged k (some old) t)
  | none, some t => (s.updDraw k fun d => { d with current := some t }).post (.drawChanged k none t)
  | some old, none =>
    let reason := s.exhaustionReason k
    let s := (s.updDraw k fun _ => ⟨none, some old⟩).post (.productEmpty k old reason)
    { s with stock := { s.stock with reports := s.stock.reports ++ [⟨k, reason⟩] } }
  | none, none => s

/-- R69, R70: a chain check. -/
def chainCheck (k : ProductId) (fromStart : Bool) (s : State) : State := moveDraw k (s.drawAfter k fromStart) s

/-- R69: conditions changed, with the chain check of the tank's product when one of them has moved. -/
def checkIfMoved (t : TankId) (before : Tank) (s : State) : State :=
  let now := s.tank t
  if now.low ≠ before.low ∨ now.full ≠ before.full then chainCheck (s.tankSet t).product false s else s

/-! ## Postings (R71 to R73) -/

/-- R71, step 1 and steps 3 to 6: a tank's book changed by an amount, with all that follows. -/
def postToTank (t : TankId) (amount : Int) (s : State) : State :=
  let before := s.tank t
  let s := s.updTank t fun x => { x with book := x.book + amount }
  let s := evaluateConditions t s
  let s := judgeLowAlarm t before.book s
  let s := restartQuiet t s
  checkIfMoved t before s

/-- R72: an amount added to the tank entries of an order, in first-draw order. -/
def addEntry (t : TankId) (amount : Int) : List TankEntry → List TankEntry
  | [] => [⟨t, amount⟩]
  | e :: rest => if e.tank = t then { e with amount := e.amount + amount } :: rest else e :: addEntry t amount rest

/-- R73: a dispense posting entered in the debit tally of every delivery open on the tank. -/
def addTallies (t : TankId) (amount : Int) (s : State) : State :=
  forEach allInlets
    (fun i => State.updDelivery i fun d => if d.tank = t then { d with tally := d.tally - amount } else d) s

/-- R72: the signed amount of a window of an order. -/
def signedNet (kind : OrderKind) (net : Nat) : Int := if kind = .waste then net else -(net : Int)

/-- R72: the tank a window of an order goes to. -/
def State.postingTank (s : State) (k : ProductId) : Option TankId :=
  match (s.draw k).current with
  | some t => some t
  | none => (s.draw k).last

/-- R71, R72: a window of a dispense order posted.  An open order's product always has a draw tank or a last
draw tank (check 8 of R21), so the last arm is never taken in a run. -/
def postOrderWindow (p : PointId) (net : Nat) (s : State) : State :=
  if net = 0 then s
  else match (s.point p).order with
    | none => s
    | some o =>
      match s.postingTank o.product with
      | none => s
      | some t =>
        let amount := signedNet o.kind net
        let s := s.updOrder p fun o => { o with entries := addEntry t amount o.entries }
        postToTank t amount (addTallies t amount s)

/-- R71, R73: a window of a delivery credited to its target tank; its one entry is its running net. -/
def postDeliveryWindow (i : InletId) (net : Nat) (s : State) : State :=
  if net = 0 then s
  else match (s.inlet i).delivery with
    | none => s
    | some d => postToTank d.tank net s

/-- R73: a delivery's hold on its tank's RECEIVING flag let go.  When that clears the flag the quiet window
restarts (R78) and a chain check follows.  Log entry 50, the model's choice (DESIGN CHOICE): the check follows each
change of a flag at once (R73), also where the same event goes on to change another flag or condition of the chain, for
which R69 has all set first and one check. -/
def clearReceiving (i : InletId) (s : State) : State :=
  match (s.inlet i).delivery with
  | none => s
  | some d =>
    let s := s.updDelivery i fun d => { d with holdsFlag := false }
    if d.holdsFlag && !s.receiving d.tank then
      chainCheck (s.tankSet d.tank).product false (restartQuiet d.tank s)
    else s

/-! ## Gauges (R74 to R76) -/

/-- R75: the volume between two points of a strapping table. -/
def strapBetween (a b : StrapPoint) (level : Nat) : Nat :=
  a.volume + (b.volume - a.volume) * (level - a.level) / (b.level - a.level)

/-- R75: the volume at a level on the rest of a table, above its point `a`. -/
def strapAbove (a : StrapPoint) (level : Nat) : List StrapPoint → Nat
  | [] => a.volume
  | b :: rest => if level ≤ b.level then strapBetween a b level else strapAbove b level rest

/-- R75: the strapping volume at a level.  A first point at level 0 has no level below it. -/
def strapVolume (table : Table 12 StrapPoint) (level : Nat) : Nat :=
  match table.toList with
  | [] => 0
  | a :: rest => if level < a.level then a.volume * level / a.level else strapAbove a level rest

/-- R75: a level above the table's last point. -/
def isOverStrap (table : Table 12 StrapPoint) (level : Nat) : Bool := (look table 11).level < level

/-- R76: the gauged net of a tank at a level and a temperature. -/
def State.gaugedNet (s : State) (t : TankId) (level : Nat) (t10 : Int) : Int :=
  let set := s.tankSet t
  (strapVolume set.strapping level : Int) * factor (s.productSet set.product).beta (clampTemperature t10) / 10000000

/-- R76: a tank's variance recomputed. -/
def recomputeVariance (t : TankId) (s : State) : State :=
  s.updTank t fun x => { x with variance := x.gauged.map fun g => g - decilitres x.book }

/-- R74: a report that is a valid reading. -/
def validReading (report : Option GaugeReport) : Option GaugeReport :=
  match report with
  | some r => if r.level ≤ 65535 then some r else none
  | none => none

/-- R74: entry to FAULT. -/
def gaugeFails (t : TankId) (s : State) : State :=
  (s.updTank t fun x => { x with gauge := .fault, gauged := none, variance := none }).post
    (.gaugeFault t (s.tank t).lastGood)

/-- R74: an invalid reading. -/
def invalidReading (t : TankId) (s : State) : State :=
  let x := s.tank t
  let s := s.updTank t fun x => { x with stable := false }
  match x.gauge with
  | .fault => s
  | .waiting =>
    if s.seconds - s.bay.restart.seconds < Config.gaugeHoldSeconds then s else gaugeFails t s
  | .good | .held =>
    if s.seconds - x.lastGood.getD 0 < Config.gaugeHoldSeconds then
      s.updTank t fun x => { x with gauge := .held }
    else gaugeFails t s

/-- R85: the rebase of a pending tank at its first valid reading.  DEDUCED: its chain check is that of R69, which
keeps a draw tank that is present and eligible (log entry 48). -/
def rebase (t : TankId) (s : State) : State :=
  let before := s.tank t
  if before.rebasePending then
    let s := s.updTank t fun x =>
      { x with book := x.gauged.getD 0 * 100000, rebased := true, rebasePending := false }
    let s := evaluateConditions t s
    let s := judgeLowAlarm t before.book s
    chainCheck (s.tankSet t).product false (restartQuiet t s)
  else s

/-- R74 to R76, R85: a valid reading, up to the variance (log entry 21: the variance follows the rebase). -/
def takeReading (t : TankId) (r : GaugeReport) (s : State) : State :=
  let before := s.tank t
  let gauged := s.gaugedNet t r.level r.temperature
  let s := s.updTank t fun x =>
    { x with
      gauge := .good, gauged := some gauged, stable := r.stable, lastGood := some s.seconds
      overStrap := isOverStrap (s.tankSet t).strapping r.level }
  let s := if before.gauge = .fault ∨ before.gauge = .waiting then restartQuiet t s else s
  recomputeVariance t (rebase t s)

/-- R79: whether the loss watch finds a tank to have lost stock at a reading just taken. -/
def State.hasLost (s : State) (t : TankId) : Bool :=
  let x := s.tank t
  !s.receiving t && x.quietStart + s.store.timing.quietPeriod * 60 ≤ s.seconds &&
    match x.quietRef, x.gauged with
    | some ref, some gauged => ((s.tankSet t).leakThreshold : Int) < ref - gauged
    | _, _ => false

/-! ## Stock checks (R77) -/

/-- R77: one tank at a stock check. -/
def stockCheckTank (t : TankId) (s : State) : State :=
  let x := s.tank t
  if x.gauge = .good ∨ x.gauge = .held then
    match x.variance with
    | none => s
    | some variance =>
      if ((s.tankSet t).tolerance : Int) < variance.natAbs then
        let run := min 3 (x.runCount + 1)
        let s := s.updTank t fun x => { x with runCount := run }
        if x.runCount < 3 ∧ run = 3 then
          s.post (.stockVariance t (decilitres x.book) x.gauged variance)
        else s
      else s.updTank t fun x => { x with runCount := 0 }
  else s

/-- R77: the stock check timer runs out. -/
def stockCheckEvent (s : State) : State :=
  let s := s.reach s.stock.checkDue
  let s := { s with stock := { s.stock with checkDue := s.clock + s.store.timing.checkPeriod * 60000 } }
  forEach allTanks stockCheckTank s

/-- R77: SET_STOCK_TIMING (log entry 22). -/
def setStockTimingRequest (v : Via) (f : SetStockTiming) (s : State) : Answer :=
  if !(s.perms v.link).configure then refuse .notPermitted s
  else if 5 ≤ f.checkPeriod ∧ f.checkPeriod ≤ 60 ∧ 10 ≤ f.quietPeriod ∧ f.quietPeriod ≤ 240 then
    done { s with
      store := { s.store with timing := f }
      stock := { s.stock with checkDue := s.clock + f.checkPeriod * 60000 } }
  else refuse .range s

/-! ## Stock reports (R83, R84) -/

/-- R67: the code of the state a tank shows, in the order of the rule's table. -/
def TankShows.code : TankShows → Nat
  | .outOfService => 1 | .bundTripped => 2 | .drawnDown => 3 | .full => 4 | .available => 5

/-- R83: a tank's place in a chain, 1 to 4, absent when it is not in it. -/
def placeIn (t : TankId) (chain : List TankId) : Option Nat := (chain.idxOf? t).map (· + 1)

/-- R83: what a report gives of one tank. -/
def tankReportItems (k : ProductId) (s : State) (t : TankId) : List Item :=
  let x := s.tank t
  [ itemId t, .nat 1 (placeIn t (s.productSet k).chain), item1 (s.tankShows t).code,
    itemFlag (s.tankSet t).outOfService, itemFlag (s.tankTripped t), itemFlag x.low, itemFlag x.full,
    itemInt4 (decilitres x.book), item1 x.gauge.code, itemGauged x.gauged, .int 4 x.variance, item1 x.runCount,
    itemFlag (s.receiving t), itemFlag x.rebased, itemFlag x.rebasePending, itemFlag x.overStrap ]

/-- R83: the sum of the running nets of the dispense orders open on a product. -/
def State.ordersNet (s : State) (k : ProductId) : Nat :=
  (allPoints.map fun p => match (s.point p).order with
    | some o => if o.product = k then o.net else 0
    | none => 0).sum

/-- R83: the sum of the running nets of the deliveries open on a product. -/
def State.deliveriesNet (s : State) (k : ProductId) : Nat :=
  (allInlets.map fun i => match (s.inlet i).delivery with
    | some d => if d.product = k then d.net else 0
    | none => 0).sum

/-- R83: a stock report at this moment. -/
def stockReport (k : ProductId) (s : State) : List Item :=
  let set := s.productSet k
  [ itemId k, item1 (productKindCode set.kind), .text 8 set.name, itemId? (s.draw k).current,
    itemId? (s.draw k).last, item4 s.seconds, item4 s.calendar ] ++
  itemList 12 25 (tankReportItems k s) (allTanks.filter fun t => (s.tankSet t).product = k) ++
  [ itemInt4 (decilitres (s.ordersNet k)), itemInt4 (decilitres (s.deliveriesNet k)),
    item1 (if s.openOnProduct k then 1 else 2) ]

/-- R83: STOCK_REPORT in mode NOW. -/
def stockReportNowRequest (product : Nat) (s : State) : Answer :=
  match numbered 8 product with
  | none => refuse .range s
  | some k => ⟨.ok, stockReport k s, s⟩

/-- R84: a SETTLED report of a link completes when no operation is open on its product. -/
def settledReportCheck (l : Link) (s : State) : State :=
  match (s.link l).running with
  | some ⟨.settled k _, _⟩ =>
    if s.openOnProduct k then s else completeLong l (.report .settled (some (stockReport k s))) s
  | _ => s

/-- R84: the close of an operation completes the SETTLED reports it leaves with no operation open. -/
def settledReportsAfterClose (s : State) : State := forEach allLinks settledReportCheck s

/-- R84: STOCK_REPORT in mode SETTLED. -/
def stockReportSettledRequest (v : Via) (product : Nat) (s : State) : Answer :=
  match numbered 8 product with
  | none => refuse .range s
  | some k =>
    let a := startLong v (.settled k (s.clock + Config.settledWaitMs)) s
    { a with state := if a.status = .accepted then settledReportCheck v.link a.state else a.state }

/-- R84: the wait of a SETTLED report runs out. -/
def settledWaitEvent (l : Link) (s : State) : State :=
  match (s.link l).running with
  | some ⟨.settled k due, _⟩ =>
    let s := s.reach due
    completeLong l (.report .provisional (some (stockReport k s))) s
  | _ => s

/-! ## Adjustments (R80, R81) -/

/-- R81: the change of an adjustment, in microlitres. -/
def adjustChange (form : AdjustForm) (x : Tank) : Int :=
  match form with
  | .setToGauge => x.gauged.getD 0 * 100000 - x.book
  | .delta f => f.amount * 100000

/-- R81: the record of an adjustment. -/
def adjustmentRecord (t : TankId) (form : AdjustForm) (l : Link) (s : State) (position : Nat) : Record :=
  let x := s.tank t
  let change := adjustChange form x
  .adjustment
    { number := s.journal.nextOrder, position := position, tank := t, product := (s.tankSet t).product
      form := form, change := change, changeDl := decilitres change, bookBefore := x.book
      bookAfter := x.book + change, gaugedUsed := x.gauged, link := l, time := s.seconds }

/-- R81: an adjustment taken.  DESIGN CHOICE: its record is written and curtailment is judged before the exhaustion
reports of its chain check are handed, so orders that they close take the positions after it (log entry 49). -/
def adjustTaken (v : Via) (t : TankId) (form : AdjustForm) (s : State) : Answer :=
  let number := s.journal.nextOrder
  let position := s.journal.nextPosition
  let record := adjustmentRecord t form v.link s
  let s := postToTank t (adjustChange form (s.tank t)) (takeOrderNumber s)
  let s := recomputeVariance t s
  let s := s.updTank t fun x => { x with rebased := false }
  ⟨.ok, [item4 number, item4 position], judgeCurtail (journalWrite record false s)⟩

/-- R80: the last checks of ADJUST_STOCK on a tank. -/
def adjustChecked (v : Via) (t : TankId) (form : AdjustForm) (s : State) : Answer :=
  let x := s.tank t
  checked
    [ (s.bay.curtailed, .journalFull),
      (s.tankBusy t, .tankBusy),
      (form = .setToGauge && (x.gauge = .fault || x.gauge = .waiting) || x.rebasePending, .noGauge) ]
    (adjustTaken v t form) s

/-- R80: ADJUST_STOCK in the form SET_TO_GAUGE. -/
def adjustSetToGaugeRequest (v : Via) (tank : Nat) (s : State) : Answer :=
  if !(s.perms v.link).stock then refuse .notPermitted s
  else match numbered 12 tank with
    | none => refuse .range s
    | some t => adjustChecked v t .setToGauge s

/-- R80: ADJUST_STOCK in the form DELTA. -/
def adjustDeltaRequest (v : Via) (tank : Nat) (f : AdjustDelta) (s : State) : Answer :=
  if !(s.perms v.link).stock then refuse .notPermitted s
  else match numbered 12 tank with
    | none => refuse .range s
    | some t =>
      if f.amount.natAbs ≤ 9999999 ∧ f.reason ≤ 15 then adjustChecked v t (.delta f) s else refuse .range s

/-! ## Tank service (R82) -/

def State.setTankSettings (t : TankId) (x : TankSettings) (s : State) : State :=
  { s with store := { s.store with tanks := put s.store.tanks t x } }

/-- R82: SET_TANK_SERVICE. -/
def setTankServiceRequest (v : Via) (f : SetTankService) (s : State) : Answer :=
  if !(s.perms v.link).stock then refuse .notPermitted s
  else match numbered 12 f.tank, f.inService with
    | some t, some inService =>
      if s.tankBusy t then refuse .tankBusy s
      else
        let set := s.tankSet t
        if set.outOfService = !inService then done s
        else
          let s := s.setTankSettings t { set with outOfService := !inService }
          done (chainCheck set.product false s)
    | _, _ => refuse .range s

/-! ## SET_PRODUCT and SET_TANK (R63, R64) -/

/-- The tanks that a list of numbers names, when each is a tank of the bay. -/
def readTanks : List Nat → Option (List TankId)
  | [] => some []
  | n :: rest =>
    match numbered 12 n, readTanks rest with
    | some t, some ts => some (t :: ts)
    | _, _ => none

/-- A printable character's code (log entry 18: the characters 0x20 to 0x7E). -/
def isPrintable (c : Nat) : Bool := 0x20 ≤ c && c ≤ 0x7E

/-- R63: the chain of SET_PRODUCT: one to four distinct tanks, each of this product. -/
def readChain (k : ProductId) (chain : Coded (List Nat)) (s : State) : Option (List TankId) :=
  match chain.bind readTanks with
  | none => none
  | some ts =>
    if 1 ≤ ts.length ∧ ts.length ≤ 4 ∧ ts.Nodup ∧ (ts.all fun t => (s.tankSet t).product = k) then some ts
    else none

/-- R63: the product record SET_PRODUCT asks for. -/
def readProduct (k : ProductId) (f : SetProduct) (s : State) : Option ProductSettings :=
  match f.kind, readChain k f.chain s with
  | some kind, some chain =>
    if f.beta ≤ 2000 ∧ f.name.length ≤ 8 ∧ f.name.all isPrintable then some ⟨kind, f.beta, f.name, chain⟩
    else none
  | _, _ => none

/-- R63: a product record written, with the conditions of its tanks and the chain check it calls for. -/
def writeProduct (k : ProductId) (new : ProductSettings) (s : State) : State :=
  let old := s.productSet k
  let s := { s with store := { s.store with products := put s.store.products k new } }
  let s :=
    if (old.kind = .waste) ≠ (new.kind = .waste) then
      forEach (allTanks.filter fun t => (s.tankSet t).product = k) evaluateConditions s
    else s
  if old.kind ≠ new.kind ∨ old.chain ≠ new.chain then chainCheck k true s else s

/-- R63: SET_PRODUCT. -/
def setProductRequest (v : Via) (f : SetProduct) (s : State) : Answer :=
  if !(s.perms v.link).configure then refuse .notPermitted s
  else match numbered 8 f.product with
    | none => refuse .range s
    | some k =>
      match readProduct k f s with
      | none => refuse .range s
      | some new =>
        let old := s.productSet k
        if (old.kind ≠ new.kind ∨ old.chain ≠ new.chain) ∧ s.openOnProduct k then refuse .productBusy s
        else done (writeProduct k new s)

/-- R64: a strapping table's points from one on: levels strictly ascending, volumes never decreasing. -/
def risingFrom (a : StrapPoint) : List StrapPoint → Bool
  | [] => true
  | b :: rest => a.level < b.level && a.volume ≤ b.volume && risingFrom b rest

/-- R64: a valid strapping table. -/
def validStrapping (table : Table 12 StrapPoint) : Bool :=
  match table.toList with
  | [] => true
  | a :: rest =>
    risingFrom a rest && (a :: rest).all fun x => x.level ≤ 65000 && x.volume ≤ 9999999

/-- R64: the tank settings SET_TANK asks for; the service condition stays. -/
def readTankSettings (f : SetTank) (outOfService : Bool) : Option TankSettings :=
  match numbered 8 f.product, numbered 4 f.bund with
  | some product, some bund =>
    if 100 ≤ f.capacity ∧ f.capacity ≤ 9999999 ∧ f.lowCut ≤ f.capacity ∧ f.lowCut ≤ f.lowAlarm ∧
        f.lowAlarm ≤ f.capacity ∧ f.lowAlarm < f.highCut ∧ f.highCut ≤ f.capacity ∧
        f.hysteresis ≤ 100000 ∧ f.lowCut + 2 * f.hysteresis < f.highCut ∧
        1 ≤ f.tolerance ∧ f.tolerance ≤ 100000 ∧ 1 ≤ f.leakThreshold ∧ f.leakThreshold ≤ 100000 ∧
        validStrapping f.strapping then
      some ⟨product, bund, f.capacity, f.lowCut, f.lowAlarm, f.highCut, f.hysteresis, f.tolerance,
        f.leakThreshold, f.strapping, outOfService⟩
    else none
  | _, _ => none

/-- R64: whether a product change is asked for while the tank stands in its present product's chain. -/
def State.leavesChain (s : State) (t : TankId) (new : TankSettings) : Bool :=
  let old := (s.tankSet t).product
  new.product ≠ old && (s.productSet old).chain.contains t

/-- R64: SET_TANK. -/
def setTankRequest (v : Via) (f : SetTank) (s : State) : Answer :=
  if !(s.perms v.link).configure then refuse .notPermitted s
  else match numbered 12 f.tank with
    | none => refuse .range s
    | some t =>
      match readTankSettings f (s.tankSet t).outOfService with
      | none => refuse .range s
      | some new =>
        if s.leavesChain t new then refuse .range s
        else if s.tankBusy t then refuse .tankBusy s
        else
          let s := evaluateConditions t (s.setTankSettings t new)
          done (chainCheck new.product false s)

end Sys2Proof.Machine
end

