-- ==== Sys2Proof/Machine/Pumps.lean ====
section
/-! DEFINITION. The pump manager (chapter 3): claims, the start queue and its one allowance, holding, faults,
the bay trip and the status report. -/

namespace Sys2Proof.Machine

open Sys2Proof

/-! ## States of a pump -/

/-- R49: a pump OFF: PUMP_RUN released and no timer running. -/
def PumpUnit.off (u : PumpUnit) : PumpUnit :=
  { u with state := .off, startDue := none, holdDue := none, run := false }

/-- R55: a pump HOLDING until an instant. -/
def PumpUnit.holding (due : Nat) (u : PumpUnit) : PumpUnit :=
  { u with state := .holding, startDue := none, holdDue := some due, run := true }

/-- R54: a pump RUNNING. -/
def PumpUnit.running (u : PumpUnit) : PumpUnit :=
  { u with state := .running, startDue := none, holdDue := none, run := true }

/-- R53: a pump STARTING until an instant. -/
def PumpUnit.starting (due : Nat) (u : PumpUnit) : PumpUnit :=
  { u with state := .starting, startDue := some due, holdDue := none, run := true }

/-- R56: a pump FAULTED. -/
def PumpUnit.faulted (u : PumpUnit) : PumpUnit :=
  { u with state := .faulted, startDue := none, holdDue := none, run := false }

/-- R51, R54: a pump left with no claim holds for its hold time, or goes OFF when that is 0. -/
def holdOrOff (m : PumpId) (s : State) : State :=
  let hold := (s.pumpSet m).holdTime
  s.updPump m (if hold = 0 then PumpUnit.off else PumpUnit.holding (s.after hold))

/-! ## The start queue (R52, R53) -/

def State.setQueue (queue : List PumpId) (s : State) : State := { s with pumps := { s.pumps with queue := queue } }

/-- R53: a pump is STARTING. -/
def State.anyStarting (s : State) : Bool := allPumps.any fun m => (s.pump m).state = .starting

/-- R53: the head of the start queue starts when nothing withholds the start. -/
def startHead (s : State) : State :=
  match s.pumps.queue with
  | [] => s
  | m :: rest =>
    if s.anyStarting = false ∧ s.pumps.supplyReady = true ∧ s.isSet .bay = false then
      (s.setQueue rest).updPump m (PumpUnit.starting (s.after (s.pumpSet m).startTime))
    else s

/-- R52: a pump appended to the tail of the start queue, where it may start at once. -/
def enqueuePump (m : PumpId) (s : State) : State :=
  startHead ((s.updPump m fun u => { u.off with state := .queued }).setQueue (s.pumps.queue ++ [m]))

/-! ## Claims and releases (R50, R51) -/

/-- R49: a point in a claim set at most once. -/
def addClaim (p : PointId) (claims : List PointId) : List PointId := if claims.contains p then claims else claims ++ [p]

/-- R50: a claim from a point unit. -/
def claimPump (p : PointId) (m : PumpId) (s : State) : State :=
  let u := s.pump m
  let s := s.updPump m fun u => { u with claims := addClaim p u.claims }
  match u.state with
  | .off => if u.faultLine then s.updPump m PumpUnit.faulted else enqueuePump m s
  | .holding => s.updPump m PumpUnit.running
  | .queued | .starting | .running | .faulted => s

/-- R51: a release from a point unit at the close of its order. -/
def releasePump (p : PointId) (m : PumpId) (s : State) : State :=
  let u := s.pump m
  if u.claims.contains p then
    let claims := u.claims.filter (· ≠ p)
    let s := s.updPump m fun u => { u with claims := claims }
    if claims.isEmpty then
      match u.state with
      | .queued => startHead ((s.updPump m PumpUnit.off).setQueue (s.pumps.queue.filter (· ≠ m)))
      | .running => holdOrOff m s
      | .off | .starting | .holding | .faulted => s
    else s
  else s

/-! ## Timers, lines and modes (R54 to R60) -/

/-- R54: the start of a pump is complete; the points it reports to are its claim set. -/
def completeStart (m : PumpId) (s : State) : State :=
  startHead (if (s.pump m).claims.isEmpty then holdOrOff m s else s.updPump m PumpUnit.running)

/-- R55: the hold timer of a pump runs out. -/
def holdTimerEvent (m : PumpId) (s : State) : State :=
  match (s.pump m).holdDue with
  | some due => (s.reach due).updPump m PumpUnit.off
  | none => s

/-- R56: PUMP_FAULT becomes active: the pump's part; the points of its claim set are told after it. -/
def faultPump (m : PumpId) (s : State) : State :=
  match (s.pump m).state with
  | .off | .faulted => s
  | .queued | .starting | .running | .holding =>
    startHead
      ((s.updPump m fun u => { u.faulted with claims := [] }).setQueue (s.pumps.queue.filter (· ≠ m)))

/-- R57: PUMP_FAULT becomes inactive. -/
def pumpFaultInactiveEvent (m : PumpId) (s : State) : State :=
  let u := s.pump m
  if u.faultLine then
    let s := s.updPump m fun u => { u with faultLine := false }
    match u.state with
    | .faulted => if u.claims.isEmpty then s.updPump m PumpUnit.off else enqueuePump m s
    | .off | .queued | .starting | .running | .holding => s
  else s

def State.setSupplyReady (level : Bool) (s : State) : State :=
  { s with pumps := { s.pumps with supplyReady := level } }

/-- R58: SUPPLY_READY becomes active. -/
def supplyReadyActiveEvent (s : State) : State :=
  if s.pumps.supplyReady then s else startHead (s.setSupplyReady true)

/-- R59: the BAY latch leaves NORMAL: every pump goes OFF with no claim, and the queue is empty. -/
def bayTripPumps (s : State) : State :=
  { s with pumps := { s.pumps with
      units := mapTable s.pumps.units fun u => { u.off with claims := [] }
      queue := [] } }

/-- R60: entry to STANDBY: every HOLDING pump goes OFF. -/
def standbyPumps (s : State) : State :=
  { s with pumps := { s.pumps with
      units := mapTable s.pumps.units fun u => if u.state = .holding then u.off else u } }

/-- R62: the pump manager as a restart leaves it; the lines keep their levels. -/
def restartPumps (s : State) : State :=
  { s with pumps := { s.pumps with
      units := mapTable s.pumps.units fun u => .restarted u.faultLine
      queue := [] } }

/-! ## PUMP_STATUS and SET_PUMP (R61, R48) -/

/-- R49: the points of a claim set in ascending order. -/
def sortedClaims (claims : List PointId) : List PointId := allPoints.filter claims.contains

/-- R61: PUMP_STATUS.  Log entry 18, the model's choice (DESIGN CHOICE): the start time left and the hold time left stand
pump by pump, not as two runs of six. -/
def pumpStatusRequest (s : State) : Answer :=
  ⟨.ok,
    (allPumps.flatMap fun m =>
      let u := s.pump m
      [item1 u.state.code, item1 u.claims.length, itemSet 1 (allPoints.map u.claims.contains)]) ++
    (allPumps.flatMap fun m =>
      let u := s.pump m
      [.nat 1 (u.startDue.map s.secondsLeft), .nat 2 (u.holdDue.map s.secondsLeft)]) ++
    (allPumps.map fun m => itemFlag (s.pump m).faultLine) ++
    itemList 6 1 (fun m => [itemId m]) s.pumps.queue ++ [itemFlag s.pumps.supplyReady], s⟩

/-- R48: SET_PUMP. -/
def setPumpRequest (v : Via) (f : SetPump) (s : State) : Answer :=
  if !(s.perms v.link).configure then refuse .notPermitted s
  else match numbered 6 f.pump with
    | none => refuse .range s
    | some m =>
      if 1 ≤ f.startTime ∧ f.startTime ≤ 30 ∧ f.holdTime ≤ 600 then
        done { s with store := { s.store with pumps := put s.store.pumps m ⟨f.startTime, f.holdTime⟩ } }
      else refuse .range s

end Sys2Proof.Machine
end

