-- ==== Sys2Proof/Machine/Points.lean ====
section
/-! DEFINITION. The point units (chapter 2): opening an order, its limit, identification and the nozzle
receiver, the pump's report, flow, stopping and the close. -/

namespace Sys2Proof.Machine

open Sys2Proof

/-! ## The order limit (R23, R24) -/

/-- R23: a limit with the cause of its binding term, and whether the preset was clamped. -/
structure OrderLimit where
  limit : Nat
  cause : Cause
  clamped : Bool
  deriving DecidableEq, Repr

/-- R23: the least of the terms present, the first of them in the order preset, allowance remaining,
capacity term; a preset above the capacity term is clamped to it. -/
def limitOf (preset allowance : Option Nat) (capacity : Nat) : OrderLimit :=
  let clamped := preset.any fun x => capacity < x
  let preset := preset.map (min capacity)
  let least := min (preset.getD capacity) (allowance.getD capacity)
  let least := min least capacity
  let cause :=
    if preset = some least then .preset else if allowance = some least then .allowance else .capacity
  ⟨least, cause, clamped⟩

/-- R23: the limit of an order of a kind at a point, with the account it holds where it has one. -/
def State.limitFor (s : State) (p : PointId) (kind : OrderKind) (preset : Option Nat) (override : Bool)
    (a : Option Account) : OrderLimit :=
  match kind, a with
  | .fuel, some a =>
    limitOf preset (if a.allowance ≠ 0 ∧ override = false then some (allowanceRemaining a) else none)
      (look s.accounts.classes a.klass).capacity
  | _, _ => limitOf preset none (s.pointSet p).maxOrder

/-- R23: a limit fixed on an order. -/
def fixLimit (x : OrderLimit) (o : Order) : Order :=
  { o with limit := some x.limit, limitCause := some x.cause, clamped := x.clamped }

/-- R24: the stop threshold of a limit, in decilitres. -/
def stopThreshold (limit allowance : Nat) : Nat := max 1 (limit - allowance)

/-- R24: whether an order's running net has reached its stop threshold. -/
def State.atThreshold (s : State) (p : PointId) (o : Order) : Bool :=
  match o.limit with
  | some limit => stopThreshold limit (s.pointSet p).stopAllowance * 100000 ≤ o.net
  | none => false

/-! ## The record of an order (R44, R45) -/

/-- R45: the dispense record of an order, complete but for its position. -/
def dispenseRecord (p : PointId) (o : Order) (cause : Cause) (ok : Option Bool) (now position : Nat) : Record :=
  .dispense
    { number := o.number, position := position, kind := o.kind, point := p, product := o.product
      machine := o.machine, hours := o.hours, hourSource := o.hourSource, plausible := ok
      openTime := o.openTime, closeTime := now, gross := o.gross, net := o.net, netDl := decilitres o.net
      lastTemp := o.lastTemp, uncompensated := o.uncompensated, manualId := o.manualId, clamped := o.clamped
      override := o.override, overrange := o.overrange, limit := o.limit, termination := cause
      secondaries := o.secondaries, klass := recordClass cause o.secondaries, entries := o.entries }

/-- R44, R116: an order's record handed to the journal, ORDER_CLOSED, and the close-time updates. -/
def recordOrder (p : PointId) (o : Order) (cause : Cause) (s : State) : State :=
  let ok := s.assess o
  let position := s.journal.nextPosition
  let netDl := decilitres o.net
  let s := journalWrite (dispenseRecord p o cause ok s.seconds) true s
  let s := s.post (.orderClosed o.number position p netDl cause)
  closeUpdates o netDl.toNat cause ok s

/-- R19, R44: a point back in IDLE, its valve closed, its timers stopped and its meter IDLE. -/
def PointUnit.closed (u : PointUnit) : PointUnit :=
  { u with
    state := .idle, valve := false, order := none, identDue := none, primeDue := none, attendDue := none
    stopDue := none, lowFlow := 0, hoseBreak := 0, meter := .idle }

/-- R44: the close of an order once its last window has been handed. -/
def finishClose (p : PointId) (s : State) : State :=
  match (s.point p).order with
  | none => s
  | some o =>
    let s := releasePump p (s.pointSet p).pump s
    let s := recordOrder p o (o.termination.getD .stopped) s
    settledReportsAfterClose (s.updPoint p PointUnit.closed)

/-! ## Window results (R13, R14, R71) -/

/-- R13: a window result added to a running record. -/
def addResult (r : WindowResult) (o : Order) : Order :=
  { o with
    gross := o.gross + r.gross, net := o.net + r.net, lastTemp := some r.temperature
    uncompensated := o.uncompensated || r.uncompensated, overrange := o.overrange || r.overrange }

/-- R13, R71: a window result taken by a point: its record and the posting to the stock unit. -/
def takeResult (p : PointId) (r : WindowResult) (s : State) : State :=
  postOrderWindow p r.net (s.updOrder p (addResult r))

/-- R14: the window in progress ended at this moment as the last, with a reading. -/
def endWindow (p : PointId) (reading : Option Int) (s : State) : State :=
  let m := (s.point p).meter
  match m.working with
  | none => s
  | some w => takeResult p (windowResult m w reading true) (s.updPoint p fun u => { u with meter := .idle })

/-! ## Stopping (R32, R33, R39, R40, R42) -/

/-- R40: entry to STOPPING with a termination cause. -/
def enterStopping (p : PointId) (c : Cause) (s : State) : State :=
  (s.updPoint p fun u =>
    { u with
      state := .stopping, valve := false, primeDue := none, attendDue := none
      stopDue := some (s.clock + Config.stopLimitMs), stoppingAt := s.clock, lowFlow := 0 }).updOrder p
    fun o => { o with termination := some c }

/-- R42: a cause added to an order that is STOPPING. -/
def addSecondary (p : PointId) (c : Cause) (s : State) : State :=
  s.updOrder p fun o => { o with secondaries := addCause o.termination o.secondaries c }

/-- R32, R33: an order closed at once.  `ended` names the point whose window has just ended in this event:
its last window has been handed. -/
def closeAtOnce (ended : Option PointId) (p : PointId) (c : Cause) (s : State) : State :=
  let s := s.updOrder p fun o => { o with termination := some c }
  finishClose p (if ended = some p then s else endWindow p (shortReading (.point p) s) s)

/-- R32, R33, R38, R39: an event that stops an order acts by the point's state. -/
def stopPoint (ended : Option PointId) (c : Cause) (p : PointId) (s : State) : State :=
  match (s.point p).state with
  | .disabled | .idle => s
  | .identifying | .awaitPump => closeAtOnce ended p c s
  | .priming | .flowing => enterStopping p c s
  | .stopping => addSecondary p c s

/-- R70: an exhaustion report taken by the points with an open order on its product.  Log entry 11, the model's choice
(DESIGN CHOICE): R70 gives no order of the points, and they take it in ascending number. -/
def takeReport (ended : Option PointId) (r : Exhaustion) (s : State) : State :=
  forEach allPoints
    (fun p s =>
      if (s.point p).order.any fun o => o.product = r.product then stopPoint ended r.reason p s else s) s

/-- R70: the exhaustion reports of an event handed one after another.  Closing an order posts its last
window, which may exhaust a further product; a product is exhausted at most once in an event, so the
count given is never used up. -/
def handReportsUpTo (ended : Option PointId) : Nat → State → State
  | 0, s => { s with stock := { s.stock with reports := [] } }
  | n + 1, s =>
    match s.stock.reports with
    | [] => s
    | r :: rest =>
      handReportsUpTo ended n (takeReport ended r { s with stock := { s.stock with reports := rest } })

/-- R70: every exhaustion report of the event handed, with the point whose window has just ended. -/
def handReportsAt (ended : Option PointId) (s : State) : State := handReportsUpTo ended 16 s

/-- R70: every exhaustion report of the event handed. -/
def handReports (s : State) : State := handReportsAt none s

/-- A request's answer once its exhaustion reports have been handed. -/
def Answer.handed (a : Answer) : Answer := { a with state := handReports a.state }

/-! ## Pump claim and priming (R33) -/

/-- R33, R37: the report of running arrives: entry to PRIMING. -/
def enterPriming (p : PointId) (s : State) : State :=
  let set := s.pointSet p
  s.updPoint p fun u =>
    { u with
      state := .priming, valve := true, primeDue := some (s.after set.primeTime)
      attendDue := (attendanceSeconds set.attendance).map s.after }

/-- R33: a report of running reaches a point that waits for it. -/
def reportRunning (p : PointId) (s : State) : State :=
  if (s.point p).state = .awaitPump then enterPriming p s else s

/-- R33, R50: entry to AWAIT_PUMP with the claim; a pump that runs is reported at once. -/
def enterAwaitPump (p : PointId) (s : State) : State :=
  let m := (s.pointSet p).pump
  let s := claimPump p m (s.updPoint p fun u => { u with state := .awaitPump, identDue := none })
  if (s.pump m).state = .running then reportRunning p s else s

/-! ## Opening an order (R20 to R22) -/

/-- R20: the fields of an OPEN_ORDER that are each in range. -/
structure OrderRequest where
  point : PointId
  kind : OrderKind
  machine : Option Nat
  preset : Option Nat
  manualHours : Option Nat
  override : Bool

/-- R20: the fields of OPEN_ORDER, when each is in its range. -/
def readOrder (f : OpenOrder) : Option OrderRequest :=
  match numbered 8 f.point, f.kind, f.override with
  | some p, some kind, some override =>
    if f.machine.all machineInRange && (f.preset.all fun x => 1 ≤ x && x ≤ 200000) &&
        f.manualHours.all (· ≤ 16777215) then
      some ⟨p, kind, f.machine, f.preset, f.manualHours, override⟩
    else none
  | _, _, _ => none

/-- R21: what fails each check of OPEN_ORDER, with its status. -/
def orderChecks (v : Via) (r : OrderRequest) (s : State) : List (Bool × Status) :=
  let set := s.pointSet r.point
  let perms := s.perms v.link
  [ (!perms.dispense || r.override && !perms.override, .notPermitted),
    (s.bay.mode = .locked, .bayLocked),
    (s.bay.curtailed, .journalFull),
    ((s.point r.point).state = .disabled, .pointDisabled),
    ((s.point r.point).state ≠ .idle, .pointBusy),
    (s.isSet (.point r.point) || s.isSet .bay, .tripped),
    (!kindFits r.kind (s.productSet set.product).kind, .kindMismatch),
    ((s.draw set.product).current.isNone, .productEmpty) ] ++
  (match r.machine with
    | some machine => accountChecks machine r.kind set.product r.override s
    | none => [(r.kind ≠ .waste && !set.nozzleFitted, .unknownMachine)])

/-- R22: the running record of an order as it opens, before its limit. -/
def newOrder (r : OrderRequest) (s : State) : Order :=
  let set := s.pointSet r.point
  let manual := if set.nozzleFitted then none else r.manualHours
  { number := s.journal.nextOrder, openTime := s.seconds, kind := r.kind, product := set.product
    override := r.override, machine := r.machine, preset := r.preset, manualHours := r.manualHours
    hours := manual, hourSource := if manual.isSome then .manual else .none
    readingTime := manual.map fun _ => s.seconds, uncompensated := false, manualId := false, clamped := false
    overrange := false, limit := none, limitCause := none, gross := 0, net := 0, lastTemp := none
    entries := [], termination := none, secondaries := [] }

/-- R22, R23: the order as it opens, its limit computed when a machine is given or the kind is not FUEL. -/
def openedOrder (r : OrderRequest) (s : State) : Order :=
  let o := newOrder r s
  if r.machine.isSome || r.kind ≠ .fuel then
    fixLimit (s.limitFor r.point r.kind r.preset r.override (r.machine.bind s.account)) o
  else o

/-- R1, R22: the point unit of an order that opens, its meter in METERING. -/
def openPoint (o : Order) (meter : Meter) (u : PointUnit) : PointUnit :=
  { u with order := some o, meter := meter, lowFlow := 0, hoseBreak := 0 }

/-- R19, R30: entry to IDENTIFYING at a FITTED point, to AWAIT_PUMP otherwise. -/
def enterFirstState (p : PointId) (s : State) : State :=
  let set := s.pointSet p
  if set.nozzleFitted then
    s.updPoint p fun u => { u with state := .identifying, identDue := some (s.after set.identTime) }
  else enterAwaitPump p s

/-- R22: an order accepted. -/
def acceptOrder (r : OrderRequest) (s : State) : Answer :=
  let o := openedOrder r s
  let set := s.pointSet r.point
  let meter := enterMetering set.meter (s.productSet set.product).beta s.clock
  let s := (countOpen s).updPoint r.point (openPoint o meter)
  let s := match r.machine with
    | some machine => joinOpenSet machine o.number s
    | none => s
  ⟨.ok, [item4 o.number], enterFirstState r.point (judgeCurtail s)⟩

/-- R20, R21: OPEN_ORDER in the mode that a wake has left. -/
def openOrderChecked (v : Via) (f : OpenOrder) (s : State) : Answer :=
  match readOrder f with
  | none => refuse .range s
  | some r => checked (orderChecks v r s) (acceptOrder r) s

/-- R20, R196: OPEN_ORDER wakes the bay, whatever its outcome. -/
def openOrderRequest (v : Via) (f : OpenOrder) (s : State) : Answer :=
  openOrderChecked v f (wake (.openOrder v.link) s)

/-! ## Stop requests (R38) -/

/-- R38: STOP_ORDER.  A point outside 1 to 8 is RANGE (log entry 27). -/
def stopOrderRequest (v : Via) (f : StopOrder) (s : State) : Answer :=
  if !(s.perms v.link).dispense then refuse .notPermitted s
  else match numbered 8 f.point with
    | none => refuse .range s
    | some p =>
      if (s.point p).order.any fun o => o.number = f.number then
        let st := if (s.point p).state = .stopping then .alreadyStopping else .ok
        ⟨st, [], stopPoint none .stopped p s⟩
      else refuse .noOrder s

/-! ## Identification (R30, R31) -/

/-- R30: the hour reading taken from an identity. -/
def takeIdentity (x : Identity) (o : Order) : Order :=
  { o with machine := some x.machine, hours := some x.hours, hourSource := .ident, readingTime := some x.time }

/-- Checks 9 to 13 of R21 as causes of a close at identification. -/
def refusalCause : Status → Cause
  | .accountBarred => .accountBarred
  | .accountHeld => .accountHeld
  | .machineInUse => .machineInUse
  | .allowanceSpent => .allowanceSpent
  | _ => .unknownMachine

/-- R30: an order that carries no machine takes the identity's, admitted by checks 9 to 13. -/
def admitIdentity (p : PointId) (o : Order) (x : Identity) (s : State) : State :=
  match firstFailure (accountChecks x.machine o.kind o.product o.override s) with
  | some st => closeAtOnce none p (refusalCause st) (s.updOrder p fun o => { o with machine := some x.machine })
  | none =>
    let limit := s.limitFor p o.kind o.preset o.override (s.account x.machine)
    let s := s.updOrder p (takeIdentity x)
    let s := if o.limit.isNone then s.updOrder p (fixLimit limit) else s
    enterAwaitPump p (joinOpenSet x.machine o.number s)

/-- R29, R30: a completion handed to a point unit; only IDENTIFYING acts on it. -/
def identityCompletion (p : PointId) (x : Identity) (s : State) : State :=
  match (s.point p).state, (s.point p).order with
  | .identifying, some o =>
    let s := s.updPoint p fun u => { u with identDue := none }
    match o.machine with
    | some machine =>
      if machine ≠ x.machine then closeAtOnce none p .idMismatch s
      else enterAwaitPump p (s.updOrder p (takeIdentity x))
    | none => admitIdentity p o x s
  | _, _ => s

/-- R31: an order with a machine goes on by hand. -/
def identifyByHand (o : Order) : Order :=
  { o with
    manualId := true, hours := o.manualHours
    hourSource := if o.manualHours.isSome then .manual else .none
    readingTime := o.manualHours.map fun _ => o.openTime }

/-- R31: the ident timer runs out. -/
def identTimerEvent (p : PointId) (s : State) : State :=
  match (s.point p).identDue, (s.point p).order with
  | some due, some o =>
    let s := (s.reach due).updPoint p fun u => { u with identDue := none }
    if o.machine.isSome then enterAwaitPump p (s.updOrder p identifyByHand)
    else if o.kind = .waste then enterAwaitPump p s
    else closeAtOnce none p .noIdent s
  | _, _ => s

/-! ## The nozzle receiver (R25 to R29) -/

/-- R25: the ones of a frame's data bits. -/
def onesOf (b : Byte) : Nat := ((List.range 8).map fun i => (b.getLsbD i).toNat).sum

/-- R25: a frame with neither a parity error nor a stop-bit error. -/
def isGoodNozzleFrame (f : NozzleFrame) : Bool :=
  (onesOf f.data + f.mark.toNat + f.parity.toNat) % 2 = 0 && f.stop

/-- R27: a complete message's identity at an instant, when the message is valid. -/
def identityOf (message : List Byte) (now : Nat) : Option Identity :=
  let machine := spelled (message.take 2)
  let sum := (message.map BitVec.toNat).sum
  if sum % 256 = 0 ∧ 1 ≤ machine ∧ machine ≤ 65534 then
    some ⟨machine, spelled ((message.drop 2).take 3), now⟩
  else none

/-- R27, R28: what a frame makes of the receiver: its state, and the message when this frame completes it. -/
def receive (r : Receiver) (f : NozzleFrame) : Receiver × Option (List Byte) :=
  match r with
  | .uncoupled => (.uncoupled, none)
  | .sleeping =>
    if isGoodNozzleFrame f && f.mark && f.data = 0x31 then (.collecting [], none) else (.sleeping, none)
  | .collecting message =>
    if !isGoodNozzleFrame f then (.sleeping, none)
    else if f.mark then (if f.data = 0x31 then .collecting [] else .sleeping, none)
    else
      let message := message ++ [f.data]
      if message.length < 6 then (.collecting message, none) else (.sleeping, some message)

/-- R29: a complete message taken: a valid one replaces the latest identity and goes to the point unit. -/
def takeMessage (p : PointId) (message : List Byte) (s : State) : State :=
  match identityOf message s.seconds with
  | none => s
  | some x => identityCompletion p x (s.updPoint p fun u => { u with identity := some x })

/-- R25 to R29: a frame on a nozzle line. -/
def nozzleFrameEvent (p : PointId) (f : NozzleFrame) (s : State) : State :=
  let (r, message) := receive (s.point p).receiver f
  let s := s.updPoint p fun u => { u with receiver := r }
  match message with
  | some message => takeMessage p message s
  | none => s

/-- R26: the receiver UNCOUPLED, its line followed from this instant. -/
def PointUnit.uncoupled (now : Nat) (u : PointUnit) : PointUnit :=
  { u with receiver := .uncoupled, identity := none, lineSince := now }

/-- R26: a break on the nozzle line of a FITTED point. -/
def nozzleBreakEvent (p : PointId) (s : State) : State :=
  if (s.pointSet p).nozzleFitted then
    let coupled := (s.point p).receiver ≠ .uncoupled
    let s := s.updPoint p (PointUnit.uncoupled s.clock)
    if coupled then stopPoint none .uncoupled p s else s
  else s

/-- R26, R196: a nozzle line high for 100 ms: the receiver moves from UNCOUPLED to SLEEPING, a wake. -/
def nozzleLineHighEvent (p : PointId) (s : State) : State :=
  if (s.pointSet p).nozzleFitted ∧ (s.point p).receiver = .uncoupled then
    let s := wake (.nozzle p) (s.reach ((s.point p).lineSince + Config.coupleMs))
    s.updPoint p fun u => { u with receiver := .sleeping }
  else s

/-! ## Timers and buttons (R34, R37, R38) -/

/-- R34: the prime timer runs out. -/
def primeTimerEvent (p : PointId) (s : State) : State :=
  match (s.point p).primeDue with
  | some due => stopPoint none .noFlowStart p (s.reach due)
  | none => s

/-- R37: the attendance timer runs out. -/
def attendanceTimerEvent (p : PointId) (s : State) : State :=
  match (s.point p).attendDue with
  | some due => stopPoint none .attendanceLapsed p (s.reach due)
  | none => s

/-- R37, R196: a press of ATTEND. -/
def attendEvent (p : PointId) (s : State) : State :=
  let s := wake (.attend p) s
  match (s.point p).state with
  | .priming | .flowing =>
    match attendanceSeconds (s.pointSet p).attendance with
    | some seconds => s.updPoint p fun u => { u with attendDue := some (s.after seconds) }
    | none => s
  | .disabled | .idle | .identifying | .awaitPump | .stopping => s

/-- R38: a press of STOP_BTN. -/
def stopBtnEvent (p : PointId) (s : State) : State := stopPoint none .stopped p s

/-! ## Window ends (R24, R34 to R36, R40) -/

/-- R36: the hose-break count after a window. -/
def hoseBreakAfter (count flow maxFlow : Nat) : Nat := if maxFlow * 5 < flow * 4 then count + 1 else 0

/-- R35: the low-flow count after a window in FLOWING. -/
def lowFlowAfter (count flow threshold : Nat) : Nat := if flow < threshold then count + 1 else 0

/-- R35: the cause of the no-flow condition. -/
def State.noFlowCause (s : State) (p : PointId) (o : Order) : Cause :=
  if (s.pointSet p).nozzleFitted && o.kind = .fuel && (s.point p).receiver ≠ .uncoupled then .full
  else .idleStop

/-- R24, R35, R36: the conditions that hold at a window end of a point that was in a state, as causes in the
order of R35. -/
def windowCauses (was : PointState) (p : PointId) (o : Order) (s : State) : List Cause :=
  let u := s.point p
  let set := s.pointSet p
  let metered := was = .priming || was = .flowing
  (if metered && s.atThreshold p o then [o.limitCause.getD .capacity] else []) ++
  (if 2 ≤ u.hoseBreak then [.hoseBreak] else []) ++
  (if was = .flowing && set.noFlowTime * 5 ≤ u.lowFlow then [s.noFlowCause p o] else [])

/-- Section 2.2: the states with an open valve or one that is closing, whose windows are judged. -/
def PointState.judged : PointState → Bool
  | .priming | .flowing | .stopping => true
  | .disabled | .idle | .identifying | .awaitPump => false

/-- R24, R35, R36: the causes of a window end at a point that was in a state; before its valve opens there are
none. -/
def State.causesAtWindow (s : State) (was : PointState) (p : PointId) : List Cause :=
  match was.judged, (s.point p).order with
  | true, some o => windowCauses was p o s
  | _, _ => []

/-- R35, R36: the counts of a point after a window that it judges. -/
def countWindow (was : PointState) (set : PointSettings) (flow : Nat) (u : PointUnit) : PointUnit :=
  if was.judged then
    { u with
      hoseBreak := hoseBreakAfter u.hoseBreak flow set.maxFlow
      lowFlow := if was = .flowing then lowFlowAfter u.lowFlow flow set.noFlowThreshold else 0 }
  else u

/-- R34: a PRIMING point enters FLOWING at a window at or above the no-flow threshold. -/
def judgeFlowing (was : PointState) (p : PointId) (flow : Nat) (s : State) : State :=
  if was = .priming ∧ (s.point p).state = .priming ∧ (s.pointSet p).noFlowThreshold ≤ flow then
    s.updPoint p fun u => { u with state := .flowing, primeDue := none, lowFlow := 0 }
  else s

/-- R40: a STOPPING point closes its order at the first window end after 1 s of quiet. -/
def judgeQuiet (was : PointState) (p : PointId) (s : State) : State :=
  let u := s.point p
  if was = .stopping ∧ isQuiet s.clock u.meter u.stoppingAt then finishClose p s else s

/-- R14: whether the window that ends now with so much net is a point's last: its STOPPING has been quiet for
1 s, or its order waits with a closed valve and the report of this posting closes it (log entry 9). -/
def State.lastAtPoint (s : State) (p : PointId) (net : Nat) : Bool :=
  let u := s.point p
  match u.state with
  | .stopping => isQuiet s.clock u.meter u.stoppingAt
  | .identifying | .awaitPump =>
    ((handReportsAt (some p) (postOrderWindow p net s)).point p).order.isNone
  | .disabled | .idle | .priming | .flowing => false

/-- R4, R13, R24, R34 to R36, R40: the window in progress of a point ends with a reading.  The result is handed
and posted, the counts take the window, and what it has met is found, before the exhaustion reports of the
posting are handed; the causes follow the reports (log entry 9). -/
def pointWindowEnd (p : PointId) (w : Working) (reading : Option Int) (s : State) : State :=
  let u := s.point p
  let s := s.reach (u.meter.windowStart + Config.windowMs)
  let net := (windowResult u.meter w reading false).net
  let r := windowResult u.meter w reading (s.lastAtPoint p net)
  let s := takeResult p r (s.updPoint p fun u => { u with meter := nextWindow u.meter w reading })
  let s := s.updPoint p (countWindow u.state (s.pointSet p) r.flow)
  let causes := s.causesAtWindow u.state p
  let s := forEach causes (fun c => stopPoint none c p) (handReportsAt (some p) s)
  judgeQuiet u.state p (judgeFlowing u.state p r.flow s)

/-- R36: whether the window about to end of a point brings its hose-break count to 2, so that HOSE_BREAK is
handed to its latch. -/
def State.handsHoseBreak (s : State) (p : PointId) (w : Working) : Bool :=
  let u := s.point p
  let flow := flowOf (u.meter.pulses * w.meter.pulseVolume)
  u.state.judged && u.order.isSome && hoseBreakAfter u.hoseBreak flow (s.pointSet p).maxFlow = 2

/-- R41: the stop timer of a point runs out: VALVE_LEAK joins the secondaries when a pulse was counted in the last
second, then the last window is handed, and the order closes.  DEDUCED: the leak comes before an exhaustion report
of that window, in the order in which R41 lists what the point does (log entry 43). -/
def pointStopExpires (p : PointId) (reading : Option Int) (leak : Bool) (s : State) : State :=
  let s := if leak then addSecondary p .valveLeak s else s
  finishClose p (handReports (endWindow p reading s))

/-! ## POINT_STATUS and SET_POINT (R46, R18) -/

/-- R46: POINT_STATUS.  DESIGN CHOICE: the running net is absent at a point with no open order, and the time
left on the attendance timer is in seconds rounded up (log entry 44). -/
def pointStatusRequest (point : Nat) (s : State) : Answer :=
  match numbered 8 point with
  | none => refuse .range s
  | some p =>
    let u := s.point p
    let limit := u.order.bind Order.limit
    ⟨.ok,
      [ item1 u.state.code, .nat 8 (u.order.map Order.number),
        .nat 1 (u.order.map fun o => orderKindCode o.kind), .nat 2 (u.order.bind Order.machine),
        .nat 4 (u.order.map fun o => (decilitres o.net).toNat), .nat 4 limit,
        .nat 4 (limit.map fun x => stopThreshold x (s.pointSet p).stopAllowance),
        .nat 1 ((u.order.bind Order.termination).map Cause.code), .nat 1 (u.attendDue.map s.secondsLeft),
        item1 u.receiver.code, .nat 2 (u.identity.map Identity.machine), .nat 4 (u.identity.map Identity.hours),
        .nat 8 (u.identity.map Identity.time) ], s⟩

/-- R2: meter settings in range, with a linearity table of strictly ascending flows. -/
def meterInRange (m : MeterSettings) : Bool :=
  1000 ≤ m.pulseVolume && m.pulseVolume ≤ 1000000 && m.q1 < m.q2 && m.q2 < m.q3 && m.q3 < m.q4 &&
    m.q4 ≤ 2000 && m.d1.natAbs ≤ 300 && m.d2.natAbs ≤ 300 && m.d3.natAbs ≤ 300 && m.d4.natAbs ≤ 300

/-- R18: the point settings SET_POINT asks for, when each is in its range. -/
def readPoint (f : SetPoint) : Option PointSettings :=
  match f.enabled, numbered 8 f.product, numbered 6 f.pump, f.nozzleFitted, f.attendance with
  | some enabled, some product, some pump, some nozzleFitted, some attendance =>
    if 1 ≤ f.identTime ∧ f.identTime ≤ 20 ∧ 10 ≤ f.maxFlow ∧ f.maxFlow ≤ 1500 ∧
        1 ≤ f.noFlowThreshold ∧ f.noFlowThreshold ≤ 200 ∧ 2 ≤ f.noFlowTime ∧ f.noFlowTime ≤ 30 ∧
        2 ≤ f.primeTime ∧ f.primeTime ≤ 60 ∧ f.stopAllowance ≤ 200 ∧
        1 ≤ f.maxOrder ∧ f.maxOrder ≤ 20000 ∧ meterInRange f.meter then
      some
        { enabled := enabled, product := product, pump := pump, nozzleFitted := nozzleFitted
          identTime := f.identTime, attendance := attendance, maxFlow := f.maxFlow
          noFlowThreshold := f.noFlowThreshold, noFlowTime := f.noFlowTime, primeTime := f.primeTime
          stopAllowance := f.stopAllowance, maxOrder := f.maxOrder, meter := f.meter }
    else none
  | _, _, _, _, _ => none

/-- R18, R26: the point unit after its settings are written. -/
def applyPointSettings (old new : PointSettings) (now : Nat) (u : PointUnit) : PointUnit :=
  let u := { u with state := if new.enabled then .idle else .disabled }
  if old.nozzleFitted = new.nozzleFitted then u else u.uncoupled now

/-- R18: SET_POINT. -/
def setPointRequest (v : Via) (f : SetPoint) (s : State) : Answer :=
  if !(s.perms v.link).configure then refuse .notPermitted s
  else match numbered 8 f.point with
    | none => refuse .range s
    | some p =>
      if (s.point p).order.isSome then refuse .pointBusy s
      else match readPoint f with
        | none => refuse .range s
        | some new =>
          let old := s.pointSet p
          let s := { s with store := { s.store with points := put s.store.points p new } }
          done (s.updPoint p (applyPointSettings old new s.clock))

/-! ## The pump manager's reports (R54, R56) -/

/-- R54: the start timer of a pump runs out. -/
def startTimerEvent (m : PumpId) (s : State) : State :=
  match (s.pump m).startDue with
  | none => s
  | some due =>
    let s := s.reach due
    let claims := sortedClaims (s.pump m).claims
    forEach claims reportRunning (completeStart m s)

/-- R56: PUMP_FAULT becomes active.  DESIGN CHOICE: the fault is handed to the points of the claim set in ascending
number, so orders that it closes at once are journaled in that order (log entry 11). -/
def pumpFaultActiveEvent (m : PumpId) (s : State) : State :=
  let u := s.pump m
  if u.faultLine then s
  else
    let claims := match u.state with
      | .off | .faulted => []
      | .queued | .starting | .running | .holding => sortedClaims u.claims
    let s := faultPump m (s.updPump m fun u => { u with faultLine := true })
    forEach claims (stopPoint none .pumpFault) s

end Sys2Proof.Machine
end

