-- ==== Sys2Proof/Machine/Inlets.lean ====
section
/-! DEFINITION. The inlet units (chapter 5): opening a delivery, coupling, receiving, stopping, settling,
reconciliation and the close. -/

namespace Sys2Proof.Machine

open Sys2Proof

/-! ## The record of a delivery (R97, R100 to R102) -/

/-- R98 to R104: how a delivery's settle came out: what its record takes from it. -/
structure SettleOutcome where
  reconciliation : Reconciliation
  after : Option Int
  unsettled : Bool

/-- R102: a reconciliation that did not run, with its reason. -/
def notReconciled (reason : Reconciliation) : SettleOutcome := ⟨reason, none, false⟩

/-- R100: the delivery variance. -/
def deliveryVariance (d : Delivery) (after : Option Int) : Option Int :=
  match d.before, after with
  | some before, some after => some (after - before - (decilitres d.net - decilitres d.tally))
  | _, _ => none

/-- R100: the docket variance. -/
def docketVariance (d : Delivery) : Option Int := d.declared.map fun x => decilitres d.net - x

/-- R102: the delivery record, complete but for its position. -/
def deliveryRecord (i : InletId) (d : Delivery) (cause : Cause) (x : SettleOutcome) (now position : Nat) :
    DeliveryRecord :=
  let ran := x.reconciliation = .done
  { number := d.number, position := position, inlet := i, tank := d.tank, product := d.product
    tanker := d.tanker, link := d.link, openTime := d.openTime, closeTime := now, gross := d.gross
    net := d.net, grossDl := decilitres d.gross, netDl := decilitres d.net, lastTemp := d.lastTemp
    declared := d.declared, before := d.before, after := x.after
    debits := if ran then some (decilitres d.tally) else none
    variance := if ran then deliveryVariance d x.after else none
    docketVariance := docketVariance d, reconciliation := x.reconciliation, extensions := d.extensions
    uncompensated := d.uncompensated, overrange := d.overrange, unsettled := x.unsettled
    settleCut := x.reconciliation = .settleCut, shared := d.shared, termination := cause
    secondaries := d.secondaries, klass := recordClass cause d.secondaries, entries := d.entries }

/-- R101: a delivery's record handed to the journal, and DELIVERY_CLOSED. -/
def recordDelivery (i : InletId) (d : Delivery) (cause : Cause) (x : SettleOutcome) (s : State) : State :=
  let position := s.journal.nextPosition
  let r := deliveryRecord i d cause x s.seconds position
  let s := journalWrite (fun n => .delivery { r with position := n }) true s
  s.post (.deliveryClosed d.number position i d.tank r.netDl cause r.variance)

/-- R88, R101: an inlet back in IDLE, its valve closed, its timers stopped and its meter IDLE.  Log entry 44, the model's
choice (DESIGN CHOICE): the mark that flow has begun and the low-flow count are cleared here too, which R90 and R104 do at
acceptance and at a restart. -/
def InletUnit.closed (u : InletUnit) : InletUnit := .restarted u.coupled

/-- R101: the close of a delivery whose metering has ended. -/
def closeDelivery (i : InletId) (x : SettleOutcome) (s : State) : State :=
  match (s.inlet i).delivery with
  | none => s
  | some _ =>
    let s := clearReceiving i s
    let s := match (s.inlet i).delivery with
      | some d => recordDelivery i d (d.termination.getD .stopped) x s
      | none => s
    settledReportsAfterClose (s.updInlet i InletUnit.closed)

/-! ## Window results (R13, R14, R92) -/

/-- R13: a window result added to a delivery's running record. -/
def addDeliveryResult (r : WindowResult) (d : Delivery) : Delivery :=
  { d with
    gross := d.gross + r.gross, net := d.net + r.net, lastTemp := some r.temperature
    uncompensated := d.uncompensated || r.uncompensated, overrange := d.overrange || r.overrange }

/-- R73, R92: a window result credited to the target tank and added to the delivery. -/
def takeDeliveryResult (i : InletId) (r : WindowResult) (s : State) : State :=
  (postDeliveryWindow i r.net s).updDelivery i (addDeliveryResult r)

/-- R14: the window in progress of an inlet ended at this moment as the last, with a reading. -/
def endInletWindow (i : InletId) (reading : Option Int) (s : State) : State :=
  let m := (s.inlet i).meter
  match m.working with
  | none => s
  | some w =>
    takeDeliveryResult i (windowResult m w reading true) (s.updInlet i fun u => { u with meter := .idle })

/-! ## Stopping (R91, R95 to R97) -/

/-- R91: a delivery closed at once from AWAIT_COUPLING. -/
def closeAwaiting (i : InletId) (c : Cause) (s : State) : State :=
  let s := endInletWindow i (shortReading (.inlet i) s) s
  closeDelivery i (notReconciled .notSettled) (s.updDelivery i fun d => { d with termination := some c })

/-- R96: entry to STOPPING with a termination cause. -/
def enterInletStopping (i : InletId) (c : Cause) (s : State) : State :=
  (s.updInlet i fun u =>
    { u with
      state := .stopping, valve := false, stopDue := some (s.clock + Config.stopLimitMs)
      stoppingAt := s.clock, stopRequestAt := none }).updDelivery i
    fun d => { d with termination := some c }

/-- R97: a cause added to a delivery that is STOPPING. -/
def addDeliverySecondary (i : InletId) (c : Cause) (s : State) : State :=
  s.updDelivery i fun d => { d with secondaries := addCause d.termination d.secondaries c }

/-- R91, R94, R95: an event that stops a delivery acts by the inlet's state. -/
def stopInlet (c : Cause) (i : InletId) (s : State) : State :=
  match (s.inlet i).state with
  | .idle | .settling => s
  | .awaitCoupling => closeAwaiting i c s
  | .receiving => enterInletStopping i c s
  | .stopping => addDeliverySecondary i c s

/-- R96, R98: STOPPING ends once its last window has been handed: the flag is released and the settle begins. -/
def enterSettling (i : InletId) (s : State) : State :=
  let set := s.inletSet i
  let s := s.updInlet i fun u =>
    { u with
      state := .settling, valve := false, meter := .idle, stopDue := none
      settleDue := some (s.after (set.settleTime * 60)) }
  clearReceiving i (s.updDelivery i fun d => { d with extensions := 0 })

/-! ## Opening a delivery (R89, R90) -/

/-- R89: the fields of an OPEN_DELIVERY that are each in range. -/
structure DeliveryRequest where
  inlet : InletId
  tank : TankId
  product : ProductId
  tanker : List Nat
  declared : Option Nat

/-- R89: the fields of OPEN_DELIVERY, when each is in its range. -/
def readDelivery (f : OpenDelivery) : Option DeliveryRequest :=
  match numbered 2 f.inlet, numbered 12 f.tank, numbered 8 f.product with
  | some i, some t, some k =>
    if 1 ≤ f.tanker.length && f.tanker.length ≤ 12 && f.tanker.all isPrintable &&
        (f.declared.all fun x => 1 ≤ x && x ≤ 9999999) then
      some ⟨i, t, k, f.tanker, f.declared⟩
    else none
  | _, _, _ => none

/-- R91, R92: the book of a tank is at or above its high cut. -/
def State.bookAtHighCut (s : State) (t : TankId) : Bool :=
  decide (microlitres (s.tankSet t).highCut ≤ (s.tank t).book)

/-- R91, R93: the gauged net of a tank, when present, is at or above its high cut. -/
def State.gaugeAtHighCut (s : State) (t : TankId) : Bool :=
  (s.tank t).gauged.any fun g => decide (((s.tankSet t).highCut : Int) ≤ g)

/-- R89: what fails each check of OPEN_DELIVERY, with its status. -/
def deliveryChecks (v : Via) (r : DeliveryRequest) (s : State) : List (Bool × Status) :=
  let set := s.tankSet r.tank
  [ (!(s.perms v.link).stock, .notPermitted),
    (s.bay.mode = .locked, .bayLocked),
    (s.bay.curtailed, .journalFull),
    ((s.inlet r.inlet).state ≠ .idle, .inletBusy),
    (!(s.inletSet r.inlet).reachable.contains r.tank, .notReachable),
    (r.product ≠ set.product || s.isWaste r.product, .productMismatch),
    (set.outOfService || s.isSet (.bund set.bund) || (s.tank r.tank).rebasePending || s.bookAtHighCut r.tank,
      .tankUnavailable),
    (s.isSet .bay, .tripped) ]

/-- R90: the running record of a delivery as it opens. -/
def newDelivery (v : Via) (r : DeliveryRequest) (s : State) : Delivery :=
  { number := s.journal.nextOrder, openTime := s.seconds, tank := r.tank, product := r.product
    tanker := r.tanker, declared := r.declared, link := v.link, before := (s.tank r.tank).gauged, gross := 0
    net := 0, lastTemp := none, uncompensated := false, overrange := false, shared := false
    holdsFlag := true, tally := 0, extensions := 0, termination := none, secondaries := [] }

/-- R100: two deliveries open on one tank are each flagged SHARED_TANK (log entry 26). -/
def markShared (t : TankId) (s : State) : State :=
  let mine (i : InletId) : Bool := (s.inlet i).delivery.any fun d => d.tank = t
  if mine 0 && mine 1 then
    forEach allInlets (fun i => State.updDelivery i fun d => { d with shared := true }) s
  else s

/-- R88, R90: the inlet unit of a delivery that opens. -/
def openInlet (d : Delivery) (meter : Meter) (u : InletUnit) : InletUnit :=
  { InletUnit.restarted u.coupled with
    state := if u.coupled then .receiving else .awaitCoupling, valve := u.coupled, delivery := some d
    meter := meter }

/-- R90: a delivery accepted. -/
def acceptDelivery (v : Via) (r : DeliveryRequest) (s : State) : Answer :=
  let d := newDelivery v r s
  let meter := enterMetering (s.inletSet r.inlet).meter (s.productSet r.product).beta s.clock
  let s := (countOpen s).updInlet r.inlet (openInlet d meter)
  let s := chainCheck r.product false (markShared r.tank s)
  ⟨.ok, [item4 d.number], judgeCurtail s⟩

/-- R89: OPEN_DELIVERY in the mode that a wake has left. -/
def openDeliveryChecked (v : Via) (f : OpenDelivery) (s : State) : Answer :=
  match readDelivery f with
  | none => refuse .range s
  | some r => checked (deliveryChecks v r s) (acceptDelivery v r) s

/-- R89, R196: OPEN_DELIVERY wakes the bay, whatever its outcome. -/
def openDeliveryRequest (v : Via) (f : OpenDelivery) (s : State) : Answer :=
  openDeliveryChecked v f (wake (.openDelivery v.link) s)

/-! ## Stop requests and coupling (R91, R94, R95, R99) -/

/-- R99: a settle cut short. -/
def cutSettle (i : InletId) (s : State) : State := closeDelivery i (notReconciled .settleCut) s

/-- R94: STOP_DELIVERY accepted, by the inlet's state.  The instant of a request that starts STOPPING is
kept, because a window end at that instant adds its conditions as secondaries (log entry 13). -/
def stopDeliveryTaken (i : InletId) (s : State) : Answer :=
  match (s.inlet i).state with
  | .settling => done (cutSettle i s)
  | .stopping => ⟨.alreadyStopping, [], stopInlet .stopped i s⟩
  | .receiving => done ((stopInlet .stopped i s).updInlet i fun u => { u with stopRequestAt := some s.clock })
  | .idle | .awaitCoupling => done (stopInlet .stopped i s)

/-- R94: STOP_DELIVERY. -/
def stopDeliveryRequest (v : Via) (f : StopDelivery) (s : State) : Answer :=
  if !(s.perms v.link).stock then refuse .notPermitted s
  else match numbered 2 f.inlet with
    | none => refuse .range s
    | some i =>
      if (s.inlet i).delivery.any fun d => d.number = f.number then stopDeliveryTaken i s
      else refuse .noDelivery s

/-- R91: the coupling of a hose in AWAIT_COUPLING. -/
def couple (i : InletId) (s : State) : State :=
  match (s.inlet i).state, (s.inlet i).delivery with
  | .awaitCoupling, some d =>
    if s.bookAtHighCut d.tank || s.gaugeAtHighCut d.tank then closeAwaiting i .highLevel s
    else s.updInlet i fun u => { u with state := .receiving, valve := true }
  | _, _ => s

/-- R91, R196: INLET_COUPLED becomes active. -/
def inletCoupledActiveEvent (i : InletId) (s : State) : State :=
  if (s.inlet i).coupled then s
  else couple i ((wake (.coupled i) s).updInlet i fun u => { u with coupled := true })

/-- R95: INLET_COUPLED becomes inactive. -/
def inletCoupledInactiveEvent (i : InletId) (s : State) : State :=
  if (s.inlet i).coupled then
    let s := s.updInlet i fun u => { u with coupled := false }
    match (s.inlet i).state with
    | .receiving | .stopping => stopInlet .uncoupled i s
    | .idle | .awaitCoupling | .settling => s
  else s

/-! ## Window ends (R92, R96) -/

/-- R92: flow has begun, and the low-flow count, after a window. -/
def countInletWindow (set : InletSettings) (flow : Nat) (u : InletUnit) : InletUnit :=
  let begun := u.flowBegun || decide (set.noFlowThreshold ≤ flow)
  { u with
    flowBegun := begun
    lowFlow := if begun && flow < set.noFlowThreshold then u.lowFlow + 1 else 0 }

/-- R92: the conditions that hold at a window end, as causes in the order of the rule. -/
def inletWindowCauses (i : InletId) (s : State) : List Cause :=
  let u := s.inlet i
  match u.delivery with
  | none => []
  | some d =>
    (if s.bookAtHighCut d.tank then [.highLevel] else []) ++
    (if u.flowBegun && (s.inletSet i).noFlowTime * 5 ≤ u.lowFlow then [.emptied] else [])

/-- R92, R94: whether a window end at an instant is judged by R92: the inlet was RECEIVING, or a
STOP_DELIVERY of the same instant was taken first.  Log entry 51, the model's choice (DESIGN CHOICE): a window of
AWAIT_COUPLING does not begin flow, whatever it has counted. -/
def InletUnit.judged (u : InletUnit) (now : Nat) : Bool :=
  u.state = .receiving || u.state = .stopping && u.stopRequestAt = some now

/-- R96: a STOPPING inlet ends its stopping at the first window end after 1 s of quiet. -/
def judgeInletQuiet (was : InletState) (i : InletId) (s : State) : State :=
  let u := s.inlet i
  if was = .stopping ∧ isQuiet s.clock u.meter u.stoppingAt then enterSettling i s else s

/-- R14, R96: whether the window that ends now is an inlet's last: its STOPPING has been quiet for 1 s. -/
def State.lastAtInlet (s : State) (i : InletId) : Bool :=
  let u := s.inlet i
  u.state = .stopping && isQuiet s.clock u.meter u.stoppingAt

/-- R4, R13, R92, R96: the window in progress of an inlet ends with a reading. -/
def inletWindowEnd (i : InletId) (w : Working) (reading : Option Int) (s : State) : State :=
  let u := s.inlet i
  let s := s.reach (u.meter.windowStart + Config.windowMs)
  let r := windowResult u.meter w reading (s.lastAtInlet i)
  let s := s.updInlet i fun u => { u with meter := nextWindow u.meter w reading }
  let s := takeDeliveryResult i r s
  let s :=
    if u.judged s.clock then
      let s := s.updInlet i (countInletWindow (s.inletSet i) r.flow)
      forEach (inletWindowCauses i s) (fun c => stopInlet c i) s
    else s
  judgeInletQuiet u.state i s

/-- R96: the stop timer of an inlet runs out: its last window is handed and the settle begins, with
VALVE_LEAK among the secondaries when a pulse was counted in the last second. -/
def inletStopExpires (i : InletId) (reading : Option Int) (leak : Bool) (s : State) : State :=
  let s := if leak then addDeliverySecondary i .valveLeak s else s
  enterSettling i (endInletWindow i reading s)

/-! ## Settling (R98, R100) -/

/-- R98: the settle ends and reconciliation runs. -/
def reconcile (i : InletId) (t : TankId) (unsettled : Bool) (s : State) : State :=
  closeDelivery i ⟨.done, (s.tank t).gauged, unsettled⟩ s

/-- R98: the settle goes on for a settle step. -/
def extendSettle (i : InletId) (s : State) : State :=
  (s.updInlet i fun u => { u with settleDue := some (s.after ((s.inletSet i).settleStep * 60)) }).updDelivery i
    fun d => { d with extensions := d.extensions + 1 }

/-- R98: the settle timer runs out.  A gauge cannot be in WAITING during a settle; the model takes it there
as one in FAULT, which has no gauged net either. -/
def settleTimerEvent (i : InletId) (s : State) : State :=
  match (s.inlet i).settleDue, (s.inlet i).delivery with
  | some due, some d =>
    let s := s.reach due
    match (s.tank d.tank).gauge with
    | .fault | .waiting => closeDelivery i (notReconciled .gaugeFault) s
    | .good | .held =>
      if (s.tank d.tank).gauge = .good ∧ (s.tank d.tank).stable then reconcile i d.tank false s
      else if d.extensions < Config.maxExtensions then extendSettle i s
      else reconcile i d.tank true s
  | _, _ => s

/-- R93: a valid gauge reading of a tank compared by the inlets that are RECEIVING into it. -/
def judgeGaugeLevel (t : TankId) (s : State) : State :=
  forEach allInlets
    (fun i s =>
      if (s.inlet i).state = .receiving && ((s.inlet i).delivery.any fun d => d.tank = t) &&
          s.gaugeAtHighCut t then stopInlet .highLevel i s
      else s) s

/-! ## INLET_STATUS and SET_INLET (R103, R87) -/

/-- R103: INLET_STATUS.  DESIGN CHOICE: in IDLE the running net and the debit tally are absent too, and the absent
tanker identifier is a text of spaces (log entry 44). -/
def inletStatusRequest (inlet : Nat) (s : State) : Answer :=
  match numbered 2 inlet with
  | none => refuse .range s
  | some i =>
    let u := s.inlet i
    let d := u.delivery
    ⟨.ok,
      [ item1 u.state.code, .nat 8 (d.map Delivery.number), itemId? (d.map Delivery.tank),
        itemId? (d.map Delivery.product), .text 12 ((d.map Delivery.tanker).getD []),
        .nat 4 (d.map fun d => (decilitres d.net).toNat), itemFlag u.flowBegun, item1 u.lowFlow,
        .nat 1 ((d.bind Delivery.termination).map Cause.code), .nat 2 (u.settleDue.map s.secondsLeft),
        .nat 1 (if u.state = .settling then d.map Delivery.extensions else none),
        .int 4 (d.map fun d => decilitres d.tally), itemFlag u.coupled ], s⟩

/-- R87: the inlet settings SET_INLET asks for, when each is in its range. -/
def readInlet (f : SetInlet) : Option InletSettings :=
  match f.reachable with
  | none => none
  | some tanks =>
    if 1 ≤ f.noFlowThreshold ∧ f.noFlowThreshold ≤ 200 ∧ 2 ≤ f.noFlowTime ∧ f.noFlowTime ≤ 30 ∧
        1 ≤ f.settleTime ∧ f.settleTime ≤ 30 ∧ 1 ≤ f.settleStep ∧ f.settleStep ≤ 10 ∧ meterInRange f.meter then
      some ⟨allTanks.filter tanks.contains, f.noFlowThreshold, f.noFlowTime, f.settleTime, f.settleStep, f.meter⟩
    else none

/-- R87: SET_INLET. -/
def setInletRequest (v : Via) (f : SetInlet) (s : State) : Answer :=
  if !(s.perms v.link).configure then refuse .notPermitted s
  else match numbered 2 f.inlet with
    | none => refuse .range s
    | some i =>
      if (s.inlet i).delivery.isSome then refuse .inletBusy s
      else match readInlet f with
        | none => refuse .range s
        | some new => done { s with store := { s.store with inlets := put s.store.inlets i new } }

end Sys2Proof.Machine
end

