-- ==== Sys2Proof/Machine/Shutdown.lean ====
section
/-! DEFINITION. The shutdown unit (chapter 8): line inputs and their debounce, the latches and what they hand
on, releases, bypasses, the trip log and the status report. -/

namespace Sys2Proof.Machine

open Sys2Proof

/-! ## What a latch hands on (R155 to R159) -/

/-- A cause handed to a latch: the line input that hands it, if one does; the point and the tank whose own
cause set the latch, which take no TRIP from it in this event (R156); how many operations took that cause
as their termination cause (R160); and the state the latch has after the event where a second cause of the
same event follows (log entry 12). -/
structure Handing where
  latch : LatchId
  cause : TripCause
  input : Option LineInput
  exemptPoint : Option PointId
  exemptTank : Option TankId
  already : Nat
  finalState : Option LatchState

/-- A cause handed with nothing exempt. -/
def handing (x : LatchId) (c : TripCause) (input : Option LineInput) : Handing := ⟨x, c, input, none, none, 0, none⟩

/-- R155: the tanks a latch covers. -/
def State.tanksOf (s : State) (x : LatchId) : List TankId :=
  match x with
  | .point _ => []
  | .bund b => allTanks.filter fun t => (s.tankSet t).bund = b
  | .bay => allTanks

/-- R69, R155: the products concerned by a change of a latch. -/
def State.productsOf (s : State) (x : LatchId) : List ProductId :=
  let tanks := s.tanksOf x
  allProducts.filter fun k => tanks.any fun t => (s.tankSet t).product = k

/-- R155: the points a latch covers. -/
def pointsOf : LatchId → List PointId
  | .point p => [p]
  | .bund _ => []
  | .bay => allPoints

/-- R155: the inlets whose open delivery a latch covers: for the BAY latch both. -/
def State.inletsOf (s : State) (x : LatchId) : List InletId :=
  let tanks := s.tanksOf x
  allInlets.filter fun i => (s.inlet i).delivery.any fun d => tanks.contains d.tank

/-- R155, R159: the stock unit's part: each product concerned is checked once.  Log entry 11, the model's choice (DESIGN
CHOICE): the manual does not order the products, and they are taken in ascending code. -/
def checkProducts (x : LatchId) (s : State) : State := forEach (s.productsOf x) (fun k => chainCheck k false) s

/-- R156: the inlets of a hand-on, without those whose delivery carries the cause that set the latch. -/
def State.inletsTripped (s : State) (h : Handing) : List InletId :=
  (s.inletsOf h.latch).filter fun i => !(s.inlet i).delivery.any fun d => h.exemptTank = some d.tank

/-- R155: a change of a latch handed to the blocks of its scope, in the order stock unit, pump manager,
inlet units, point units, and then the exhaustion reports (log entry 11). -/
def handOn (h : Handing) (leaves : Bool) (s : State) : State :=
  let s := checkProducts h.latch s
  let s := if leaves && h.latch = .bay then bayTripPumps s else s
  let s := forEach (s.inletsTripped h) (stopInlet .trip) s
  let s := forEach ((pointsOf h.latch).filter fun p => h.exemptPoint ≠ some p) (stopPoint none .trip) s
  handReports s

/-- R70: an event, or a part of one, in which a latch leaves NORMAL or takes a further cause. -/
def whileTripping (f : State → State) (s : State) : State :=
  let s := f { s with stock := { s.stock with tripping := true } }
  { s with stock := { s.stock with tripping := false } }

/-! ## The trip log (R160, R164) -/

def State.setLog (log : List TripEntry) (s : State) : State := { s with shutdown := { s.shutdown with log := log } }

/-- R164: a new entry; when the log holds 32 the oldest is overwritten. -/
def logAfter (log : List TripEntry) (e : TripEntry) : List TripEntry :=
  (if log.length < Config.maxTripLog then log else log.drop 1) ++ [e]

/-- R164: the entry of a trip number changed, where the log still holds it. -/
def changeEntry (number : Option Nat) (f : TripEntry → TripEntry) (s : State) : State :=
  s.setLog (s.shutdown.log.map fun e => if number = some e.number then f e else e)

/-! ## The latch (R150 to R152) -/

/-- R152: whether every input of a latch's contributing set counts as clear. -/
def State.allClear (s : State) (x : LatchId) : Bool := (s.latch x).contributing.all s.countsClear

/-- R152: a latch examined: a TRIPPED latch whose contributing inputs all count as clear moves to
CLEARABLE. -/
def examine (x : LatchId) (s : State) : State :=
  let l := s.latch x
  if l.state = .tripped ∧ s.allClear x = true then
    (s.setLatch x { l with state := .clearable }).post (.tripClearable x (l.trip.getD 0))
  else s

/-- R145: a latch as it leaves NORMAL by a cause. -/
def trippedLatch (h : Handing) (s : State) : Latch :=
  ⟨.tripped, [h.cause], h.input.toList, some s.shutdown.nextTrip, some s.seconds⟩

/-- R151: a cause list after a further cause. -/
def addTripCause (c : TripCause) (causes : List TripCause) : List TripCause :=
  if causes.contains c then causes
  else if causes.length < Config.maxLatchCauses then causes ++ [c]
  else causes

/-- R145: an input in a contributing set once. -/
def addInput (input : Option LineInput) (inputs : List LineInput) : List LineInput :=
  match input with
  | some x => if inputs.contains x then inputs else inputs ++ [x]
  | none => inputs

/-- R151: a set latch after a further cause. -/
def furtherLatch (h : Handing) (l : Latch) : Latch :=
  { l with
    state := .tripped, causes := addTripCause h.cause l.causes, contributing := addInput h.input l.contributing }

/-- R150, R164: the entry a trip writes. -/
def newEntry (h : Handing) (s : State) : TripEntry :=
  ⟨s.shutdown.nextTrip, s.seconds, h.latch, [h.cause], 0, none, none⟩

/-- R150: the latch, its trip number and its log entry as it leaves NORMAL. -/
def tripLatch (h : Handing) (s : State) : State :=
  let s' := (s.setLatch h.latch (trippedLatch h s)).setLog (logAfter s.shutdown.log (newEntry h s))
  { s' with shutdown := { s'.shutdown with nextTrip := nextCount s.shutdown.nextTrip } }

/-- R151: the latch and its log entry as it takes a further cause. -/
def furtherCause (h : Handing) (s : State) : State :=
  let l := furtherLatch h (s.latch h.latch)
  changeEntry l.trip (fun e => { e with causes := l.causes }) (s.setLatch h.latch l)

/-- R150, R151: the state a latch has after the event that hands it a cause: what the examination of R152
will make of it. -/
def State.stateAfter (s : State) (h : Handing) : LatchState :=
  h.finalState.getD (if s.allClear h.latch then .clearable else .tripped)

/-- R150, R151, R155, R160: a cause handed to a latch, with the notice, the hand-on, the count of the
operations it stopped, and the examination. -/
def handCause (h : Handing) (s : State) : State :=
  let leaves := (s.latch h.latch).state = .normal
  let s := if leaves then tripLatch h s else furtherCause h s
  let number := (s.latch h.latch).trip
  let s := s.post (.trip h.latch (number.getD 0) h.cause leaves (s.stateAfter h))
  let before := s.unstopped
  let s := whileTripping (handOn h leaves) s
  let stopped := before - s.unstopped + h.already
  let s := changeEntry number (fun e => { e with stopped := e.stopped + stopped }) s
  examine h.latch s

/-! ## Line inputs (R146, R148, R152) -/

/-- R152: the latches that hold an input in their contributing sets are examined.  Log entry 11, the model's choice
(DESIGN CHOICE): where two latches hold it, the POINT latches come first, then the BUND latches, each in ascending
number, then the BAY latch. -/
def examineHolding (x : LineInput) (s : State) : State :=
  forEach (allLatches.filter fun l => (s.latch l).contributing.contains x) examine s

/-- R148: a debounced input hands its cause to the latch of its scope. -/
def handInput (x : DebouncedInput) (s : State) : State :=
  handCause (handing (s.latchOf x) (causeOf x) (some (.debounced x))) s

/-- R95, R148: HIGH_HIGH handed to the inlets whose open delivery targets the tank.  Log entry 11, the model's choice
(DESIGN CHOICE): neither rule orders two such inlets, and they take it in ascending number, which settles the journal
positions and the notices of two closes in AWAIT_COUPLING. -/
def handHighHigh (t : TankId) (s : State) : State :=
  let targeting := allInlets.filter fun i => (s.inlet i).delivery.any fun d => d.tank = t
  handReports (forEach targeting (stopInlet .highHigh) s)

/-- R95, R148, R156, R160: a HIGHHIGH input takes effect.  The latch that it sets adds no TRIP to the delivery
into its tank; a latch that was set before takes a further cause, which adds TRIP like any other. -/
def highHighTakesEffect (t : TankId) (s : State) : State :=
  let before := s.unstopped
  let latch := LatchId.bund (s.tankSet t).bund
  let s := whileTripping (handHighHigh t) s
  handCause
    { handing latch .highHigh (some (.debounced (.highhigh t))) with
      exemptTank := if s.isSet latch then none else some t, already := before - s.unstopped } s

/-- R148: a debounced input takes effect. -/
def takesEffect (x : DebouncedInput) (s : State) : State :=
  if s.isBypassed x then s
  else match x with
    | .highhigh t => highHighTakesEffect t s
    | .drip _ | .overpress _ | .sump _ => handInput x s

/-- R146: the debounced state that a line's level gives. -/
def settledAt (level : Bool) : Settled := if level then .active else .clear

/-- R146: a debounced input settles at its line's level. -/
def settleInput (x : DebouncedInput) (s : State) : State :=
  let i := s.debounced x
  let new := settledAt i.level
  let s := s.updDebounced x fun i => { i with settled := new, due := none }
  if i.settled = new then s
  else if new = .active then takesEffect x s
  else examineHolding (.debounced x) s

/-- R146: a debounce timer runs out. -/
def debounceEvent (x : DebouncedInput) (s : State) : State :=
  match (s.debounced x).due with
  | some due => settleInput x (s.reach due)
  | none => s

/-- R147: the instant at which a debounce timer started now runs out. -/
def State.debounceDue (s : State) (x : DebouncedInput) : Nat := s.clock + debounceTenths s.store.debounce x * 100

/-- R146: a change of a line's level starts its debounce timer. -/
def lineInputEvent (x : DebouncedInput) (level : Bool) (s : State) : State :=
  if (s.debounced x).level = level then s
  else s.updDebounced x fun i => { i with level := level, due := some (s.debounceDue x) }

def State.setEstop (level : Bool) (s : State) : State :=
  { s with shutdown := { s.shutdown with estop := ⟨level, settledAt level, none⟩ } }

/-- R146, R148: ESTOP acts in the event of its change. -/
def estopEvent (level : Bool) (s : State) : State :=
  if s.shutdown.estop.level = level then s
  else
    let s := s.setEstop level
    if level then handCause (handing .bay .estop (some .estop)) s else examineHolding .estop s

/-! ## Releases (R153, R154, R159) -/

/-- R153: the latch a request names. -/
def readLatch : Coded LatchName → Option LatchId
  | some (.point n) => (numbered 8 n).map .point
  | some (.bund n) => (numbered 4 n).map .bund
  | some .bay => some .bay
  | none => none

/-- R154, R159: a latch released. -/
def releaseLatch (x : LatchId) (l : Link) (s : State) : State :=
  let number := (s.latch x).trip
  let s := changeEntry number (fun e => { e with releaseTime := some s.seconds, releaseLink := some l }) s
  let s := (s.setLatch x .clear).post (.tripReleased x (number.getD 0) l)
  let s := checkProducts x s
  if x = .bay then startHead s else s

/-- Log entry 5: the RESET_KEY level read in this event. -/
def State.setKey (key : Bool) (s : State) : State := { s with shutdown := { s.shutdown with resetKey := key } }

/-- R153: RELEASE_TRIP. -/
def releaseTripRequest (v : Via) (name : Coded LatchName) (s : State) : Answer :=
  if !(s.perms v.link).release then refuse .notPermitted s
  else match readLatch name with
    | none => refuse .range s
    | some x =>
      checked
        [ ((s.latch x).state = .normal, .notTripped),
          ((s.latch x).state = .tripped, .stillActive),
          (x = .bay && !s.shutdown.resetKey, .keyRequired) ]
        (fun s => done (releaseLatch x v.link s)) s

/-! ## Bypasses (R161 to R163) -/

/-- R161: the input a SET_BYPASS names. -/
def readBypass : Coded BypassName → Option BypassId
  | some (.drip n) => (numbered 8 n).map .drip
  | some (.sump n) => (numbered 4 n).map .sump
  | none => none

/-- R163: the end of a bypass that was ON: an ACTIVE input hands its cause. -/
def bypassEnds (x : BypassId) (s : State) : State :=
  let x := bypassInput x
  if (s.debounced x).settled = .active then handInput x s else s

/-- R162: a bypass turned ON for so many minutes, or renewed. -/
def bypassOn (x : BypassId) (minutes : Nat) (l : Link) (s : State) : State :=
  examineHolding (.debounced (bypassInput x)) (s.setBypass x (some ⟨s.seconds + minutes * 60, l⟩))

/-- R162: a bypass turned OFF. -/
def bypassOff (x : BypassId) (s : State) : State :=
  let wasOn := (s.bypass x).isSome
  let s := s.setBypass x none
  if wasOn then bypassEnds x s else s

/-- R162: a bad code: the bypass OFF, BAD_BYPASS_CODE handed first, then what the end of the bypass hands. -/
def badBypassCode (x : BypassId) (s : State) : State :=
  let follows := (s.bypass x).isSome && (s.debounced (bypassInput x)).settled = .active
  let s := s.setBypass x none
  let s := handCause
    { handing (s.latchOf (bypassInput x)) .badBypassCode none with
      finalState := if follows then some .tripped else none } s
  if follows then handInput (bypassInput x) s else s

/-- R161, R162: SET_BYPASS. -/
def setBypassRequest (v : Via) (f : SetBypass) (s : State) : Answer :=
  if !(s.perms v.link).configure then refuse .notPermitted s
  else match readBypass f.input with
    | none => refuse .range s
    | some x =>
      if f.code = 0x5AC3 then
        if 1 ≤ f.minutes ∧ f.minutes ≤ 480 then done (bypassOn x f.minutes v.link s) else refuse .range s
      else if f.code = 0xA53C then done (bypassOff x s)
      else if f.code ≤ 65535 then ⟨.badCode, [], badBypassCode x s⟩
      else refuse .range s

/-- R163: a bypass reaches its expiry time. -/
def bypassExpiryEvent (x : BypassId) (s : State) : State :=
  match s.bypass x with
  | some b => bypassOff x (s.reach (b.expiry * 1000))
  | none => s

/-! ## SET_DEBOUNCE, READ_TRIP_LOG and SHUTDOWN_STATUS (R147, R165, R166) -/

/-- R147: a debounce time written for a class. -/
def setDebounceTime (c : InputClass) (tenths : Nat) (d : DebounceTimes) : DebounceTimes :=
  match c with
  | .drip => { d with drip := tenths }
  | .overpress => { d with overpress := tenths }
  | .sump => { d with sump := tenths }
  | .highhigh => { d with highhigh := tenths }

/-- R147: SET_DEBOUNCE. -/
def setDebounceRequest (v : Via) (f : SetDebounce) (s : State) : Answer :=
  if !(s.perms v.link).configure then refuse .notPermitted s
  else match f.inputs with
    | none => refuse .range s
    | some c =>
      if 1 ≤ f.tenths ∧ f.tenths ≤ 50 then
        done { s with store := { s.store with debounce := setDebounceTime c f.tenths s.store.debounce } }
      else refuse .range s

/-- R164: the layout of a trip log entry. -/
def tripEntryItems (e : TripEntry) : List Item :=
  [item4 e.number, item4 e.time] ++ latchItems e.scope ++
  itemList 4 1 (fun c => [item1 c.code]) e.causes ++
  [item1 e.stopped, .nat 8 e.releaseTime, itemId? e.releaseLink]

/-- R165: the trip numbers that the log holds. -/
def State.tripNumbers (s : State) : List Nat := s.shutdown.log.map TripEntry.number

/-- R165: the lowest and highest trip numbers held. -/
def tripLogBounds (s : State) : List Item := [.nat 8 s.tripNumbers.min?, .nat 8 s.tripNumbers.max?]

/-- R165: the entry of a trip number, when the log holds it. -/
def State.tripNumbered (s : State) (n : Nat) : Option TripEntry := s.shutdown.log.find? fun e => e.number = n

/-- R165: the entry a request asks for; NEWEST is that of the highest trip number held. -/
def State.tripEntry (s : State) : TripLogName → Option TripEntry
  | .number n => s.tripNumbered n
  | .newest => s.tripNumbers.max?.bind s.tripNumbered

/-- R165: READ_TRIP_LOG.  A trip number beyond 32 bits is RANGE (log entry 27). -/
def readTripLogRequest (name : Coded TripLogName) (s : State) : Answer :=
  match name with
  | none => refuse .range s
  | some name =>
    if (match name with | .number n => decide (Config.maxCount < n) | .newest => false) then refuse .range s
    else match s.tripEntry name with
      | some e => ⟨.ok, tripEntryItems e ++ tripLogBounds s, s⟩
      | none => ⟨.notFound, tripLogBounds s, s⟩

/-- R145: the inputs that may join a latch's contributing set, the members of that set on a link. -/
def possibleInputs : LatchId → List LineInput
  | .point p => [.debounced (.drip p), .debounced (.overpress p)]
  | .bund b => .debounced (.sump b) :: allTanks.map fun t => .debounced (.highhigh t)
  | .bay => [.estop]

/-- R166: a latch in SHUTDOWN_STATUS. -/
def latchStatusItems (s : State) (x : LatchId) : List Item :=
  let l := s.latch x
  let members := possibleInputs x
  [item1 l.state.code] ++ itemList 4 1 (fun c => [item1 c.code]) l.causes ++
  [ itemSet (if members.length ≤ 8 then 1 else 2) (members.map l.contributing.contains), .nat 8 l.trip,
    .nat 8 l.time ]

/-- R166: a line input in SHUTDOWN_STATUS. -/
def inputItems (i : Input) : List Item := [itemFlag i.level, item1 i.settled.code]

/-- R166: a bypass in SHUTDOWN_STATUS, OFF numbered 1 and ON 2. -/
def bypassItems (s : State) (b : Option Bypass) : List Item :=
  match b with
  | none => [item1 1, .nat 2 none, .nat 1 none]
  | some b => [item1 2, item2 ((b.expiry - s.seconds + 59) / 60), itemId b.link]

/-- R166: SHUTDOWN_STATUS. -/
def shutdownStatusRequest (s : State) : Answer :=
  ⟨.ok,
    allLatches.flatMap (latchStatusItems s) ++
    (allDebounced.flatMap fun x => inputItems (s.debounced x)) ++ inputItems s.shutdown.estop ++
    (allBypasses.flatMap fun x => bypassItems s (s.bypass x)) ++ [itemFlag s.shutdown.resetKey], s⟩

/-! ## Computed causes of the meters and gauges (R149) -/

/-- R160: whether a termination cause came from the latch that HOSE_BREAK sets: HOSE_BREAK itself, or the
TRIP of an exhaustion report of this event. -/
def fromHoseBreak : Option Cause → Bool
  | some .hoseBreak | some .trip => true
  | _ => false

/-- R36, R39, R156: HOSE_BREAK handed at a point's window end, with the operations already stopped by it.  The latch that
it sets adds no TRIP to this point's order; a latch that was set before takes a further cause, which adds TRIP to an
order still STOPPING like any other.  DEDUCED: R156's first words, of the cause that sets a latch, stand over its bullet
on HOSE_BREAK (log entry 45). -/
def handHoseBreak (p : PointId) (already : Nat) (s : State) : State :=
  handCause
    { handing (.point p) .hoseBreak none with
      exemptPoint := if s.isSet (.point p) then none else some p, already := already } s

/-- R36, R160: the window end of a point that hands HOSE_BREAK.  An order of this point that took its limit
or its no-flow condition as termination cause is not counted. -/
def hoseBreakWindow (p : PointId) (w : Working) (reading : Option Int) (s : State) : State :=
  let termination (s : State) : Option Cause := (s.point p).order.bind Order.termination
  let after := whileTripping (pointWindowEnd p w reading) s
  let other := (termination s).isNone && (termination after).isSome && !fromHoseBreak (termination after)
  handHoseBreak p (s.unstopped - after.unstopped - other.toNat) after

/-- R4: the window end of a point, with the HOSE_BREAK it may hand. -/
def pointWindowEvent (p : PointId) (reading : Option Int) (s : State) : State :=
  match (s.point p).meter.working with
  | none => s
  | some w => if s.handsHoseBreak p w then hoseBreakWindow p w reading s else pointWindowEnd p w reading s

/-- R4: the window end of an inlet. -/
def inletWindowEvent (i : InletId) (reading : Option Int) (s : State) : State :=
  match (s.inlet i).meter.working with
  | none => s
  | some w => handReports (inletWindowEnd i w reading s)

/-- R5: a pulse on a METER line. -/
def meterPulseEvent (m : MeterId) (s : State) : State :=
  match m with
  | .point p => s.updPoint p fun u => { u with meter := countPulse s.clock u.meter }
  | .inlet i => s.updInlet i fun u => { u with meter := countPulse s.clock u.meter }

/-- R149, R160: an event whose finding hands a cause: what it does, then the cause, with the operations that
an exhaustion report of the event stopped. -/
def findingEvent (f : State → State) (x : LatchId) (c : TripCause) (s : State) : State :=
  let after := whileTripping f s
  handCause { handing x c none with already := s.unstopped - after.unstopped } after

/-- R41: the stop timer of a point runs out. -/
def stopTimerEvent (p : PointId) (reading : Option Int) (s : State) : State :=
  match (s.point p).stopDue with
  | none => s
  | some due =>
    let s := s.reach due
    if pulsedLately s.clock (s.point p).meter then
      findingEvent (pointStopExpires p reading true) (.point p) .valveLeak s
    else pointStopExpires p reading false s

/-- R96: the stop timer of an inlet runs out; a leak is handed to the bund of the target tank. -/
def inletStopTimerEvent (i : InletId) (reading : Option Int) (s : State) : State :=
  match (s.inlet i).stopDue, (s.inlet i).delivery with
  | some due, some d =>
    let s := s.reach due
    if pulsedLately s.clock (s.inlet i).meter then
      findingEvent (fun s => handReports (inletStopExpires i reading true s))
        (.bund (s.tankSet d.tank).bund) .valveLeak s
    else handReports (inletStopExpires i reading false s)
  | _, _ => s

/-- R74, R79, R93: the gauge reading of a tank. -/
def gaugeReadingEvent (t : TankId) (report : Option GaugeReport) (s : State) : State :=
  match validReading report with
  | none => invalidReading t s
  | some r =>
    let s := judgeGaugeLevel t (handReports (takeReading t r s))
    if s.hasLost t then
      handCause (handing (.bund (s.tankSet t).bund) .tankLoss none) (restartQuiet t s)
    else s

end Sys2Proof.Machine
end

