-- ==== Sys2Proof/Machine/Bay.lean ====
section
/-! DEFINITION. The bay unit (chapter 11): modes, the clock and shifts, BAY_STATUS, and the restarts with
their sequence. -/

namespace Sys2Proof.Machine

open Sys2Proof

/-! ## SET_MODE (R195, R197) -/

/-- R195: a pump is QUEUED, STARTING or RUNNING. -/
def State.pumpsBusy (s : State) : Bool :=
  allPumps.any fun m => match (s.pump m).state with
    | .queued | .starting | .running => true
    | .off | .holding | .faulted => false

/-- R195: SET_MODE OPEN. -/
def setModeOpenRequest (v : Via) (s : State) : Answer :=
  if !(s.perms v.link).dispense then refuse .notPermitted s
  else match s.bay.mode with
    | .open => refuse .already s
    | .standby => done (wake (.setModeOpen v.link) s)
    | .locked => refuse .bayLocked s

/-- R195: SET_MODE STANDBY. -/
def setModeStandbyRequest (v : Via) (s : State) : Answer :=
  if !(s.perms v.link).dispense then refuse .notPermitted s
  else match s.bay.mode with
    | .open =>
      if s.anyOpen || s.pumpsBusy then refuse .bayBusy s
      else done (changeMode .standby (.request v.link) (standbyPumps s))
    | .standby => refuse .already s
    | .locked => refuse .bayLocked s

/-- R197: every open operation stopped with cause STOPPED.  Log entry 11, the model's choice (DESIGN CHOICE): R197 gives
no order and R171 lets either of two closes be first, so the points are taken in ascending number and then the inlets;
this settles the journal positions of what closes at once, and whether a pump starts for a claim that is then let go. -/
def stopAll (s : State) : State :=
  handReports (forEach allInlets (stopInlet .stopped) (forEach allPoints (stopPoint none .stopped) s))

/-- R195, R197: SET_MODE LOCK.  Log entry 8, the model's choice: BAY_MODE is posted ahead of the notices of what the
LOCK stops. -/
def setModeLockRequest (v : Via) (s : State) : Answer :=
  if !(s.perms v.link).configure then refuse .notPermitted s
  else match s.bay.mode with
    | .open | .standby => done (stopAll (changeMode .locked (.request v.link) s))
    | .locked => refuse .already s

/-- R195, R197: SET_MODE UNLOCK. -/
def setModeUnlockRequest (v : Via) (s : State) : Answer :=
  if !(s.perms v.link).configure then refuse .notPermitted s
  else match s.bay.mode with
    | .open | .standby => refuse .already s
    | .locked => done (changeMode .open (.request v.link) s)

/-! ## The clock and the shifts (R198) -/

/-- R198: the next shift start recomputed from a calendar time. -/
def setNextShift (calendar : Nat) (s : State) : State :=
  { s with bay := { s.bay with nextShift := nextShiftStart calendar s.store.shifts } }

/-- R198: one shift change when a calendar time has reached the next shift start. -/
def shiftIfReached (calendar : Nat) (s : State) : State :=
  if s.bay.nextShift ≤ calendar then shiftChange s else s

/-- R198: SET_CLOCK.  A time beyond 32 bits is RANGE (log entry 27). -/
def setClockRequest (v : Via) (calendar : Nat) (s : State) : Answer :=
  if !(s.perms v.link).configure then refuse .notPermitted s
  else if Config.maxCount < calendar then refuse .range s
  else
    let old := s.calendar
    let s := { s with bay := { s.bay with offset := (calendar : Int) - s.seconds, clockSet := true } }
    ⟨.ok, [item4 old, item4 calendar], setNextShift calendar (shiftIfReached calendar s)⟩

/-- R198: SET_SHIFT_TABLE. -/
def setShiftTableRequest (v : Via) (minutes : Coded (List Nat)) (s : State) : Answer :=
  if !(s.perms v.link).configure then refuse .notPermitted s
  else match minutes with
    | none => refuse .range s
    | some ms =>
      if 1 ≤ ms.length ∧ ms.length ≤ 4 ∧ ms.Nodup ∧ ms.all (· ≤ 1439) then
        let s := { s with store := { s.store with shifts := ms } }
        done (setNextShift s.calendar s)
      else refuse .range s

/-- R198: the instant at which calendar time reaches the next shift start. -/
def State.shiftInstant (s : State) : Nat := ((s.bay.nextShift : Int) - s.bay.offset).toNat * 1000

/-- R198: a shift start falls. -/
def shiftStartEvent (s : State) : State :=
  let s := shiftChange (s.reach s.shiftInstant)
  setNextShift s.calendar s

/-! ## BAY_STATUS (R202) -/

/-- R202: BAY_STATUS.  Log entry 14, the model's choice (DESIGN CHOICE): of a next shift start past the range of calendar
time it sends the lowest 32 bits. -/
def bayStatusRequest (s : State) : Answer :=
  let j := s.journal
  ⟨.ok,
    [ item1 s.bay.mode.code, itemFlag s.bay.curtailed, item2 j.uncollected, item1 j.openCount, item2 j.reserve,
      item4 s.seconds, .int 8 (some s.bay.offset), item4 s.calendar, itemFlag s.bay.clockSet ] ++
    itemList 4 2 (fun m => [item2 m]) s.store.shifts ++
    [item4 s.bay.nextShift, item4 s.accounts.lastShiftChange] ++ restartItems s.bay.restart, s⟩

/-! ## The steps of a restart (R199 to R202) -/

/-- R199: a settings store that fails its check is replaced by a blank store.  The next shift start is of retained
memory and stays (log entry 54). -/
def checkStore (check : MemoryCheck) (s : State) : State :=
  if check.settingsValid then s else { s with store := .blank }

/-- R47: a point unit at a restart; the running record of an open order stays in retained memory. -/
def restartPoints (s : State) : State :=
  { s with points := Vector.ofFn fun p =>
      { PointUnit.restarted (s.pointSet p).enabled s.clock with order := (s.point p).order } }

/-- R104: an inlet unit at a restart; the running record of an open delivery stays in retained memory. -/
def restartInlets (s : State) : State :=
  { s with inlets := mapTable s.inlets fun u => { InletUnit.restarted u.coupled with delivery := u.delivery } }

/-- R86: a tank at a restart with a valid image (log entry 34: its quiet window). -/
def Tank.restarted (now : Nat) (x : Tank) : Tank :=
  { x with
    gauge := .waiting, gauged := none, stable := false, lastGood := none, overStrap := false
    variance := none, quietStart := now, quietRef := none }

/-- R86: the stock unit at a restart with a valid image. -/
def restartStock (s : State) : State :=
  { s with stock :=
      { tanks := mapTable s.stock.tanks (Tank.restarted s.seconds), draws := s.stock.draws
        checkDue := s.clock + s.store.timing.checkPeriod * 60000, reports := [], tripping := false } }

/-- R144: the cursors at a restart. -/
def restartCursors (s : State) : State :=
  { s with accounts := { s.accounts with cursors := fill 3 0 } }

/-- R193: the link units at a restart. -/
def restartLinks (s : State) : State := { s with links := fill 3 .restarted }

/-- Exhaustion reports of a restart are handed to no one: no point holds an order then (R86). -/
def dropReports (s : State) : State := { s with stock := { s.stock with reports := [] } }

/-- R86: with a blank store, the conditions of each tank and the chain check of every product from its
chain's start.  Log entry 11, the model's choice (DESIGN CHOICE): R86 does not order the products, and they are taken
in ascending code, after the change of the bay mode (log entry 8). -/
def checkBlankStore (s : State) : State :=
  dropReports (forEach allProducts (fun k => chainCheck k true) (forEach allTanks evaluateConditions s))

/-- R200, step 1: LOCKED stays LOCKED; every other mode becomes OPEN, a change from STANDBY posting BAY_MODE
(log entry 16). -/
def restartMode (s : State) : State := wake .restart s

/-- R200, step 1: each block takes its restart state. -/
def restartBlocks (check : MemoryCheck) (s : State) : State :=
  let s := restartLinks (restartCursors (restartStock (restartInlets (restartPumps (restartPoints s)))))
  let s := restartMode s
  if check.settingsValid then s else checkBlankStore s

/-- R200, step 2: a shift start that has been reached is taken, and the next is recomputed.  Log entry 54, the model's
choice (DESIGN CHOICE): where the settings store was found blank the retained start, of the table that is gone, stays
until it is reached, and only then are the blank table's starts (R198) taken up. -/
def restartShift (s : State) : State :=
  if s.bay.nextShift ≤ s.calendar then setNextShift s.calendar (shiftChange s) else s

/-- R200, step 3: the causes an operation had taken become its secondaries, at most three. -/
def interruptedSecondaries (termination : Option Cause) (secondaries : List Cause) : List Cause :=
  (termination.toList ++ secondaries).take Config.maxSecondaries

/-- R200, step 3: an interrupted order closed from its running record. -/
def interruptOrder (p : PointId) (s : State) : State :=
  match (s.point p).order with
  | none => s
  | some o =>
    let o := { o with
      termination := some .interrupted, secondaries := interruptedSecondaries o.termination o.secondaries }
    (recordOrder p o .interrupted s).updPoint p fun u => { u with order := none }

/-- R86, R104, R200, step 3: an interrupted delivery closed from its running record. -/
def interruptDelivery (i : InletId) (s : State) : State :=
  let s := s.updDelivery i fun d => { d with
    termination := some .interrupted, secondaries := interruptedSecondaries d.termination d.secondaries }
  dropReports (closeDelivery i (notReconciled .interrupted) s)

/-- An open operation, named by the block that holds it. -/
inductive OpenOperation where
  | order (p : PointId)
  | delivery (i : InletId)
  deriving DecidableEq, Repr

/-- R200: the operations whose running records are in the image, with their order numbers. -/
def State.openOperations (s : State) : List (Nat × OpenOperation) :=
  (allPoints.filterMap fun p => (s.point p).order.map fun o => (o.number, .order p)) ++
    allInlets.filterMap fun i => (s.inlet i).delivery.map fun d => (d.number, .delivery i)

/-- A numbered thing put in its place by number. -/
def insertByNumber {α : Type} (x : Nat × α) : List (Nat × α) → List (Nat × α)
  | [] => [x]
  | y :: rest => if x.1 < y.1 then x :: y :: rest else y :: insertByNumber x rest

/-- R200: numbered things in ascending order of number. -/
def sortByNumber {α : Type} (xs : List (Nat × α)) : List (Nat × α) := xs.foldr insertByNumber []

/-- R200, step 3: one operation closed. -/
def interrupt : OpenOperation → State → State
  | .order p => interruptOrder p
  | .delivery i => interruptDelivery i

/-- R167: a debounced input at a restart: UNSETTLED, its timer started. -/
def restartInput (now tenths : Nat) (i : Input) : Input := ⟨i.level, .unsettled, some (now + tenths * 100)⟩

/-- R167: the bypasses and the debounced inputs at a restart. -/
def restartInputs (s : State) : State :=
  let d := s.store.debounce
  { s with shutdown := { s.shutdown with
      drip := mapTable s.shutdown.drip (restartInput s.clock d.drip)
      overpress := mapTable s.shutdown.overpress (restartInput s.clock d.overpress)
      sump := mapTable s.shutdown.sump (restartInput s.clock d.sump)
      highhigh := mapTable s.shutdown.highhigh (restartInput s.clock d.highhigh)
      dripBypass := fill 8 none
      sumpBypass := fill 4 none } }

/-- R167: ESTOP takes the level of its line at once, and acts on the BAY latch. -/
def restartEstop (s : State) : State :=
  let level := s.shutdown.estop.level
  let s := s.setEstop level
  if level then handCause (handing .bay .estop (some .estop)) s else examineHolding .estop s

/-- R200, step 4: the shutdown unit starts. -/
def startShutdown (s : State) : State := dropReports (restartEstop (restartInputs s))

/-- R202: the restart cause record written, and RESTARTED posted to every link. -/
def recordRestart (cause : RestartCause) (check : MemoryCheck) (interrupted : Nat) (link : Option Link)
    (s : State) : State :=
  let r : RestartRecord :=
    ⟨cause, check.imageValid, check.settingsValid, interrupted, s.seconds, s.calendar, link⟩
  let s := { s with bay := { s.bay with restart := r } }
  forEach allLinks (fun l => State.postTo l (.restarted r)) s

/-- R199: a controller that starts is no longer stopped. -/
def startController (s : State) : State := { s with bay := { s.bay with stopped := false } }

/-- R200: what the restart sequence does after step 1, event by event. -/
inductive SequenceStep where
  | shift
  | close (x : OpenOperation)
  | shutdown
  deriving DecidableEq, Repr

/-- R200, steps 2 to 4: one event of the sequence. -/
def sequenceStep : SequenceStep → State → State
  | .shift => restartShift
  | .close x => interrupt x
  | .shutdown => startShutdown

/-- R200, steps 2 to 4: the events of the sequence, the closes in ascending order of order number. -/
def State.sequence (s : State) : List SequenceStep :=
  .shift :: (sortByNumber s.openOperations).map (fun x => .close x.2) ++ [.shutdown]

/-- R199: the outputs released, the windows dropped, and what the links had in progress abandoned, as at the moment
a restart begins.  Log entry 53, the model's choice: a supply dip does so at once. -/
def releaseOutputs (s : State) : State :=
  { s with
    points := mapTable s.points fun u => { u with valve := false, meter := .idle }
    inlets := mapTable s.inlets fun u => { u with valve := false, meter := .idle }
    pumps := { s.pumps with units := mapTable s.pumps.units fun u => { u with run := false } }
    links := mapTable s.links fun u =>
      { u with notice := false, service := none, busyWaiting := none, inFrame := false, restartOwed := .none } }

/-- R199: the controller stops until the supply returns.  Log entry 53, the model's choice (DESIGN CHOICE): R199 gives
the release and the drop at the moment the restart begins, which is when the supply returns, and does not say what
the outputs do until then; the model makes both as the controller stops. -/
def stopController (s : State) : State := { releaseOutputs s with bay := { s.bay with stopped := true } }

/-- R200: events of the sequence taken, and then step 5; or, when the supply fails again after so many of them, only
those, and the controller waits for the restart that starts again from the check (log entry 42). -/
def runSequence (events : List SequenceStep) (cause : RestartCause) (check : MemoryCheck) (interrupted : Nat)
    (link : Option Link) (s : State) : State :=
  match check.cutAfter with
  | none => recordRestart cause check interrupted link (forEach events sequenceStep s)
  | some n => stopController (forEach (events.take n) sequenceStep s)

/-- R200: the restart sequence with a valid image.  With a blank store the retained next shift start is kept until it is
reached (log entry 54, the model's choice). -/
def restartKept (cause : RestartCause) (check : MemoryCheck) (link : Option Link) (s : State) : State :=
  let s := restartBlocks check (startController (checkStore check s))
  runSequence s.sequence cause check s.openOperations.length link s

/-- R85, R128, R168, R178, R201: the live tables cleared; the lines keep their levels. -/
def loseImage (s : State) : State :=
  { s with
    clock := 0
    bay :=
      { stopped := false, mode := .locked, curtailed := false, offset := 0, clockSet := false
        nextShift := nextShiftStart 0 s.store.shifts, restart := .first }
    points := Vector.ofFn fun p => .restarted (s.pointSet p).enabled 0
    inlets := mapTable s.inlets fun u => .restarted u.coupled
    stock :=
      { tanks := fill 12 (.lost 0), draws := fill 8 ⟨none, none⟩
        checkDue := s.store.timing.checkPeriod * 60000, reports := [], tripping := false }
    accounts :=
      { table := [], classes := fill 16 .initial, deferred := [], cursors := fill 3 0, lastShiftChange := 0 }
    shutdown := { s.shutdown with
      pointLatches := fill 8 .clear, bundLatches := fill 4 .clear, bayLatch := .clear, log := [], nextTrip := 1 }
    journal := .lost }

/-- R201: the restart sequence with a lost image. -/
def restartLost (cause : RestartCause) (check : MemoryCheck) (link : Option Link) (s : State) : State :=
  runSequence [.shutdown] cause check 0 link (restartLinks (restartPumps (loseImage (checkStore check s))))

/-- R199: a restart of a cause, by what it finds. -/
def restart (cause : RestartCause) (check : MemoryCheck) (link : Option Link) (s : State) : State :=
  if check.imageValid then restartKept cause check link s else restartLost cause check link s

/-! ## The restarts (R199) -/

/-- R199: RESTART_REQUEST.  The restart begins once its reply is over; a link that is not LOCKED sends none. -/
def restartRequestTaken (v : Via) (s : State) : Answer :=
  if !(s.perms v.link).configure then refuse .notPermitted s
  else done (s.updLink v.link fun u => { u with restartOwed := if u.rate.isSome then .replying else .over })

/-- R199: POWER_ON, after so many milliseconds without power; the battery-kept count has gone on. -/
def powerOnEvent (check : MemoryCheck) (offMs : Nat) (s : State) : State :=
  restart .powerOn check none { s with clock := s.clock + offMs }

/-- R199: SUPPLY_DIP.  Log entry 53, the model's choice (DESIGN CHOICE): the outputs are released, the windows dropped,
and the frames, replies and owed restarts of the links abandoned, in the event of the dip and not first when the
supply returns. -/
def supplyDipEvent (s : State) : State := stopController s

/-- R199: SUPPLY_RETURN: the controller that a dip has stopped restarts with cause SUPPLY_DIP. -/
def supplyReturnEvent (check : MemoryCheck) (s : State) : State :=
  if s.bay.stopped then restart .supplyDip check none s else s

/-- R199: the restart ordered by a link's RESTART_REQUEST, once its reply is over. -/
def requestedRestartEvent (l : Link) (check : MemoryCheck) (s : State) : State :=
  if (s.link l).restartOwed = .over then restart .request check (some l) s else s

/-! ## Lines while the controller is stopped -/

/-- R146, R167, log entry 7: while the controller is stopped a line's level is what the restart will find. -/
def followLine (x : DebouncedInput) (level : Bool) (s : State) : State :=
  s.updDebounced x fun i => { i with level := level }

end Sys2Proof.Machine
end

