-- ==== Sys2Proof/Machine/Links.lean ====
section
/-! DEFINITION. The link units (chapter 10): notices fetched, subscriptions, permissions, settings read, the
status of a link, and the line: rate, frames, replies and breaks. -/

namespace Sys2Proof.Machine

open Sys2Proof

/-! ## Notices and subscriptions (R190 to R192) -/

/-- R190: FETCH_NOTICES. -/
def fetchNoticesRequest (v : Via) (count : Nat) (s : State) : Answer :=
  if 1 ≤ count ∧ count ≤ 8 then
    let u := s.link v.link
    let left := u.queue.drop count
    let level := (look s.store.links v.link).level
    ⟨.ok,
      (u.queue.take count).flatMap noticeEntryItems ++ [itemFlag u.overflow, item1 left.length],
      s.updLink v.link fun u => ({ u with queue := left, overflow := false }).lineAt level⟩
  else refuse .range s

def State.setLinkSettings (l : Link) (x : LinkSettings) (s : State) : State :=
  { s with store := { s.store with links := put s.store.links l x } }

/-- R192: SET_SUBSCRIPTION. -/
def setSubscriptionRequest (v : Via) (f : SetSubscription) (s : State) : Answer :=
  if f.link ≠ numberOf v.link ∧ !(s.perms v.link).configure then refuse .notPermitted s
  else match numbered 3 f.link, f.classes with
    | some l, some classes =>
      if 1 ≤ f.level ∧ f.level ≤ 16 then
        let s := s.setLinkSettings l { look s.store.links l with classes := classes, level := f.level }
        done (s.updLink l (LinkUnit.lineAt f.level))
      else refuse .range s
    | _, _ => refuse .range s

/-! ## Permissions (R184) -/

/-- R184: some link would hold CONFIGURE with a link's set replaced. -/
def State.configureHeld (s : State) (l : Link) (perms : Perms) : Bool :=
  allLinks.any fun m => if m = l then perms.configure else (s.perms m).configure

/-- R184: SET_PERMISSIONS. -/
def setPermissionsRequest (v : Via) (f : SetPermissions) (s : State) : Answer :=
  if !(s.perms v.link).configure then refuse .notPermitted s
  else match numbered 3 f.link, f.perms with
    | some l, some perms =>
      if s.configureHeld l perms then done (s.setLinkSettings l { look s.store.links l with perms := perms })
      else refuse .lastConfigure s
    | _, _ => refuse .range s

/-! ## READ_SETTINGS and LINK_STATUS (R185, R186) -/

/-- R184: a permission set, its members in the order of the table of section 10. -/
def permsItem (p : Perms) : Item :=
  itemSet 1 [p.dispense, p.override, p.accounts, p.stock, p.collect, p.release, p.configure]

/-- R192: a set of notice classes. -/
def classesItem (c : NoticeClasses) : Item := itemSet 1 [c.orders, c.stock, c.accounts, c.shutdown, c.bay]

/-- R2: the meter settings of a point or an inlet. -/
def meterItems (m : MeterSettings) : List Item :=
  [ item4 m.pulseVolume, item2 m.q1, item2 m.q2, item2 m.q3, item2 m.q4, .int 2 (some m.d1), .int 2 (some m.d2),
    .int 2 (some m.d3), .int 2 (some m.d4) ]

/-- A choice of two values, the first numbered 1 and the second 2. -/
def itemChoice (first : Bool) : Item := item1 (if first then 1 else 2)

/-- R18: the fields of SET_POINT. -/
def pointItems (p : PointId) (x : PointSettings) : List Item :=
  [ itemId p, itemChoice x.enabled, itemId x.product, itemId x.pump, itemChoice x.nozzleFitted,
    item1 x.identTime, item1 (attendanceCode x.attendance), item2 x.maxFlow, item1 x.noFlowThreshold,
    item1 x.noFlowTime, item1 x.primeTime, item1 x.stopAllowance, item2 x.maxOrder ] ++ meterItems x.meter

/-- R87: the fields of SET_INLET. -/
def inletItems (i : InletId) (x : InletSettings) : List Item :=
  [ itemId i, itemSet 2 (allTanks.map x.reachable.contains), item1 x.noFlowThreshold, item1 x.noFlowTime,
    item1 x.settleTime, item1 x.settleStep ] ++ meterItems x.meter

/-- R63: the fields of SET_PRODUCT. -/
def productItems (k : ProductId) (x : ProductSettings) : List Item :=
  [itemId k, item1 (productKindCode x.kind), item2 x.beta, .text 8 x.name] ++
    itemList 4 1 (fun t => [itemId t]) x.chain

/-- R64: the fields of SET_TANK. -/
def tankItems (t : TankId) (x : TankSettings) : List Item :=
  [ itemId t, itemId x.product, itemId x.bund, item4 x.capacity, item4 x.lowCut, item4 x.lowAlarm,
    item4 x.highCut, item4 x.hysteresis, item4 x.tolerance, item4 x.leakThreshold ] ++
  x.strapping.toList.flatMap fun p => [item2 p.level, item4 p.volume]

/-- R147: the fields of SET_DEBOUNCE, class and time, for each of the four classes in the order of the rule. -/
def debounceItems (d : DebounceTimes) : List Item :=
  [ item1 1, item1 d.drip, item1 2, item1 d.overpress, item1 3, item1 d.sump, item1 4, item1 d.highhigh ]

/-- R184, R185, R192: the permissions and the subscription of a link, in the fields of the two requests that write them.
Log entry 18, the model's choice (DESIGN CHOICE): each brings its link number, so that the number is sent twice. -/
def linkItems (l : Link) (x : LinkSettings) : List Item :=
  [itemId l, permsItem x.perms, itemId l, classesItem x.classes, item1 x.level]

/-- R185: a settings record as the store holds it, in the fields of the request that writes it. -/
def settingsItems (s : State) : SettingsName → Option (List Item)
  | .point n => (numbered 8 n).map fun p => pointItems p (s.pointSet p)
  | .pump n => (numbered 6 n).map fun m =>
      [itemId m, item1 (s.pumpSet m).startTime, item2 (s.pumpSet m).holdTime]
  | .inlet n => (numbered 2 n).map fun i => inletItems i (s.inletSet i)
  | .product n => (numbered 8 n).map fun k => productItems k (s.productSet k)
  | .tank n => (numbered 12 n).map fun t => tankItems t (s.tankSet t)
  | .stockTiming => some [item1 s.store.timing.checkPeriod, item1 s.store.timing.quietPeriod]
  | .debounce => some (debounceItems s.store.debounce)
  | .shiftTable => some (itemList 4 2 (fun m => [item2 m]) s.store.shifts)
  | .link n => (numbered 3 n).map fun l => linkItems l (look s.store.links l)

/-- R185: READ_SETTINGS. -/
def readSettingsRequest (name : Coded SettingsName) (s : State) : Answer :=
  match name.bind (settingsItems s) with
  | some items => ⟨.ok, items, s⟩
  | none => refuse .range s

/-- R186: LINK_STATUS. -/
def linkStatusRequest (v : Via) (s : State) : Answer :=
  let u := s.link v.link
  let set := look s.store.links v.link
  ⟨.ok,
    [itemId v.link, .nat 4 (u.rate.map Rate.bits)] ++ (allLinks.map fun l => permsItem (s.perms l)) ++
    [ classesItem set.classes, item1 set.level, item1 u.queue.length, itemFlag u.overflow,
      .nat 1 (u.running.map fun op => op.work.kind), .nat 2 (u.running.map fun op => op.tag.toNat),
      .nat 1 (u.result.map fun r => r.content.kind), .nat 2 (u.result.map fun r => r.tag.toNat),
      .nat 1 (u.result.map fun r => r.content.outcome), item2 (look s.accounts.cursors v.link) ], s⟩

/-! ## The rate (R179, R180) -/

/-- R179: whether a width in nanoseconds is nearer the bit time of the faster of two rates; exactly midway
a free value decides (log entry 15). -/
def nearerFaster (slow fast width : Nat) : Bool :=
  let x := 2 * width * slow * fast
  let midway := 1000000000 * (slow + fast)
  x < midway || (x = midway && Config.midwayLocksFaster)

/-- R179: the rate whose bit time is nearest to the width measured. -/
def nearestRate (width : Nat) : Rate :=
  if nearerFaster 57600 115200 width then .r115200
  else if nearerFaster 38400 57600 width then .r57600
  else if nearerFaster 19200 38400 width then .r38400
  else if nearerFaster 9600 19200 width then .r19200
  else .r9600

/-- R179: a first character in RATE_SEEK.  0xA5 with a good stop bit locks the link and begins a frame. -/
def rateSeekEvent (l : Link) (width : Nat) (char : Byte) (stopGood : Bool) (s : State) : State :=
  if (s.link l).rate.isNone ∧ char = 0xA5 ∧ stopGood = true then
    s.updLink l fun u => { u with rate := some (nearestRate width), inFrame := true }
  else s

/-- R199: a RESTART_REQUEST whose reply has gone out or has been cut short. -/
def RestartOwed.ended : RestartOwed → RestartOwed
  | .replying => .over
  | .over => .over
  | .none => .none

/-- R180: a break on a LOCKED link; in RATE_SEEK it has no effect. -/
def breakEvent (l : Link) (s : State) : State :=
  if (s.link l).rate.isSome then
    s.updLink l fun u =>
      { u with
        rate := none, inFrame := false, service := none, busyWaiting := none
        restartOwed := u.restartOwed.ended }
  else s

/-! ## Frames and replies (R181, R182) -/

/-- R181: a frame abandoned, or bad: the link returns to HUNTING. -/
def huntAgain (l : Link) (s : State) : State :=
  if (s.link l).rate.isSome then s.updLink l fun u => { u with inFrame := false } else s

/-- R182: a request is in service on a link, or a BUSY reply waits. -/
def LinkUnit.inService (u : LinkUnit) : Bool := u.service.isSome || u.busyWaiting.isSome

/-- R182: the BUSY reply to a refused frame. -/
def busyReply (tag code : Byte) : Reply := ⟨tag, code, .busy, 0, []⟩

/-- R182: the last CHECK character of a reply has been sent: a BUSY reply that waits goes out next. -/
def replySentEvent (l : Link) (s : State) : State :=
  match (s.link l).service with
  | none => s
  | some _ =>
    let s := s.updLink l fun u => { u with service := none, restartOwed := u.restartOwed.ended }
    match (s.link l).busyWaiting with
    | none => s
    | some (tag, code) => (s.updLink l fun u => { u with busyWaiting := none }).reply l (busyReply tag code)

end Sys2Proof.Machine
end

