-- ==== Sys2Proof/Machine/Operands.lean ====
section
/-! DEFINITION. The operand forms of the requests on a link (R182, R194): from the payload of a good frame to
the request it spells.  Offsets and widths follow from the coding of R194 and the field lists of the rules. -/

namespace Sys2Proof.Machine

open Sys2Proof

/-! ## Fields of a payload -/

/-- The unsigned field of so many bytes at an offset. -/
def fieldAt (payload : List Byte) (offset width : Nat) : Nat := spelled ((payload.drop offset).take width)

/-- The signed field of so many bytes at an offset. -/
def signedAt (payload : List Byte) (offset width : Nat) : Int := spelledSigned ((payload.drop offset).take width)

/-- R194: an optional unsigned field; all ones is absent. -/
def optionAt (payload : List Byte) (offset width : Nat) : Option Nat :=
  let n := fieldAt payload offset width
  if n = 256 ^ width - 1 then none else some n

/-- R194: the text of so many bytes at an offset, its padding of spaces taken off. -/
def textAt (payload : List Byte) (offset width : Nat) : List Nat :=
  let chars := ((payload.drop offset).take width).map BitVec.toNat
  (chars.reverse.dropWhile (· = 0x20)).reverse

/-- R194: a set of so many members in its bits, least significant first; `none` when a bit that stands for no
member is set (log entry 20). -/
def setAt (payload : List Byte) (offset width members : Nat) : Coded (List Bool) :=
  let n := fieldAt payload offset width
  if n < 2 ^ members then some ((List.range members).map n.testBit) else none

/-- The values of a list coded at an offset: a count, then so many items of a size; `none` when the count
exceeds the capacity.  Log entry 52, the model's choice (DESIGN CHOICE): the bytes of unused items are not looked at. -/
def listAt {α : Type} (payload : List Byte) (offset capacity size : Nat) (item : Nat → α) : Coded (List α) :=
  let count := fieldAt payload offset 1
  if count ≤ capacity then some ((List.range count).map fun i => item (offset + 1 + i * size)) else none

/-! ## Enumerated fields (numbered from 1 in the order of their rules) -/

/-- The value that a code numbers in a list of an enumeration's values. -/
def coded {α : Type} (values : List α) (code : Nat) : Coded α := if code = 0 then none else values[code - 1]?

def orderKinds : List OrderKind := [.fuel, .service, .topup, .waste]
def productKinds : List ProductKind := [.fuel, .lube, .coolant, .waste]
def statusNames : List StatusName := [.active, .held, .barred]
def overdueActions : List OverdueAction := [.note, .hold]
def attendanceIntervals : List AttendanceInterval :=
  [.off, .s15, .s30, .s45, .s60, .s90, .s120, .s180, .s240]
def scanFields : List ScanField := [.serviceRemaining, .burnAverage, .shiftUsed, .hourMeter, .classNumber, .status]
def scanConditions : List ScanCondition := [.equal, .atMost, .atLeast]
def inputClasses : List InputClass := [.drip, .overpress, .sump, .highhigh]

/-- A choice of two values, the first numbered 1 and the second 2: whether it is the first. -/
def choiceAt (payload : List Byte) (offset : Nat) : Coded Bool := coded [true, false] (fieldAt payload offset 1)

/-- R194: an optional enumerated field; 0xFF is absent. -/
def optionCodedAt {α : Type} (values : List α) (payload : List Byte) (offset : Nat) : Option (Coded α) :=
  (optionAt payload offset 1).map (coded values)

/-- R184: a permission set from its seven bits. -/
def permsOf : List Bool → Coded Perms
  | [a, b, c, d, e, f, g] => some ⟨a, b, c, d, e, f, g⟩
  | _ => none

/-- R192: a set of notice classes from its five bits. -/
def classesOf : List Bool → Coded NoticeClasses
  | [a, b, c, d, e] => some ⟨a, b, c, d, e⟩
  | _ => none

/-! ## The field lists of the requests -/

/-- R2: the meter settings at an offset. -/
def meterAt (p : List Byte) (at' : Nat) : MeterSettings :=
  ⟨fieldAt p at' 4, fieldAt p (at' + 4) 2, fieldAt p (at' + 6) 2, fieldAt p (at' + 8) 2, fieldAt p (at' + 10) 2,
    signedAt p (at' + 12) 2, signedAt p (at' + 14) 2, signedAt p (at' + 16) 2, signedAt p (at' + 18) 2⟩

/-- R105: a service line at an offset: product, interval, hours at last service. -/
def lineAt (p : List Byte) (at' : Nat) : LineFields := ⟨fieldAt p at' 1, fieldAt p (at' + 1) 2, fieldAt p (at' + 3) 4⟩

/-- R185, R194: the record that READ_SETTINGS names: a selector, then the number of each form.  Log entry 52, the model's
choice (DESIGN CHOICE), here and in every other choice between forms: the fields of the forms not chosen are not looked
at. -/
def settingsNameOf (p : List Byte) : Coded SettingsName :=
  coded
    [ .point (fieldAt p 1 1), .pump (fieldAt p 2 1), .inlet (fieldAt p 3 1), .product (fieldAt p 4 1),
      .tank (fieldAt p 5 1), .stockTiming, .debounce, .shiftTable, .link (fieldAt p 6 1) ]
    (fieldAt p 0 1)

def openOrderOf (p : List Byte) : OpenOrder :=
  { point := fieldAt p 0 1, kind := coded orderKinds (fieldAt p 1 1), machine := optionAt p 2 2
    preset := optionAt p 4 4, manualHours := optionAt p 8 4, override := choiceAt p 12 }

def openDeliveryOf (p : List Byte) : OpenDelivery :=
  ⟨fieldAt p 0 1, fieldAt p 1 1, fieldAt p 2 1, textAt p 3 12, optionAt p 15 4⟩

def addAccountOf (p : List Byte) : AddAccount :=
  { machine := fieldAt p 0 2, klass := fieldAt p 2 1, status := coded statusNames (fieldAt p 3 1)
    allowance := fieldAt p 4 4, action := coded overdueActions (fieldAt p 8 1)
    lines := listAt p 9 4 7 (lineAt p), hourMeter := optionAt p 38 4 }

def writeAccountOf (p : List Byte) : WriteAccount :=
  { machine := fieldAt p 0 2, status := optionCodedAt statusNames p 2, klass := optionAt p 3 1
    allowance := optionAt p 4 4, hourMeter := optionAt p 8 4, action := optionCodedAt overdueActions p 12
    lines := (optionAt p 13 1).map fun _ => listAt p 13 4 7 (lineAt p) }

def scanAccountsOf (p : List Byte) : ScanAccounts :=
  ⟨coded scanFields (fieldAt p 0 1), coded scanConditions (fieldAt p 1 1), fieldAt p 2 4, fieldAt p 6 2, fieldAt p 8 1⟩

def setRangeStatusOf (p : List Byte) : SetRangeStatus :=
  ⟨fieldAt p 0 2, fieldAt p 2 2, optionAt p 4 1, coded statusNames (fieldAt p 5 1)⟩

def setClassOf (p : List Byte) : SetClass :=
  ⟨fieldAt p 0 1, fieldAt p 1 2, fieldAt p 3 2, fieldAt p 5 4, fieldAt p 9 2⟩

def latchNameOf (p : List Byte) : Coded LatchName :=
  coded [.point (fieldAt p 1 1), .bund (fieldAt p 2 1), .bay] (fieldAt p 0 1)

def setBypassOf (p : List Byte) : SetBypass :=
  ⟨coded [.drip (fieldAt p 1 1), .sump (fieldAt p 2 1)] (fieldAt p 0 1), fieldAt p 3 2, fieldAt p 5 2⟩

def tripLogNameOf (p : List Byte) : Coded TripLogName := coded [.number (fieldAt p 1 8), .newest] (fieldAt p 0 1)

def journalNameOf (p : List Byte) : Coded JournalName :=
  coded [.position (fieldAt p 1 8), .oldestUncollected] (fieldAt p 0 1)

def setPointOf (p : List Byte) : SetPoint :=
  { point := fieldAt p 0 1, enabled := choiceAt p 1, product := fieldAt p 2 1, pump := fieldAt p 3 1
    nozzleFitted := choiceAt p 4, identTime := fieldAt p 5 1
    attendance := coded attendanceIntervals (fieldAt p 6 1), maxFlow := fieldAt p 7 2
    noFlowThreshold := fieldAt p 9 1, noFlowTime := fieldAt p 10 1, primeTime := fieldAt p 11 1
    stopAllowance := fieldAt p 12 1, maxOrder := fieldAt p 13 2, meter := meterAt p 15 }

/-- R87: the set of reachable tanks. -/
def tanksAt (p : List Byte) (at' : Nat) : Coded (List TankId) :=
  (setAt p at' 2 12).map fun bits =>
    allTanks.filter fun t => bits.getD t.val false

def setInletOf (p : List Byte) : SetInlet :=
  { inlet := fieldAt p 0 1, reachable := tanksAt p 1, noFlowThreshold := fieldAt p 3 1
    noFlowTime := fieldAt p 4 1, settleTime := fieldAt p 5 1, settleStep := fieldAt p 6 1, meter := meterAt p 7 }

def setProductOf (p : List Byte) : SetProduct :=
  { product := fieldAt p 0 1, kind := coded productKinds (fieldAt p 1 1), beta := fieldAt p 2 2
    name := textAt p 4 8, chain := listAt p 12 4 1 fun i => fieldAt p i 1 }

def setTankOf (p : List Byte) : SetTank :=
  { tank := fieldAt p 0 1, product := fieldAt p 1 1, bund := fieldAt p 2 1, capacity := fieldAt p 3 4
    lowCut := fieldAt p 7 4, lowAlarm := fieldAt p 11 4, highCut := fieldAt p 15 4
    hysteresis := fieldAt p 19 4, tolerance := fieldAt p 23 4, leakThreshold := fieldAt p 27 4
    strapping := Vector.ofFn fun i => ⟨fieldAt p (31 + 6 * i.val) 2, fieldAt p (33 + 6 * i.val) 4⟩ }

/-! ## The catalogue (section 10.4) -/

/-- R182: what a good frame's CODE and payload spell: a request, a CODE that names none, or a payload that the
request's fields do not allow. -/
inductive FrameContent where
  | request (i : Instr)
  | unknown
  | outOfRange
  deriving DecidableEq, Repr

/-- R194: the payload length of each request of the catalogue, without a part number. -/
def payloadLength (code : Nat) : Option Nat :=
  match code with
  | 0x01 => some 0 | 0x02 => some 0 | 0x03 => some 1 | 0x04 => some 3 | 0x05 => some 0 | 0x06 => some 2
  | 0x07 => some 7
  | 0x10 => some 13 | 0x11 => some 5 | 0x12 => some 1 | 0x13 => some 0
  | 0x18 => some 19 | 0x19 => some 5 | 0x1A => some 1
  | 0x20 => some 2 | 0x21 => some 7 | 0x22 => some 2
  | 0x30 => some 2 | 0x31 => some 0 | 0x32 => some 2 | 0x33 => some 42 | 0x34 => some 42 | 0x35 => some 2
  | 0x36 => some 9 | 0x37 => some 6 | 0x38 => some 2 | 0x39 => some 1 | 0x3A => some 11
  | 0x40 => some 0 | 0x41 => some 3 | 0x42 => some 7 | 0x43 => some 9
  | 0x48 => some 9 | 0x49 => some 4
  | 0x50 => some 0 | 0x51 => some 1 | 0x52 => some 4 | 0x53 => some 9 | 0x54 => some 0
  | 0x60 => some 35 | 0x61 => some 4 | 0x62 => some 27 | 0x63 => some 17 | 0x64 => some 103 | 0x65 => some 2
  | 0x66 => some 2
  | _ => none

/-- Section 10.4: the CODE of the request that a command is; none for a command that is no request. -/
def requestCode (i : Instr) : Option Nat :=
  match i with
  | .fetchResult .. => some 0x01
  | .stopLong .. => some 0x02
  | .fetchNotices .. => some 0x03
  | .setSubscription .. => some 0x04
  | .linkStatus .. => some 0x05
  | .setPermissions .. => some 0x06
  | .readSettings .. => some 0x07
  | .openOrder .. => some 0x10
  | .stopOrder .. => some 0x11
  | .pointStatus .. => some 0x12
  | .pumpStatus .. => some 0x13
  | .openDelivery .. => some 0x18
  | .stopDelivery .. => some 0x19
  | .inletStatus .. => some 0x1A
  | .stockReportNow .. | .stockReportSettled .. => some 0x20
  | .adjustStockSetToGauge .. | .adjustStockDelta .. => some 0x21
  | .setTankService .. => some 0x22
  | .readAccount .. => some 0x30
  | .readNextAccount .. => some 0x31
  | .setCursor .. => some 0x32
  | .addAccount .. => some 0x33
  | .writeAccount .. => some 0x34
  | .deleteAccount .. => some 0x35
  | .scanAccounts .. => some 0x36
  | .setRangeStatus .. => some 0x37
  | .readDeferred .. => some 0x38
  | .readClass .. => some 0x39
  | .setClass .. => some 0x3A
  | .shutdownStatus .. => some 0x40
  | .releaseTrip .. => some 0x41
  | .setBypass .. => some 0x42
  | .readTripLog .. => some 0x43
  | .readJournal .. => some 0x48
  | .releaseJournal .. => some 0x49
  | .bayStatus .. => some 0x50
  | .setModeOpen .. | .setModeStandby .. | .setModeLock .. | .setModeUnlock .. => some 0x51
  | .setClock .. => some 0x52
  | .setShiftTable .. => some 0x53
  | .restartRequest .. => some 0x54
  | .setPoint .. => some 0x60
  | .setPump .. => some 0x61
  | .setInlet .. => some 0x62
  | .setProduct .. => some 0x63
  | .setTank .. => some 0x64
  | .setStockTiming .. => some 0x65
  | .setDebounce .. => some 0x66
  | _ => none

/-- R83: STOCK_REPORT by its mode. -/
def stockReportOf (v : Via) (p : List Byte) : FrameContent :=
  match fieldAt p 1 1 with
  | 1 => .request (.stockReportNow v (fieldAt p 0 1))
  | 2 => .request (.stockReportSettled v (fieldAt p 0 1))
  | _ => .outOfRange

/-- R80: ADJUST_STOCK by its form.  A selector that numbers no form is a field out of range: it goes on as a
DELTA whose reason is out of range, so that the check of the permission comes first. -/
def adjustStockOf (v : Via) (p : List Byte) : FrameContent :=
  match fieldAt p 1 1 with
  | 1 => .request (.adjustStockSetToGauge v (fieldAt p 0 1))
  | 2 => .request (.adjustStockDelta v (fieldAt p 0 1) ⟨signedAt p 2 4, fieldAt p 6 1⟩)
  | _ => .request (.adjustStockDelta v (fieldAt p 0 1) ⟨0, 256⟩)

/-- R195: SET_MODE by its mode. -/
def setModeOf (v : Via) (p : List Byte) : FrameContent :=
  match fieldAt p 0 1 with
  | 1 => .request (.setModeOpen v)
  | 2 => .request (.setModeStandby v)
  | 3 => .request (.setModeLock v)
  | 4 => .request (.setModeUnlock v)
  | _ => .outOfRange

/-- Section 10.4: the request that a CODE and the bytes of its fields spell, with the RESET_KEY level. -/
def requestOf (v : Via) (code : Nat) (p : List Byte) (key : Bool) : FrameContent :=
  match code with
  | 0x01 => .request (.fetchResult v)
  | 0x02 => .request (.stopLong v)
  | 0x03 => .request (.fetchNotices v (fieldAt p 0 1))
  | 0x04 => .request (.setSubscription v ⟨fieldAt p 0 1, (setAt p 1 1 5).bind classesOf, fieldAt p 2 1⟩)
  | 0x05 => .request (.linkStatus v)
  | 0x06 => .request (.setPermissions v ⟨fieldAt p 0 1, (setAt p 1 1 7).bind permsOf⟩)
  | 0x07 => .request (.readSettings v (settingsNameOf p))
  | 0x10 => .request (.openOrder v (openOrderOf p))
  | 0x11 => .request (.stopOrder v ⟨fieldAt p 0 1, fieldAt p 1 4⟩)
  | 0x12 => .request (.pointStatus v (fieldAt p 0 1))
  | 0x13 => .request (.pumpStatus v)
  | 0x18 => .request (.openDelivery v (openDeliveryOf p))
  | 0x19 => .request (.stopDelivery v ⟨fieldAt p 0 1, fieldAt p 1 4⟩)
  | 0x1A => .request (.inletStatus v (fieldAt p 0 1))
  | 0x20 => stockReportOf v p
  | 0x21 => adjustStockOf v p
  | 0x22 => .request (.setTankService v ⟨fieldAt p 0 1, choiceAt p 1⟩)
  | 0x30 => .request (.readAccount v (fieldAt p 0 2))
  | 0x31 => .request (.readNextAccount v)
  | 0x32 => .request (.setCursor v (fieldAt p 0 2))
  | 0x33 => .request (.addAccount v (addAccountOf p))
  | 0x34 => .request (.writeAccount v (writeAccountOf p))
  | 0x35 => .request (.deleteAccount v (fieldAt p 0 2))
  | 0x36 => .request (.scanAccounts v (scanAccountsOf p))
  | 0x37 => .request (.setRangeStatus v (setRangeStatusOf p))
  | 0x38 => .request (.readDeferred v (optionAt p 0 2))
  | 0x39 => .request (.readClass v (fieldAt p 0 1))
  | 0x3A => .request (.setClass v (setClassOf p))
  | 0x40 => .request (.shutdownStatus v key)
  | 0x41 => .request (.releaseTrip v (latchNameOf p) key)
  | 0x42 => .request (.setBypass v (setBypassOf p))
  | 0x43 => .request (.readTripLog v (tripLogNameOf p))
  | 0x48 => .request (.readJournal v (journalNameOf p))
  | 0x49 => .request (.releaseJournal v (fieldAt p 0 4))
  | 0x50 => .request (.bayStatus v)
  | 0x51 => setModeOf v p
  | 0x52 => .request (.setClock v (fieldAt p 0 4))
  | 0x53 => .request (.setShiftTable v (listAt p 0 4 2 fun i => fieldAt p i 2))
  | 0x54 => .request (.restartRequest v)
  | 0x60 => .request (.setPoint v (setPointOf p))
  | 0x61 => .request (.setPump v ⟨fieldAt p 0 1, fieldAt p 1 1, fieldAt p 2 2⟩)
  | 0x62 => .request (.setInlet v (setInletOf p))
  | 0x63 => .request (.setProduct v (setProductOf p))
  | 0x64 => .request (.setTank v (setTankOf p))
  | 0x65 => .request (.setStockTiming v ⟨fieldAt p 0 1, fieldAt p 1 1⟩)
  | 0x66 => .request (.setDebounce v ⟨coded inputClasses (fieldAt p 0 1), fieldAt p 1 1⟩)
  | _ => .unknown

/-- R182, R183, R194: the content of a good frame taken on a link: its payload has the request's one length,
or that length and a trailing part number. -/
def frameContent (l : Link) (g : GoodFrame) (key : Bool) : FrameContent :=
  let code := g.code.toNat
  match payloadLength code with
  | none => .unknown
  | some n =>
    if g.payload.length = n then requestOf ⟨l, g.tag, none⟩ code g.payload key
    else if g.payload.length = n + 1 then requestOf ⟨l, g.tag, g.payload.getLast?⟩ code (g.payload.take n) key
    else .outOfRange

end Sys2Proof.Machine
end

