-- ==== Sys2Proof/Machine/Requests.lean ====
section
/-! DEFINITION. The requests of section 10.4: the answer of each, the meaning of each as a command taken on its
link, and the good frame that carries one. -/

namespace Sys2Proof.Machine

open Sys2Proof

/-! ## Answers -/

/-- The answer of the rule that specifies a request; a command that is no request has none. -/
def requestAnswer (i : Instr) : State → Answer :=
  match i with
  | .fetchResult v => fetchResultRequest v
  | .stopLong v => stopLongRequest v
  | .fetchNotices v count => fetchNoticesRequest v count
  | .setSubscription v f => setSubscriptionRequest v f
  | .linkStatus v => linkStatusRequest v
  | .setPermissions v f => setPermissionsRequest v f
  | .readSettings _ name => readSettingsRequest name
  | .openOrder v f => openOrderRequest v f
  | .stopOrder v f => stopOrderRequest v f
  | .pointStatus _ point => pointStatusRequest point
  | .pumpStatus _ => pumpStatusRequest
  | .openDelivery v f => openDeliveryRequest v f
  | .stopDelivery v f => stopDeliveryRequest v f
  | .inletStatus _ inlet => inletStatusRequest inlet
  | .stockReportNow _ product => stockReportNowRequest product
  | .stockReportSettled v product => stockReportSettledRequest v product
  | .adjustStockSetToGauge v tank => adjustSetToGaugeRequest v tank
  | .adjustStockDelta v tank f => adjustDeltaRequest v tank f
  | .setTankService v f => setTankServiceRequest v f
  | .readAccount _ machine => readAccountRequest machine
  | .readNextAccount v => readNextAccountRequest v
  | .setCursor v machine => setCursorRequest v machine
  | .addAccount v f => addAccountRequest v f
  | .writeAccount v f => writeAccountRequest v f
  | .deleteAccount v machine => deleteAccountRequest v machine
  | .scanAccounts v f => scanAccountsRequest v f
  | .setRangeStatus v f => setRangeStatusRequest v f
  | .readDeferred _ machine => readDeferredRequest machine
  | .readClass _ klass => readClassRequest klass
  | .setClass v f => setClassRequest v f
  | .shutdownStatus _ key => fun s => shutdownStatusRequest (s.setKey key)
  | .releaseTrip v name key => fun s => releaseTripRequest v name (s.setKey key)
  | .setBypass v f => setBypassRequest v f
  | .readTripLog _ name => readTripLogRequest name
  | .readJournal _ name => readJournalRequest name
  | .releaseJournal v position => releaseJournalRequest v position
  | .bayStatus _ => bayStatusRequest
  | .setModeOpen v => setModeOpenRequest v
  | .setModeStandby v => setModeStandbyRequest v
  | .setModeLock v => setModeLockRequest v
  | .setModeUnlock v => setModeUnlockRequest v
  | .setClock v calendar => setClockRequest v calendar
  | .setShiftTable v minutes => setShiftTableRequest v minutes
  | .restartRequest v => restartRequestTaken v
  | .setPoint v f => setPointRequest v f
  | .setPump v f => setPumpRequest v f
  | .setInlet v f => setInletRequest v f
  | .setProduct v f => setProductRequest v f
  | .setTank v f => setTankRequest v f
  | .setStockTiming v f => setStockTimingRequest v f
  | .setDebounce v f => setDebounceRequest v f
  | _ => refuse .unknownRequest

/-- R196: the wake of a request that wakes the bay whatever its outcome. -/
def wakeBy (i : Instr) : State → State :=
  match i with
  | .openOrder v _ => wake (.openOrder v.link)
  | .openDelivery v _ => wake (.openDelivery v.link)
  | _ => id

/-- R182: a request taken on its link in one event: its wake, its checks and effect with the exhaustion reports
of that event handed, and its reply. -/
def takeRequest (v : Via) (code : Nat) (i : Instr) (s : State) : State :=
  serve v code (fun s => (requestAnswer i s).handed) (wakeBy i s)

/-- R182, R199: a request; a stopped controller takes none. -/
def serveRequest (v : Via) (code : Nat) (i : Instr) : State → State := whileRunning (takeRequest v code i)

/-! ## The commands -/

/-- R188. -/
def execFetchResult (v : Via) (s : State) : Host.Outcome State Fault Refusal :=
  .next (serveRequest v 0x01 (.fetchResult v) s)

/-- R188. -/
def execStopLong (v : Via) (s : State) : Host.Outcome State Fault Refusal :=
  .next (serveRequest v 0x02 (.stopLong v) s)

/-- R190. -/
def execFetchNotices (v : Via) (count : Nat) (s : State) : Host.Outcome State Fault Refusal :=
  .next (serveRequest v 0x03 (.fetchNotices v count) s)

/-- R192. -/
def execSetSubscription (v : Via) (f : SetSubscription) (s : State) : Host.Outcome State Fault Refusal :=
  .next (serveRequest v 0x04 (.setSubscription v f) s)

/-- R186. -/
def execLinkStatus (v : Via) (s : State) : Host.Outcome State Fault Refusal :=
  .next (serveRequest v 0x05 (.linkStatus v) s)

/-- R184. -/
def execSetPermissions (v : Via) (f : SetPermissions) (s : State) : Host.Outcome State Fault Refusal :=
  .next (serveRequest v 0x06 (.setPermissions v f) s)

/-- R185. -/
def execReadSettings (v : Via) (name : Coded SettingsName) (s : State) : Host.Outcome State Fault Refusal :=
  .next (serveRequest v 0x07 (.readSettings v name) s)

/-- R20 to R22. -/
def execOpenOrder (v : Via) (f : OpenOrder) (s : State) : Host.Outcome State Fault Refusal :=
  .next (serveRequest v 0x10 (.openOrder v f) s)

/-- R38. -/
def execStopOrder (v : Via) (f : StopOrder) (s : State) : Host.Outcome State Fault Refusal :=
  .next (serveRequest v 0x11 (.stopOrder v f) s)

/-- R46. -/
def execPointStatus (v : Via) (point : Nat) (s : State) : Host.Outcome State Fault Refusal :=
  .next (serveRequest v 0x12 (.pointStatus v point) s)

/-- R61. -/
def execPumpStatus (v : Via) (s : State) : Host.Outcome State Fault Refusal :=
  .next (serveRequest v 0x13 (.pumpStatus v) s)

/-- R89, R90. -/
def execOpenDelivery (v : Via) (f : OpenDelivery) (s : State) : Host.Outcome State Fault Refusal :=
  .next (serveRequest v 0x18 (.openDelivery v f) s)

/-- R94, R99. -/
def execStopDelivery (v : Via) (f : StopDelivery) (s : State) : Host.Outcome State Fault Refusal :=
  .next (serveRequest v 0x19 (.stopDelivery v f) s)

/-- R103. -/
def execInletStatus (v : Via) (inlet : Nat) (s : State) : Host.Outcome State Fault Refusal :=
  .next (serveRequest v 0x1A (.inletStatus v inlet) s)

/-- R83. -/
def execStockReportNow (v : Via) (product : Nat) (s : State) : Host.Outcome State Fault Refusal :=
  .next (serveRequest v 0x20 (.stockReportNow v product) s)

/-- R83, R84. -/
def execStockReportSettled (v : Via) (product : Nat) (s : State) : Host.Outcome State Fault Refusal :=
  .next (serveRequest v 0x20 (.stockReportSettled v product) s)

/-- R80, R81. -/
def execAdjustStockSetToGauge (v : Via) (tank : Nat) (s : State) : Host.Outcome State Fault Refusal :=
  .next (serveRequest v 0x21 (.adjustStockSetToGauge v tank) s)

/-- R80, R81. -/
def execAdjustStockDelta (v : Via) (tank : Nat) (f : AdjustDelta) (s : State) : Host.Outcome State Fault Refusal :=
  .next (serveRequest v 0x21 (.adjustStockDelta v tank f) s)

/-- R82. -/
def execSetTankService (v : Via) (f : SetTankService) (s : State) : Host.Outcome State Fault Refusal :=
  .next (serveRequest v 0x22 (.setTankService v f) s)

/-- R107. -/
def execReadAccount (v : Via) (machine : Nat) (s : State) : Host.Outcome State Fault Refusal :=
  .next (serveRequest v 0x30 (.readAccount v machine) s)

/-- R130. -/
def execReadNextAccount (v : Via) (s : State) : Host.Outcome State Fault Refusal :=
  .next (serveRequest v 0x31 (.readNextAccount v) s)

/-- R129. -/
def execSetCursor (v : Via) (machine : Nat) (s : State) : Host.Outcome State Fault Refusal :=
  .next (serveRequest v 0x32 (.setCursor v machine) s)

/-- R108. -/
def execAddAccount (v : Via) (f : AddAccount) (s : State) : Host.Outcome State Fault Refusal :=
  .next (serveRequest v 0x33 (.addAccount v f) s)

/-- R138, R140. -/
def execWriteAccount (v : Via) (f : WriteAccount) (s : State) : Host.Outcome State Fault Refusal :=
  .next (serveRequest v 0x34 (.writeAccount v f) s)

/-- R109, R141. -/
def execDeleteAccount (v : Via) (machine : Nat) (s : State) : Host.Outcome State Fault Refusal :=
  .next (serveRequest v 0x35 (.deleteAccount v machine) s)

/-- R132. -/
def execScanAccounts (v : Via) (f : ScanAccounts) (s : State) : Host.Outcome State Fault Refusal :=
  .next (serveRequest v 0x36 (.scanAccounts v f) s)

/-- R135. -/
def execSetRangeStatus (v : Via) (f : SetRangeStatus) (s : State) : Host.Outcome State Fault Refusal :=
  .next (serveRequest v 0x37 (.setRangeStatus v f) s)

/-- R143. -/
def execReadDeferred (v : Via) (machine : Option Nat) (s : State) : Host.Outcome State Fault Refusal :=
  .next (serveRequest v 0x38 (.readDeferred v machine) s)

/-- R106. -/
def execReadClass (v : Via) (klass : Nat) (s : State) : Host.Outcome State Fault Refusal :=
  .next (serveRequest v 0x39 (.readClass v klass) s)

/-- R106. -/
def execSetClass (v : Via) (f : SetClass) (s : State) : Host.Outcome State Fault Refusal :=
  .next (serveRequest v 0x3A (.setClass v f) s)

/-- R166. -/
def execShutdownStatus (v : Via) (key : Bool) (s : State) : Host.Outcome State Fault Refusal :=
  .next (serveRequest v 0x40 (.shutdownStatus v key) s)

/-- R153, R154. -/
def execReleaseTrip (v : Via) (name : Coded LatchName) (key : Bool) (s : State) : Host.Outcome State Fault Refusal :=
  .next (serveRequest v 0x41 (.releaseTrip v name key) s)

/-- R161, R162. -/
def execSetBypass (v : Via) (f : SetBypass) (s : State) : Host.Outcome State Fault Refusal :=
  .next (serveRequest v 0x42 (.setBypass v f) s)

/-- R165. -/
def execReadTripLog (v : Via) (name : Coded TripLogName) (s : State) : Host.Outcome State Fault Refusal :=
  .next (serveRequest v 0x43 (.readTripLog v name) s)

/-- R173. -/
def execReadJournal (v : Via) (name : Coded JournalName) (s : State) : Host.Outcome State Fault Refusal :=
  .next (serveRequest v 0x48 (.readJournal v name) s)

/-- R174. -/
def execReleaseJournal (v : Via) (position : Nat) (s : State) : Host.Outcome State Fault Refusal :=
  .next (serveRequest v 0x49 (.releaseJournal v position) s)

/-- R202. -/
def execBayStatus (v : Via) (s : State) : Host.Outcome State Fault Refusal :=
  .next (serveRequest v 0x50 (.bayStatus v) s)

/-- R195. -/
def execSetModeOpen (v : Via) (s : State) : Host.Outcome State Fault Refusal :=
  .next (serveRequest v 0x51 (.setModeOpen v) s)

/-- R195. -/
def execSetModeStandby (v : Via) (s : State) : Host.Outcome State Fault Refusal :=
  .next (serveRequest v 0x51 (.setModeStandby v) s)

/-- R195, R197. -/
def execSetModeLock (v : Via) (s : State) : Host.Outcome State Fault Refusal :=
  .next (serveRequest v 0x51 (.setModeLock v) s)

/-- R195, R197. -/
def execSetModeUnlock (v : Via) (s : State) : Host.Outcome State Fault Refusal :=
  .next (serveRequest v 0x51 (.setModeUnlock v) s)

/-- R198. -/
def execSetClock (v : Via) (calendar : Nat) (s : State) : Host.Outcome State Fault Refusal :=
  .next (serveRequest v 0x52 (.setClock v calendar) s)

/-- R198. -/
def execSetShiftTable (v : Via) (minutes : Coded (List Nat)) (s : State) : Host.Outcome State Fault Refusal :=
  .next (serveRequest v 0x53 (.setShiftTable v minutes) s)

/-- R199. -/
def execRestartRequest (v : Via) (s : State) : Host.Outcome State Fault Refusal :=
  .next (serveRequest v 0x54 (.restartRequest v) s)

/-- R18. -/
def execSetPoint (v : Via) (f : SetPoint) (s : State) : Host.Outcome State Fault Refusal :=
  .next (serveRequest v 0x60 (.setPoint v f) s)

/-- R48. -/
def execSetPump (v : Via) (f : SetPump) (s : State) : Host.Outcome State Fault Refusal :=
  .next (serveRequest v 0x61 (.setPump v f) s)

/-- R87. -/
def execSetInlet (v : Via) (f : SetInlet) (s : State) : Host.Outcome State Fault Refusal :=
  .next (serveRequest v 0x62 (.setInlet v f) s)

/-- R63. -/
def execSetProduct (v : Via) (f : SetProduct) (s : State) : Host.Outcome State Fault Refusal :=
  .next (serveRequest v 0x63 (.setProduct v f) s)

/-- R64. -/
def execSetTank (v : Via) (f : SetTank) (s : State) : Host.Outcome State Fault Refusal :=
  .next (serveRequest v 0x64 (.setTank v f) s)

/-- R77. -/
def execSetStockTiming (v : Via) (f : SetStockTiming) (s : State) : Host.Outcome State Fault Refusal :=
  .next (serveRequest v 0x65 (.setStockTiming v f) s)

/-- R147. -/
def execSetDebounce (v : Via) (f : SetDebounce) (s : State) : Host.Outcome State Fault Refusal :=
  .next (serveRequest v 0x66 (.setDebounce v f) s)

/-! ## Frames (R182) -/

/-- R182: a good frame while a request is in service: a BUSY reply is prepared, or replaces the one that
waits. -/
def refuseBusy (l : Link) (g : GoodFrame) (s : State) : State :=
  s.updLink l fun u => { u with busyWaiting := some (g.tag, g.code) }

/-- R182: a good frame taken: the request it spells, or the status of one it does not. -/
def takeFrame (l : Link) (g : GoodFrame) (key : Bool) (s : State) : State :=
  match frameContent l g key with
  | .request i => takeRequest ⟨l, g.tag, partOf g⟩ g.code.toNat i s
  | .unknown => s.reply l ⟨g.tag, g.code, .unknownRequest, 0, []⟩
  | .outOfRange => s.reply l ⟨g.tag, g.code, .range, 0, []⟩
where
  /-- R183: the part number a frame carries. -/
  partOf (g : GoodFrame) : Option Byte :=
    if payloadLength g.code.toNat = some g.payload.length then none else g.payload.getLast?

/-- R181, R182: the last CHECK character of a frame that checks arrives on a LOCKED link.  Characters that do
not form a good frame leave the link HUNTING. -/
def goodFrameEvent (l : Link) (bytes : List Byte) (key : Bool) (s : State) : State :=
  let s' := huntAgain l s
  if (s.link l).rate.isSome then
    match readFrame bytes with
    | none => s'
    | some g => if (s.link l).inService then refuseBusy l g s' else takeFrame l g key s'
  else s

/-- R181, R182. -/
def execGoodFrame (l : Link) (bytes : List Byte) (key : Bool) (s : State) : Host.Outcome State Fault Refusal :=
  .next (whileRunning (goodFrameEvent l bytes key) s)

end Sys2Proof.Machine
end

