-- ==== Sys2Proof/Machine/Events.lean ====
section
/-! DEFINITION. The commands that are not requests: characters and breaks on the links, meters, nozzle lines,
timers, buttons, field lines, gauges, visits and restarts. -/

namespace Sys2Proof.Machine

open Sys2Proof

/-- An event taken, with its exhaustion reports handed (R70); a stopped controller takes none (R199). -/
def takeEvent (f : State → State) : State → State := whileRunning fun s => handReports (f s)

/-- A change of a line's level: while the controller is stopped only the level is followed (log entry 7). -/
def takeLine (follow event : State → State) (s : State) : State :=
  if s.bay.stopped then follow s else handReports (event s)

/-! ## Events -/

/-- R179. -/
def execRateSeekCharacter (l : Link) (widthNs : Nat) (char : Byte) (stopGood : Bool) (s : State) : Host.Outcome State Fault Refusal :=
  .next (takeEvent (rateSeekEvent l widthNs char stopGood) s)

/-- R181. -/
def execBadFrame (l : Link) (s : State) : Host.Outcome State Fault Refusal :=
  .next (takeEvent (huntAgain l) s)

/-- R181. -/
def execFrameGapTimeout (l : Link) (s : State) : Host.Outcome State Fault Refusal :=
  .next (takeEvent (huntAgain l) s)

/-- R180. -/
def execBreakLine (l : Link) (s : State) : Host.Outcome State Fault Refusal :=
  .next (takeEvent (breakEvent l) s)

/-- R182. -/
def execReplySent (l : Link) (s : State) : Host.Outcome State Fault Refusal :=
  .next (takeEvent (replySentEvent l) s)

/-- R5. -/
def execMeterPulse (m : MeterId) (s : State) : Host.Outcome State Fault Refusal :=
  .next (takeEvent (meterPulseEvent m) s)

/-- R25 to R30. -/
def execNozzleFrame (p : PointId) (f : NozzleFrame) (s : State) : Host.Outcome State Fault Refusal :=
  .next (takeEvent (nozzleFrameEvent p f) s)

/-- R26. -/
def execNozzleBreak (p : PointId) (s : State) : Host.Outcome State Fault Refusal :=
  .next (takeEvent (nozzleBreakEvent p) s)

/-- R26. -/
def execNozzleLineHigh (p : PointId) (s : State) : Host.Outcome State Fault Refusal :=
  .next (takeEvent (nozzleLineHighEvent p) s)

/-- R31. -/
def execIdentTimerExpiry (p : PointId) (s : State) : Host.Outcome State Fault Refusal :=
  .next (takeEvent (identTimerEvent p) s)

/-- R34. -/
def execPrimeTimerExpiry (p : PointId) (s : State) : Host.Outcome State Fault Refusal :=
  .next (takeEvent (primeTimerEvent p) s)

/-- R37. -/
def execAttendanceTimerExpiry (p : PointId) (s : State) : Host.Outcome State Fault Refusal :=
  .next (takeEvent (attendanceTimerEvent p) s)

/-- R41. -/
def execStopTimerExpiry (p : PointId) (reading : Option Int) (s : State) : Host.Outcome State Fault Refusal :=
  .next (takeEvent (stopTimerEvent p reading) s)

/-- R37, R196. -/
def execAttend (p : PointId) (s : State) : Host.Outcome State Fault Refusal :=
  .next (takeEvent (attendEvent p) s)

/-- R38. -/
def execStopBtn (p : PointId) (s : State) : Host.Outcome State Fault Refusal :=
  .next (takeEvent (stopBtnEvent p) s)

/-- R54. -/
def execStartTimerExpiry (m : PumpId) (s : State) : Host.Outcome State Fault Refusal :=
  .next (takeEvent (startTimerEvent m) s)

/-- R55. -/
def execHoldTimerExpiry (m : PumpId) (s : State) : Host.Outcome State Fault Refusal :=
  .next (takeEvent (holdTimerEvent m) s)

/-- R96. -/
def execInletStopTimerExpiry (i : InletId) (reading : Option Int) (s : State) : Host.Outcome State Fault Refusal :=
  .next (takeEvent (inletStopTimerEvent i reading) s)

/-- R98. -/
def execSettleTimerExpiry (i : InletId) (s : State) : Host.Outcome State Fault Refusal :=
  .next (takeEvent (settleTimerEvent i) s)

/-- R74, R79, R93. -/
def execGaugeReading (t : TankId) (report : Option GaugeReport) (s : State) : Host.Outcome State Fault Refusal :=
  .next (takeEvent (gaugeReadingEvent t report) s)

/-- R77. -/
def execStockCheckExpiry (s : State) : Host.Outcome State Fault Refusal :=
  .next (takeEvent stockCheckEvent s)

/-- R84. -/
def execSettledReportWaitExpiry (l : Link) (s : State) : Host.Outcome State Fault Refusal :=
  .next (takeEvent (settledWaitEvent l) s)

/-- R146, R148. -/
def execDebounceExpiry (x : DebouncedInput) (s : State) : Host.Outcome State Fault Refusal :=
  .next (takeEvent (debounceEvent x) s)

/-- R163. -/
def execBypassExpiry (x : BypassId) (s : State) : Host.Outcome State Fault Refusal :=
  .next (takeEvent (bypassExpiryEvent x) s)

/-- R131, R134. -/
def execScanVisit (l : Link) (s : State) : Host.Outcome State Fault Refusal :=
  .next (takeEvent (scanVisitEvent l) s)

/-- R131, R136. -/
def execRangeVisit (l : Link) (s : State) : Host.Outcome State Fault Refusal :=
  .next (takeEvent (rangeVisitEvent l) s)

/-- R198. -/
def execShiftStart (s : State) : Host.Outcome State Fault Refusal :=
  .next (takeEvent shiftStartEvent s)

/-- R4: the end of a meter's window, by the unit that owns the meter. -/
def windowEndEvent (m : MeterId) (reading : Option Int) : State → State :=
  match m with
  | .point p => pointWindowEvent p reading
  | .inlet i => inletWindowEvent i reading

/-- R4, R13. -/
def execWindowEnd (m : MeterId) (reading : Option Int) (s : State) : Host.Outcome State Fault Refusal :=
  .next (takeEvent (windowEndEvent m reading) s)

/-! ## Lines -/

/-- The level of a pump's PUMP_FAULT line. -/
def followFault (m : PumpId) (level : Bool) : State → State := State.updPump m fun u => { u with faultLine := level }

/-- The level of an inlet's INLET_COUPLED line. -/
def followCoupled (i : InletId) (level : Bool) : State → State := State.updInlet i fun u => { u with coupled := level }

/-- The level of the ESTOP line. -/
def followEstop (level : Bool) (s : State) : State :=
  { s with shutdown := { s.shutdown with estop := { s.shutdown.estop with level := level } } }

/-- R56. -/
def execPumpFaultActive (m : PumpId) (s : State) : Host.Outcome State Fault Refusal :=
  .next (takeLine (followFault m true) (pumpFaultActiveEvent m) s)

/-- R57. -/
def execPumpFaultInactive (m : PumpId) (s : State) : Host.Outcome State Fault Refusal :=
  .next (takeLine (followFault m false) (pumpFaultInactiveEvent m) s)

/-- R58. -/
def execSupplyReadyActive (s : State) : Host.Outcome State Fault Refusal :=
  .next (takeLine (State.setSupplyReady true) supplyReadyActiveEvent s)

/-- R58: SUPPLY_READY becomes inactive: starts are withheld, and nothing else changes. -/
def execSupplyReadyInactive (s : State) : Host.Outcome State Fault Refusal :=
  .next (takeLine (State.setSupplyReady false) (State.setSupplyReady false) s)

/-- R91, R196. -/
def execInletCoupledActive (i : InletId) (s : State) : Host.Outcome State Fault Refusal :=
  .next (takeLine (followCoupled i true) (inletCoupledActiveEvent i) s)

/-- R95. -/
def execInletCoupledInactive (i : InletId) (s : State) : Host.Outcome State Fault Refusal :=
  .next (takeLine (followCoupled i false) (inletCoupledInactiveEvent i) s)

/-- R146. -/
def execLineInputChange (x : DebouncedInput) (level : Bool) (s : State) : Host.Outcome State Fault Refusal :=
  .next (takeLine (followLine x level) (lineInputEvent x level) s)

/-- R146, R148. -/
def execEstopChange (level : Bool) (s : State) : Host.Outcome State Fault Refusal :=
  .next (takeLine (followEstop level) (estopEvent level) s)

/-! ## Restarts -/

/-- R199 to R202. -/
def execPowerOn (check : MemoryCheck) (offMs : Nat) (s : State) : Host.Outcome State Fault Refusal :=
  .next (powerOnEvent check offMs s)

/-- R199 (log entry 53: the outputs are released at the dip). -/
def execSupplyDip (s : State) : Host.Outcome State Fault Refusal := .next (whileRunning supplyDipEvent s)

/-- R199. -/
def execRequestedRestart (l : Link) (check : MemoryCheck) (s : State) : Host.Outcome State Fault Refusal :=
  .next (whileRunning (requestedRestartEvent l check) s)

/-- R199. -/
def execSupplyReturn (check : MemoryCheck) (s : State) : Host.Outcome State Fault Refusal :=
  .next (supplyReturnEvent check s)

end Sys2Proof.Machine
end

