-- ==== Sys2Proof/Machine/Dispatch.lean ====
section
/-! DEFINITION. The meaning of each command, one arm per row of spec/opcode_table.json. -/

namespace Sys2Proof.Machine

open Sys2Proof

def exec (i : Instr) (s : State) : Host.Outcome State Fault Refusal :=
  match i with
  | .fetchResult v => Sys2Proof.Machine.execFetchResult v s
  | .stopLong v => Sys2Proof.Machine.execStopLong v s
  | .fetchNotices v count => Sys2Proof.Machine.execFetchNotices v count s
  | .setSubscription v f => Sys2Proof.Machine.execSetSubscription v f s
  | .linkStatus v => Sys2Proof.Machine.execLinkStatus v s
  | .setPermissions v f => Sys2Proof.Machine.execSetPermissions v f s
  | .readSettings v name => Sys2Proof.Machine.execReadSettings v name s
  | .openOrder v f => Sys2Proof.Machine.execOpenOrder v f s
  | .stopOrder v f => Sys2Proof.Machine.execStopOrder v f s
  | .pointStatus v point => Sys2Proof.Machine.execPointStatus v point s
  | .pumpStatus v => Sys2Proof.Machine.execPumpStatus v s
  | .openDelivery v f => Sys2Proof.Machine.execOpenDelivery v f s
  | .stopDelivery v f => Sys2Proof.Machine.execStopDelivery v f s
  | .inletStatus v inlet => Sys2Proof.Machine.execInletStatus v inlet s
  | .stockReportNow v product => Sys2Proof.Machine.execStockReportNow v product s
  | .stockReportSettled v product => Sys2Proof.Machine.execStockReportSettled v product s
  | .adjustStockSetToGauge v tank => Sys2Proof.Machine.execAdjustStockSetToGauge v tank s
  | .adjustStockDelta v tank f => Sys2Proof.Machine.execAdjustStockDelta v tank f s
  | .setTankService v f => Sys2Proof.Machine.execSetTankService v f s
  | .readAccount v machine => Sys2Proof.Machine.execReadAccount v machine s
  | .readNextAccount v => Sys2Proof.Machine.execReadNextAccount v s
  | .setCursor v machine => Sys2Proof.Machine.execSetCursor v machine s
  | .addAccount v f => Sys2Proof.Machine.execAddAccount v f s
  | .writeAccount v f => Sys2Proof.Machine.execWriteAccount v f s
  | .deleteAccount v machine => Sys2Proof.Machine.execDeleteAccount v machine s
  | .scanAccounts v f => Sys2Proof.Machine.execScanAccounts v f s
  | .setRangeStatus v f => Sys2Proof.Machine.execSetRangeStatus v f s
  | .readDeferred v machine => Sys2Proof.Machine.execReadDeferred v machine s
  | .readClass v klass => Sys2Proof.Machine.execReadClass v klass s
  | .setClass v f => Sys2Proof.Machine.execSetClass v f s
  | .shutdownStatus v key => Sys2Proof.Machine.execShutdownStatus v key s
  | .releaseTrip v name key => Sys2Proof.Machine.execReleaseTrip v name key s
  | .setBypass v f => Sys2Proof.Machine.execSetBypass v f s
  | .readTripLog v name => Sys2Proof.Machine.execReadTripLog v name s
  | .readJournal v name => Sys2Proof.Machine.execReadJournal v name s
  | .releaseJournal v position => Sys2Proof.Machine.execReleaseJournal v position s
  | .bayStatus v => Sys2Proof.Machine.execBayStatus v s
  | .setModeOpen v => Sys2Proof.Machine.execSetModeOpen v s
  | .setModeStandby v => Sys2Proof.Machine.execSetModeStandby v s
  | .setModeLock v => Sys2Proof.Machine.execSetModeLock v s
  | .setModeUnlock v => Sys2Proof.Machine.execSetModeUnlock v s
  | .setClock v calendar => Sys2Proof.Machine.execSetClock v calendar s
  | .setShiftTable v minutes => Sys2Proof.Machine.execSetShiftTable v minutes s
  | .restartRequest v => Sys2Proof.Machine.execRestartRequest v s
  | .setPoint v f => Sys2Proof.Machine.execSetPoint v f s
  | .setPump v f => Sys2Proof.Machine.execSetPump v f s
  | .setInlet v f => Sys2Proof.Machine.execSetInlet v f s
  | .setProduct v f => Sys2Proof.Machine.execSetProduct v f s
  | .setTank v f => Sys2Proof.Machine.execSetTank v f s
  | .setStockTiming v f => Sys2Proof.Machine.execSetStockTiming v f s
  | .setDebounce v f => Sys2Proof.Machine.execSetDebounce v f s
  | .rateSeekCharacter l widthNs char stopGood => Sys2Proof.Machine.execRateSeekCharacter l widthNs char stopGood s
  | .goodFrame l bytes key => Sys2Proof.Machine.execGoodFrame l bytes key s
  | .badFrame l => Sys2Proof.Machine.execBadFrame l s
  | .frameGapTimeout l => Sys2Proof.Machine.execFrameGapTimeout l s
  | .breakLine l => Sys2Proof.Machine.execBreakLine l s
  | .replySent l => Sys2Proof.Machine.execReplySent l s
  | .meterPulse m => Sys2Proof.Machine.execMeterPulse m s
  | .windowEnd m reading => Sys2Proof.Machine.execWindowEnd m reading s
  | .nozzleFrame p f => Sys2Proof.Machine.execNozzleFrame p f s
  | .nozzleBreak p => Sys2Proof.Machine.execNozzleBreak p s
  | .nozzleLineHigh p => Sys2Proof.Machine.execNozzleLineHigh p s
  | .identTimerExpiry p => Sys2Proof.Machine.execIdentTimerExpiry p s
  | .primeTimerExpiry p => Sys2Proof.Machine.execPrimeTimerExpiry p s
  | .attendanceTimerExpiry p => Sys2Proof.Machine.execAttendanceTimerExpiry p s
  | .stopTimerExpiry p reading => Sys2Proof.Machine.execStopTimerExpiry p reading s
  | .attend p => Sys2Proof.Machine.execAttend p s
  | .stopBtn p => Sys2Proof.Machine.execStopBtn p s
  | .startTimerExpiry m => Sys2Proof.Machine.execStartTimerExpiry m s
  | .holdTimerExpiry m => Sys2Proof.Machine.execHoldTimerExpiry m s
  | .pumpFaultActive m => Sys2Proof.Machine.execPumpFaultActive m s
  | .pumpFaultInactive m => Sys2Proof.Machine.execPumpFaultInactive m s
  | .supplyReadyActive => Sys2Proof.Machine.execSupplyReadyActive s
  | .supplyReadyInactive => Sys2Proof.Machine.execSupplyReadyInactive s
  | .inletCoupledActive n => Sys2Proof.Machine.execInletCoupledActive n s
  | .inletCoupledInactive n => Sys2Proof.Machine.execInletCoupledInactive n s
  | .inletStopTimerExpiry n reading => Sys2Proof.Machine.execInletStopTimerExpiry n reading s
  | .settleTimerExpiry n => Sys2Proof.Machine.execSettleTimerExpiry n s
  | .gaugeReading t report => Sys2Proof.Machine.execGaugeReading t report s
  | .stockCheckExpiry => Sys2Proof.Machine.execStockCheckExpiry s
  | .settledReportWaitExpiry l => Sys2Proof.Machine.execSettledReportWaitExpiry l s
  | .lineInputChange x level => Sys2Proof.Machine.execLineInputChange x level s
  | .debounceExpiry x => Sys2Proof.Machine.execDebounceExpiry x s
  | .estopChange level => Sys2Proof.Machine.execEstopChange level s
  | .bypassExpiry x => Sys2Proof.Machine.execBypassExpiry x s
  | .scanVisit l => Sys2Proof.Machine.execScanVisit l s
  | .rangeVisit l => Sys2Proof.Machine.execRangeVisit l s
  | .shiftStart => Sys2Proof.Machine.execShiftStart s
  | .powerOn check offMs => Sys2Proof.Machine.execPowerOn check offMs s
  | .supplyDip => Sys2Proof.Machine.execSupplyDip s
  | .requestedRestart l check => Sys2Proof.Machine.execRequestedRestart l check s
  | .supplyReturn check => Sys2Proof.Machine.execSupplyReturn check s

end Sys2Proof.Machine
end

