-- ==== Sys2Proof/Safety.lean ====
section
/-! DEFINITION. What the claims are stated in: the laws of the device as properties of a state, what a step
may leave, and the reply a request gets. -/

namespace Sys2Proof.Machine

open Sys2Proof

/-! ## Running and between events -/

/-- R199: the controller runs; a supply dip has not stopped it. -/
def State.Running (s : State) : Prop := s.bay.stopped = false

/-- R70: no exhaustion report waits: each is handed in the event that made it. -/
def State.ReportsHanded (s : State) : Prop := s.stock.reports = []

/-- A state in which the next event can be taken: the controller runs and the last event is whole. -/
def State.Ready (s : State) : Prop := s.Running ∧ s.ReportsHanded

/-! ## Replies -/

/-- R182, R183: the state after a request answered on its link, with the part of the content asked for. -/
def answered (v : Via) (code : Byte) (status : Status) (content : List Item) (s : State) : State :=
  s.reply v.link ⟨v.tag, code, status, partNumber v, content⟩

/-- R183: the content has the part that the request asks for. -/
def hasPart (v : Via) (content : List Item) : Prop := partNumber v < partCount content

/-- The same state in everything but the link units. -/
def SameButLinks (s t : State) : Prop := t = { s with links := t.links }

/-! ## Runs of windows (chapter 1) -/

/-- R8: the gross volume and the last remainder of windows of the given nominal volumes at one deviation. -/
def grossRun (d : Int) : List Nat → Nat → Nat × Nat
  | [], rem => (0, rem)
  | nominal :: rest, rem =>
    let w := grossOf nominal d rem
    let r := grossRun d rest w.2
    (w.1 + r.1, r.2)

/-- R12: the net volume and the last remainder of windows of the given gross volumes at one factor. -/
def netRun (f : Int) : List Nat → Nat → Nat × Nat
  | [], rem => (0, rem)
  | gross :: rest, rem =>
    let w := netOf gross f rem
    let r := netRun f rest w.2
    (w.1 + r.1, r.2)

/-! ## What an event leaves of an order -/

/-- R13, R14: a metering unit in METERING whose window holds no pulse and no whole microlitre of remainder: ended as
the last, it adds nothing. -/
def Meter.CountedNothing (m : Meter) : Prop :=
  m.working.isSome ∧ m.pulses = 0 ∧ m.grossRem < 10000 ∧ m.netRem < 10000000

/-- R32, R33, R44: the state `t` that the event of an order's close at once leaves: its record is the newest of the
journal, with its running figures and the cause; the reserve passes from open to uncollected; the point is IDLE with
its metering unit IDLE and its pump released; and no other point, no inlet and no tank changes. -/
def State.OrderClosed (s : State) (p : PointId) (o : Order) (c : Cause) (t : State) : Prop :=
  (∃ r, t.journal.held.getLast? = some (.dispense r) ∧ r.number = o.number ∧ r.kind = o.kind ∧ r.point = p ∧
    r.product = o.product ∧ r.machine = o.machine ∧ r.hours = o.hours ∧ r.hourSource = o.hourSource ∧
    r.openTime = o.openTime ∧ r.termination = c ∧ r.secondaries = o.secondaries ∧ r.gross = o.gross ∧
    r.net = o.net ∧ r.netDl = decilitres o.net ∧ r.entries = o.entries ∧ r.limit = o.limit ∧
    r.position = s.journal.nextPosition ∧ r.closeTime = s.seconds ∧ r.klass = recordClass c o.secondaries) ∧
  t.journal.nextPosition = s.journal.nextPosition + 1 ∧
  t.journal.uncollected = s.journal.uncollected + 1 ∧ t.journal.openCount = s.journal.openCount - 1 ∧
  (t.point p).state = .idle ∧ (t.point p).order = none ∧ (t.point p).valve = false ∧
  (t.point p).meter = .idle ∧ p ∉ (t.pump (s.pointSet p).pump).claims ∧
  (∀ q, q ≠ p → t.point q = s.point q) ∧ t.stock = s.stock ∧ t.inlets = s.inlets ∧ t.store = s.store

/-- A record of the journal is that of an order closed with a cause and with the figures and secondaries it had. -/
def State.HoldsRecord (t : State) (p : PointId) (o : Order) (c : Cause) : Prop :=
  ∃ r, .dispense r ∈ t.journal.held ∧ r.number = o.number ∧ r.point = p ∧ r.termination = c ∧
    r.secondaries = o.secondaries ∧ r.gross = o.gross ∧ r.net = o.net ∧ r.entries = o.entries

/-- The order number of a record of the journal. -/
def Record.number : Record → Nat
  | .dispense r => r.number
  | .delivery r => r.number
  | .adjustment r => r.number

/-- R200: a record of the journal is that of an order interrupted by a restart: the figures of its running record,
the causes it had taken as its secondaries, at most three, and the running seconds of the restart. -/
def State.HoldsInterruptedOrder (t : State) (p : PointId) (o : Order) : Prop :=
  ∃ r, .dispense r ∈ t.journal.held ∧ r.number = o.number ∧ r.point = p ∧ r.termination = .interrupted ∧
    r.secondaries = (o.termination.toList ++ o.secondaries).take 3 ∧ r.closeTime = t.seconds ∧
    r.openTime = o.openTime ∧ r.kind = o.kind ∧ r.product = o.product ∧ r.machine = o.machine ∧ r.hours = o.hours ∧
    r.hourSource = o.hourSource ∧ r.gross = o.gross ∧ r.net = o.net ∧ r.entries = o.entries ∧ r.limit = o.limit ∧
    r.lastTemp = o.lastTemp ∧ r.uncompensated = o.uncompensated ∧ r.manualId = o.manualId ∧
    r.clamped = o.clamped ∧ r.override = o.override ∧ r.overrange = o.overrange

/-- R104, R200: the same for a delivery: not reconciled, for the reason INTERRUPTED, with its docket variance. -/
def State.HoldsInterruptedDelivery (t : State) (i : InletId) (d : Delivery) : Prop :=
  ∃ r, .delivery r ∈ t.journal.held ∧ r.number = d.number ∧ r.inlet = i ∧ r.termination = .interrupted ∧
    r.secondaries = (d.termination.toList ++ d.secondaries).take 3 ∧ r.closeTime = t.seconds ∧
    r.openTime = d.openTime ∧ r.tank = d.tank ∧ r.product = d.product ∧ r.gross = d.gross ∧ r.net = d.net ∧
    r.lastTemp = d.lastTemp ∧ r.reconciliation = .interrupted ∧ r.after = none ∧ r.variance = none ∧
    r.debits = none ∧ r.docketVariance = d.declared.map (fun x => decilitres d.net - x)

/-- R32, R33, R39, R70: what an exhaustion report with reason `c` makes of a point with an order on its product, in
the event that takes the state from `s` to `t`. -/
def State.ReportTaken (s : State) (q : PointId) (c : Cause) (t : State) : Prop :=
  match (s.point q).state, (s.point q).order with
  | .identifying, some o | .awaitPump, some o =>
    (t.point q).state = .idle ∧ (t.point q).order = none ∧ (t.point q).valve = false ∧
    (t.point q).meter = .idle ∧ t.HoldsRecord q o c
  | .priming, some o | .flowing, some o =>
    (t.point q).state = .stopping ∧ (t.point q).valve = false ∧ (t.point q).stopDue = some (t.clock + 5000) ∧
    (t.point q).order = some { o with termination := some c }
  | .stopping, some o =>
    t.point q = { s.point q with
      order := some { o with secondaries := addCause o.termination o.secondaries c } }
  | _, _ => t.point q = s.point q

/-- R70: the reason of an exhaustion report of a product in an event in which no latch is handed a cause. -/
def State.emptyReason (s : State) (k : ProductId) : Cause := if s.isWaste k then .wasteFull else .tankEmpty

/-- R32, R33: no order that waits with a closed valve has counted anything, so closing it posts nothing. -/
def State.WaitersCountedNothing (s : State) : Prop :=
  ∀ q, (s.point q).state = .identifying ∨ (s.point q).state = .awaitPump → (s.point q).meter.CountedNothing

/-! ## What a posting leaves of the stock (R71) -/

/-- R66, R71, R78: a tank after an amount is posted to it: its book changed by the amount, its two conditions
evaluated, and its quiet window restarted. -/
def State.posted (s : State) (k : TankId) (amount : Int) : Tank :=
  let set := s.tankSet k
  let waste := s.isWaste set.product
  let x := { s.tank k with book := (s.tank k).book + amount }
  { x with
    low := lowAfter set waste x, full := fullAfter set waste x, quietStart := s.seconds, quietRef := x.gauged }

/-- R69, R71: a product's draw tanks after an amount is posted to a tank: when a condition of the tank has moved, its
own product takes a chain check over the tank as posted. -/
def State.drawPosted (s : State) (k : TankId) (amount : Int) (j : ProductId) : Draw :=
  let x := s.posted k amount
  let product := (s.tankSet k).product
  if j = product ∧ (x.low ≠ (s.tank k).low ∨ x.full ≠ (s.tank k).full) then
    (chainCheck product false (s.updTank k fun _ => x)).draw j
  else s.draw j

/-- R70: a posting that leaves its tank's product, which had a draw tank, with none. -/
def State.exhausts (s : State) (k : TankId) (amount : Int) : Bool :=
  let product := (s.tankSet k).product
  (s.draw product).current.isSome && (s.drawPosted k amount product).current.isNone

/-- R71, R72, R73: the stock, the draw tanks and the debit tallies after an amount is posted to a tank. -/
def State.StockPosted (s : State) (k : TankId) (amount : Int) (t : State) : Prop :=
  t.tank k = s.posted k amount ∧ (∀ j, j ≠ k → t.tank j = s.tank j) ∧
  (∀ j, t.draw j = s.drawPosted k amount j) ∧ t.stock.reports = []

/-! ## Requests -/

/-- How a request came; a command that is no request came on no link. -/
def viaOf : Instr → Option Via
  | .fetchResult v | .stopLong v | .fetchNotices v _ | .setSubscription v _ | .linkStatus v
  | .setPermissions v _ | .readSettings v _ | .openOrder v _ | .stopOrder v _ | .pointStatus v _
  | .pumpStatus v | .openDelivery v _ | .stopDelivery v _ | .inletStatus v _ | .stockReportNow v _
  | .stockReportSettled v _ | .adjustStockSetToGauge v _ | .adjustStockDelta v _ _ | .setTankService v _
  | .readAccount v _ | .readNextAccount v | .setCursor v _ | .addAccount v _ | .writeAccount v _
  | .deleteAccount v _ | .scanAccounts v _ | .setRangeStatus v _ | .readDeferred v _ | .readClass v _
  | .setClass v _ | .shutdownStatus v _ | .releaseTrip v _ _ | .setBypass v _ | .readTripLog v _
  | .readJournal v _ | .releaseJournal v _ | .bayStatus v | .setModeOpen v | .setModeStandby v | .setModeLock v
  | .setModeUnlock v | .setClock v _ | .setShiftTable v _ | .restartRequest v | .setPoint v _ | .setPump v _
  | .setInlet v _ | .setProduct v _ | .setTank v _ | .setStockTiming v _ | .setDebounce v _ => some v
  | _ => none

/-- Log entry 5: the state with the RESET_KEY level that a request reads. -/
def keyed (i : Instr) (s : State) : State :=
  match i with
  | .shutdownStatus _ key | .releaseTrip _ _ key => s.setKey key
  | _ => s

/-- R184, section 10.4: a request whose link lacks the permission it needs.  OPEN_ORDER and OPEN_DELIVERY are
not here: other checks and a wake come before theirs (R20, R89). -/
def lacksPermission (i : Instr) (s : State) : Bool :=
  match i with
  | .setSubscription v f => f.link ≠ numberOf v.link && !(s.perms v.link).configure
  | .setPermissions v _ | .setModeLock v | .setModeUnlock v | .setClock v _ | .setShiftTable v _
  | .restartRequest v | .setPoint v _ | .setPump v _ | .setInlet v _ | .setProduct v _ | .setTank v _
  | .setStockTiming v _ | .setDebounce v _ | .setBypass v _ => !(s.perms v.link).configure
  | .stopOrder v _ | .setModeOpen v | .setModeStandby v => !(s.perms v.link).dispense
  | .stopDelivery v _ | .adjustStockSetToGauge v _ | .adjustStockDelta v _ _ | .setTankService v _ =>
    !(s.perms v.link).stock
  | .addAccount v _ | .writeAccount v _ | .deleteAccount v _ | .setRangeStatus v _ | .setClass v _ =>
    !(s.perms v.link).accounts
  | .releaseTrip v _ _ => !(s.perms v.link).release
  | .releaseJournal v _ => !(s.perms v.link).collect
  | _ => false

/-- R199, log entry 7: the commands that a stopped controller does not pass over: a level that the restart
will find, and the restart itself. -/
def takenWhileStopped : Instr → Bool
  | .pumpFaultActive _ | .pumpFaultInactive _ | .supplyReadyActive | .supplyReadyInactive
  | .inletCoupledActive _ | .inletCoupledInactive _ | .lineInputChange _ _ | .estopChange _
  | .powerOn _ _ | .supplyReturn _ => true
  | _ => false

/-! ## The laws of the device -/

/-- R19, section 2.2: the row of the table of point states: order, meter and valve by state. -/
def PointUnit.fitsState (u : PointUnit) : Prop :=
  match u.state with
  | .disabled | .idle => u.order = none ∧ u.meter.working = none ∧ u.valve = false
  | .identifying | .awaitPump | .stopping => u.order.isSome ∧ u.meter.working.isSome ∧ u.valve = false
  | .priming | .flowing => u.order.isSome ∧ u.meter.working.isSome ∧ u.valve = true

/-- R88, section 5.2: the row of the table of inlet states: delivery, meter and valve by state. -/
def InletUnit.fitsState (u : InletUnit) : Prop :=
  match u.state with
  | .idle => u.delivery = none ∧ u.meter.working = none ∧ u.valve = false
  | .awaitCoupling | .stopping => u.delivery.isSome ∧ u.meter.working.isSome ∧ u.valve = false
  | .receiving => u.delivery.isSome ∧ u.meter.working.isSome ∧ u.valve = true
  | .settling => u.delivery.isSome ∧ u.meter.working = none ∧ u.valve = false

/-- The first law, with the tables of sections 2.2 and 5.2: while the controller runs, each point and each
inlet is in one state, holds an operation exactly in the states that have one, and drives its valve open
exactly in the states that open it. -/
def State.UnitsFit (s : State) : Prop :=
  s.Running → (∀ p, (s.point p).fitsState) ∧ ∀ i, (s.inlet i).fitsState

/-- Section 2.2, R31: the ident timer of a point runs only in IDENTIFYING. -/
def State.IdentTimersFit (s : State) : Prop := ∀ p, (s.point p).identDue.isSome → (s.point p).state = .identifying

/-- The sum of the tank entries of a record. -/
def entriesSum (entries : List TankEntry) : Int := (entries.map TankEntry.amount).sum

/-- R45, R72: the entries of an operation name distinct tanks, at most four, and sum to its signed net. -/
def EntriesSum (entries : List TankEntry) (signed : Int) : Prop :=
  (entries.map TankEntry.tank).Nodup ∧ entries.length ≤ 4 ∧ entriesSum entries = signed

/-- The second law on one record: its tank entries name distinct tanks, are at most four, and sum exactly to its
signed net. -/
def Record.entriesSum : Record → Prop
  | .dispense r => EntriesSum r.entries (signedNet r.kind r.net)
  | .delivery r => EntriesSum r.entries r.net
  | .adjustment _ => True

/-- The second law: every open order's entries, and every held record's, name distinct tanks, at most four, and sum
exactly to the signed net.  With it stands what it rests on (R63, R69, R72): a chain has at most four tanks, a
product's draw tank is one of them, and so, while the controller runs, are the tanks that an open order has drawn
from and the one its next window goes to.  (A restart that is cut short may leave an order open under a blank
store.) -/
def State.EntriesKept (s : State) : Prop :=
  (∀ k, (s.productSet k).chain.length ≤ 4 ∧ ∀ t ∈ (s.draw k).current, t ∈ (s.productSet k).chain) ∧
  (∀ p, ∀ o ∈ (s.point p).order,
    EntriesSum o.entries (signedNet o.kind o.net) ∧
    (s.Running →
      (∀ e ∈ o.entries, e.tank ∈ (s.productSet o.product).chain) ∧
      ∃ t ∈ (s.productSet o.product).chain, s.postingTank o.product = some t)) ∧
  ∀ r ∈ s.journal.held, r.entriesSum

/-- R66, R69: a tank's stock conditions are those of its book, but for a tank that waits for its rebase. -/
def State.conditionsCurrent (s : State) (t : TankId) : Prop :=
  (s.tank t).rebasePending = false →
    if s.isWaste (s.tankSet t).product then
      microlitres (s.tankSet t).highCut ≤ (s.tank t).book → (s.tank t).full = true
    else (s.tank t).book ≤ microlitres (s.tankSet t).lowCut → (s.tank t).low = true

/-- The fourth law: a product's draw tank is above its low cut, or a fill tank below its high cut, and neither
tripped, out of service nor waiting for its rebase.  With it stand what it rests on: each tank's conditions
follow its book (R66), and a chain names tanks of its own product (R63, R64). -/
def State.DrawsServe (s : State) : Prop :=
  (∀ t, s.conditionsCurrent t) ∧
  (∀ k, ∀ t ∈ (s.productSet k).chain, (s.tankSet t).product = k) ∧
  ∀ k, ∀ t ∈ (s.draw k).current, t ∈ (s.productSet k).chain ∧ s.tankShows t = .available ∧
    (s.tank t).rebasePending = false ∧
    if s.isWaste k then (s.tank t).book < microlitres (s.tankSet t).highCut
    else microlitres (s.tankSet t).lowCut < (s.tank t).book

/-- The fifth law: no point under a set POINT latch or the BAY latch goes on toward flow, and no inlet whose
tank is under a set BUND latch or the BAY latch goes on receiving. -/
def State.TripsStop (s : State) : Prop :=
  (∀ p, (s.isSet (.point p) || s.isSet .bay) = true →
    (s.point p).state = .disabled ∨ (s.point p).state = .idle ∨ (s.point p).state = .stopping) ∧
  ∀ i, ∀ d ∈ (s.inlet i).delivery, s.tankTripped d.tank = true →
    (s.inlet i).state ≠ .awaitCoupling ∧ (s.inlet i).state ≠ .receiving

/-- R88: a delivery that waits for its hose or receives holds its tank's RECEIVING flag. -/
def State.FlagsHeld (s : State) : Prop :=
  ∀ i, ∀ d ∈ (s.inlet i).delivery,
    (s.inlet i).state = .awaitCoupling ∨ (s.inlet i).state = .receiving → d.holdsFlag = true

/-- The sixth law: at most one pump is STARTING. -/
def State.OneStarting (s : State) : Prop :=
  ∀ m n, (s.pump m).state = .starting → (s.pump n).state = .starting → m = n

/-- R169, the seventh law: the open count counts the open operations, the reserve is at most 480, and it is
below 480 while the curtailment flag is clear. -/
def State.ReserveHeld (s : State) : Prop :=
  s.journal.openCount = s.openOperations.length ∧ s.journal.reserve ≤ Config.curtailAt ∧
    (s.bay.curtailed = false → s.journal.reserve < Config.curtailAt)

/-- R112, the tenth law: a write of a machine's hour meter is asked for by a WRITE_ACCOUNT, as a row of its own or
spelled by a good frame on a link (R181, R182), or waits in the deferred queue. -/
def State.hourWriteAt (s : State) (i : Instr) (machine : Nat) : Prop :=
  (∃ v f, i = .writeAccount v f ∧ f.machine = machine ∧ f.hourMeter.isSome) ∨
    (∃ l bytes key g v f, i = .goodFrame l bytes key ∧ readFrame bytes = some g ∧
      frameContent l g key = .request (.writeAccount v f) ∧ f.machine = machine ∧ f.hourMeter.isSome) ∨
    ∃ e ∈ s.accounts.deferred, e.machine = machine ∧ e.change.code = 4

/-- R107, the eighth law: the account table is in strictly ascending machine number, at most 1,024 long. -/
def State.AccountsOrdered (s : State) : Prop :=
  s.accounts.table.Pairwise (fun a b => a.machine < b.machine) ∧
    s.accounts.table.length ≤ Config.maxAccounts

/-- The ninth law: at most 16 deferred entries, one for a machine and field, each naming an account of the
table whose open-order set is not empty. -/
def State.DeferredNamed (s : State) : Prop :=
  s.accounts.deferred.length ≤ Config.maxDeferred ∧
  s.accounts.deferred.Pairwise (fun a b => ¬(a.machine = b.machine ∧ a.change.code = b.change.code)) ∧
  ∀ e ∈ s.accounts.deferred, ∃ a ∈ s.accounts.table, a.machine = e.machine ∧ a.openSet ≠ []

/-- R184, the eleventh law: at least one link holds CONFIGURE. -/
def State.ConfigureHeld (s : State) : Prop := ∃ l, (s.perms l).configure = true

/-- R190, R164: no notice queue exceeds its 16 places, and the trip log its 32. -/
def State.QueuesBounded (s : State) : Prop :=
  (∀ l, (s.link l).queue.length ≤ Config.maxNotices) ∧ s.shutdown.log.length ≤ Config.maxTripLog

end Sys2Proof.Machine
end

