-- ==== Sys2Proof/Certificates/Slice0/Obligations.lean ====
section
/-! DEFINITION. The statements for the provers. -/

open Sys2Proof Sys2Proof.Machine

/-! ## Metering (chapter 1) -/

/-- R7: the deviation of a window's flow on a table of strictly ascending flows: the end points, each stretch
between two points with the quotient truncated toward zero, the table points themselves, an added term no
larger than the step, the range spanned by the four values, the table of equal values, and that it is the
deviation of every window result.  R6: the flow of every window, ended as the last or not, from its nominal volume,
0 with no pulse, and the ranges of both. -/
def Obligations.LinearityDeviation : Prop :=
  ∀ m : MeterSettings, meterInRange m = true →
    (∀ q : Nat,
      (q ≤ m.q1 → deviationAt m q = m.d1) ∧
      (m.q4 ≤ q → deviationAt m q = m.d4) ∧
      (∀ a b : Nat × Int,
        (a, b) ∈ [((m.q1, m.d1), (m.q2, m.d2)), ((m.q2, m.d2), (m.q3, m.d3)), ((m.q3, m.d3), (m.q4, m.d4))] →
        a.1 ≤ q → q < b.1 →
          deviationAt m q = a.2 + Int.tdiv ((b.2 - a.2) * ((q : Int) - a.1)) ((b.1 : Int) - a.1) ∧
          (deviationAt m q - a.2).natAbs ≤ (b.2 - a.2).natAbs) ∧
      min (min m.d1 m.d2) (min m.d3 m.d4) ≤ deviationAt m q ∧
      deviationAt m q ≤ max (max m.d1 m.d2) (max m.d3 m.d4) ∧
      -300 ≤ deviationAt m q ∧ deviationAt m q ≤ 300 ∧
      (m.d1 = m.d2 ∧ m.d2 = m.d3 ∧ m.d3 = m.d4 → deviationAt m q = m.d1)) ∧
    deviationAt m m.q1 = m.d1 ∧ deviationAt m m.q2 = m.d2 ∧ deviationAt m m.q3 = m.d3 ∧
    deviationAt m m.q4 = m.d4 ∧
    ∀ (u : Meter) (w : Working) (reading : Option Int) (last : Bool), w.meter = m →
      let nominal := u.pulses * m.pulseVolume
      let r := windowResult u w reading last
      r.deviation = deviationAt m r.flow ∧ r.flow = nominal * 300 / 1000000 ∧
      (u.pulses = 0 → nominal = 0 ∧ r.flow = 0) ∧
      (u.pulses ≤ 65535 → nominal ≤ 65535000000 ∧ r.flow ≤ 19660500)

/-- R8: gross volume and the gross remainder: the exact division of t, a remainder below 10,000, what a window
of no pulses leaves, and the remainder that stays 0 when the nominal pulse volume is a whole multiple of
10,000 µL.  Chapter 1, introduction: over many windows at one deviation the gross volume is that of the same pulses
in a single window; only the carried remainder, less than a microlitre, is still to come. -/
def Obligations.GrossVolume : Prop :=
  (∀ (d : Int) (nominals : List Nat), -300 ≤ d → d ≤ 300 →
    (grossRun d nominals 0).1 = (grossOf nominals.sum d 0).1 ∧
    (grossRun d nominals 0).2 = (grossOf nominals.sum d 0).2) ∧
  ∀ (u : Meter) (w : Working) (reading : Option Int) (last : Bool), meterInRange w.meter = true →
    u.grossRem < 10000 →
    let r := windowResult u w reading last
    let next := nextWindow u w reading
    let nominal : Int := u.pulses * w.meter.pulseVolume
    let t : Int := nominal * (10000 + r.deviation) + u.grossRem
    9700 ≤ 10000 + r.deviation ∧ 0 ≤ t ∧
    (r.gross : Int) = t / 10000 ∧ (next.grossRem : Int) = t % 10000 ∧ next.grossRem ≤ 9999 ∧
    (u.pulses = 0 → t = u.grossRem ∧ r.gross = 0 ∧ next.grossRem = u.grossRem) ∧
    (10000 ∣ w.meter.pulseVolume → u.grossRem = 0 → next.grossRem = 0) ∧
    ∀ (m : MeterSettings) (beta now : Nat), (enterMetering m beta now).grossRem = 0

/-- R10: the temperature used, the hold age, the state and the mark by the reading and the hold; a valid
reading replaces the last valid temperature, the end of the hold makes it absent, the hold covers 150 window
ends after a valid reading, and an operation whose readings are all invalid is DEFAULT throughout.  R9: a valid
reading of any value is used, and stored, clamped to −400 to +850, without a mark. -/
def Obligations.TemperatureHold : Prop :=
  ∀ (u : Meter) (w : Working) (last : Bool),
    let used (reading : Option Int) := windowResult u w reading last
    let next (reading : Option Int) := nextWindow u w reading
    (∀ x : Int,
      let clamped := if x < -400 then -400 else if 850 < x then 850 else x
      (used (some x)).temperature = clamped ∧ (used (some x)).tempState = .live ∧
      (used (some x)).uncompensated = false ∧
      (next (some x)).lastValid = some clamped ∧ (next (some x)).holdAge = 0 ∧
      (next (some x)).tempState = .live) ∧
    (∀ x : Int, u.lastValid = some x → u.holdAge + 1 ≤ 150 →
      (used none).temperature = x ∧ (used none).tempState = .held ∧ (used none).uncompensated = false ∧
      (next none).lastValid = some x ∧ (next none).holdAge = u.holdAge + 1 ∧ (next none).tempState = .held) ∧
    (u.lastValid = none ∨ 150 < u.holdAge + 1 →
      (used none).temperature = 150 ∧ (used none).tempState = .default ∧ (used none).uncompensated = true ∧
      (next none).lastValid = none ∧ (next none).holdAge = 0 ∧ (next none).tempState = .default) ∧
    (∀ (x : Int) (n : Nat), -400 ≤ x → x ≤ 850 →
      let held := Nat.repeat (fun m => nextWindow m w none) n (next (some x))
      (windowResult held w none last).tempState = (if n < 150 then .held else .default) ∧
      (windowResult held w none last).temperature = (if n < 150 then x else 150)) ∧
    ∀ (m : MeterSettings) (beta now n : Nat),
      let first := enterMetering m beta now
      first.lastValid = none ∧
      (windowResult (Nat.repeat (fun m => nextWindow m w none) n first) w none last).tempState = .default ∧
      (windowResult (Nat.repeat (fun m => nextWindow m w none) n first) w none last).uncompensated = true

/-- R11, R12: the compensation factor of every window, its bounds and where they are reached, and the same factor in
a tank's gauged net; net volume and the net remainder: the exact division of u, a remainder below 10,000,000, what a
window of no gross volume leaves, and that a window at 15 °C, or in DEFAULT, books its gross volume as its net.
Chapter 1, introduction: over many windows at one factor the net volume is that of the same gross volume in a single
window; only the carried remainder, less than a microlitre, is still to come. -/
def Obligations.CompensationAndNet : Prop :=
  (∀ (f : Int) (grosses : List Nat), 8600000 ≤ f → f ≤ 11100000 →
    (netRun f grosses 0).1 = (netOf grosses.sum f 0).1 ∧ (netRun f grosses 0).2 = (netOf grosses.sum f 0).2) ∧
  ((∀ (beta : Nat) (t10 : Int), factor beta t10 = 10000000 - beta * (t10 - 150)) ∧
  factor 2000 850 = 8600000 ∧ factor 2000 (-400) = 11100000 ∧
  (∀ (s : State) (t : TankId) (level : Nat) (x : Int), -400 ≤ x → x ≤ 850 →
    s.gaugedNet t level x =
      (strapVolume (s.tankSet t).strapping level : Int) *
        factor (s.productSet (s.tankSet t).product).beta x / 10000000) ∧
  ∀ (u : Meter) (w : Working) (reading : Option Int) (last : Bool), w.beta ≤ 2000 →
    (∀ x ∈ u.lastValid, -400 ≤ x ∧ x ≤ 850) →
    let r := windowResult u w reading last
    8600000 ≤ factor w.beta r.temperature ∧ factor w.beta r.temperature ≤ 11100000 ∧
    -1100000 ≤ w.beta * (r.temperature - 150) ∧ w.beta * (r.temperature - 150) ≤ 1400000 ∧
    (r.temperature = 150 → factor w.beta r.temperature = 10000000) ∧
    (r.net : Int) = ((r.gross : Int) * factor w.beta r.temperature + u.netRem) / 10000000) ∧
  ∀ (m : Meter) (w : Working) (reading : Option Int) (last : Bool), w.beta ≤ 2000 →
    (∀ x ∈ m.lastValid, -400 ≤ x ∧ x ≤ 850) → m.netRem ≤ 9999999 →
    let r := windowResult m w reading last
    let next := nextWindow m w reading
    let u : Int := (r.gross : Int) * factor w.beta r.temperature + m.netRem
    0 ≤ u ∧ (r.net : Int) = u / 10000000 ∧ (next.netRem : Int) = u % 10000000 ∧ next.netRem ≤ 9999999 ∧
    (r.gross = 0 → u = m.netRem ∧ r.net = 0 ∧ next.netRem = m.netRem) ∧
    (r.temperature = 150 → factor w.beta r.temperature = 10000000 ∧ r.net = r.gross) ∧
    (r.tempState = .default → r.net = r.gross)

/-! ## Fixed computations of the blocks -/

/-- R23: the limit is the least of the terms present, its cause the first binding term in the order preset,
allowance remaining, capacity term, and a preset above the capacity term is clamped; the terms of each kind. -/
def Obligations.OrderLimitTerms : Prop :=
  (∀ (preset allowance : Option Nat) (capacity : Nat),
    let x := limitOf preset allowance capacity
    x.limit ≤ capacity ∧ (∀ n ∈ preset, x.limit ≤ n) ∧ (∀ n ∈ allowance, x.limit ≤ n) ∧
    (x.limit = capacity ∨ preset = some x.limit ∨ allowance = some x.limit) ∧
    (x.cause = .preset ↔ ∃ n, preset = some n ∧ min capacity n = x.limit) ∧
    (x.cause = .allowance ↔
      allowance = some x.limit ∧ ¬∃ n, preset = some n ∧ min capacity n = x.limit) ∧
    (x.cause = .capacity ↔
      allowance ≠ some x.limit ∧ ¬∃ n, preset = some n ∧ min capacity n = x.limit) ∧
    (x.clamped = true ↔ ∃ n, preset = some n ∧ capacity < n)) ∧
  ∀ (s : State) (p : PointId) (preset : Option Nat) (override : Bool) (a : Account),
    s.limitFor p .fuel preset override (some a) =
      limitOf preset (if a.allowance ≠ 0 ∧ override = false then some (a.allowance - a.shiftUsed) else none)
        (look s.accounts.classes a.klass).capacity ∧
    ∀ kind, kind ≠ .fuel → ∀ x, s.limitFor p kind preset override x = limitOf preset none (s.pointSet p).maxOrder

/-- R75: the strapping volume by the level, on a valid table: below the first point, at each point, between two
points, and above the last; it never exceeds the last point's volume. -/
def Obligations.StrappingVolume : Prop :=
  ∀ table : Table 12 StrapPoint, validStrapping table = true →
    ∀ level : Nat,
      (level < (look table 0).level →
        strapVolume table level = (look table 0).volume * level / (look table 0).level) ∧
      (∀ i : Fin 12, level = (look table i).level → strapVolume table level = (look table i).volume) ∧
      (∀ i j : Fin 12, i.val + 1 = j.val → (look table i).level < level → level < (look table j).level →
        strapVolume table level =
          (look table i).volume +
            ((look table j).volume - (look table i).volume) * (level - (look table i).level) /
              ((look table j).level - (look table i).level)) ∧
      ((look table 11).level < level → strapVolume table level = (look table 11).volume) ∧
      (isOverStrap table level = true ↔ (look table 11).level < level) ∧
      strapVolume table level ≤ (look table 11).volume

/-! ## Steps -/

/-- Every command is taken from the front of the queue: the step is the command on the state with the queue's
rest.  With no command waiting a step is one millisecond of the battery-kept clock and nothing else: that clause is
the model's choice, log entry 2. -/
def Obligations.StepTakesFrontCommand : Prop :=
  (∀ (i : Instr) (s : State), step { s with pending := i :: s.pending } = exec i s) ∧
  ∀ s : State, s.pending = [] → step s = .next { s with clock := s.clock + 1 }

/-- Every command of the table gives a next state, and leaves the commands that wait behind it as they are; time
never goes back but in a restart that finds the retained image lost.  R199 and log entry 7, the model's choice: a
controller that a supply dip has stopped passes over every command but a change of a line's level and the restart. -/
def Obligations.EveryCommandCompletes : Prop :=
  (∀ (i : Instr) (s : State), ∃ t, exec i s = .next t ∧ t.pending = s.pending ∧
    (s.clock ≤ t.clock ∨ ∃ l check n, check.imageValid = false ∧
      (i = .powerOn check n ∨ i = .requestedRestart l check ∨ i = .supplyReturn check))) ∧
  ∀ (i : Instr) (s : State), s.bay.stopped = true → takenWhileStopped i = false → exec i s = .next s

/-! ## The laws of the device -/

/-- The state after reset holds every law of the device. -/
def Obligations.ResetHoldsLaws : Prop :=
  State.reset.Running ∧ State.reset.ReportsHanded ∧ State.reset.UnitsFit ∧ State.reset.IdentTimersFit ∧
  State.reset.EntriesKept ∧
  State.reset.DrawsServe ∧ State.reset.TripsStop ∧ State.reset.FlagsHeld ∧ State.reset.OneStarting ∧
  State.reset.ReserveHeld ∧ State.reset.AccountsOrdered ∧ State.reset.DeferredNamed ∧
  State.reset.ConfigureHeld ∧ State.reset.QueuesBounded

/-- Tables of sections 2.2 and 5.2, and the first law: every step keeps each point and inlet in a state that has
an operation, a metering unit and an open valve exactly as its row says, and an ident timer running only in
IDENTIFYING. -/
def Obligations.UnitsFitKept : Prop :=
  ∀ s t : State, s.UnitsFit ∧ s.IdentTimersFit → step s = .next t → t.UnitsFit ∧ t.IdentTimersFit

/-- The second law: every step keeps the tank entries of every open order and of every held record on distinct
tanks, at most four, and summing to the signed net. -/
def Obligations.EntriesKeptByStep : Prop :=
  ∀ s t : State, s.EntriesKept → step s = .next t → t.EntriesKept

/-- The fourth law: every step leaves no product with a draw tank at or below its low cut, tripped, out of
service or waiting for its rebase, and no WASTE product with a fill tank at or above its high cut. -/
def Obligations.DrawsServeKept : Prop :=
  ∀ s t : State, s.DrawsServe → s.UnitsFit → step s = .next t → t.DrawsServe

/-- The fifth law: every step keeps a point or a delivery under a set latch from going on toward flow.  With it are
kept what it rests on: the RECEIVING flags of deliveries, and an ident timer running only in IDENTIFYING. -/
def Obligations.TripsStopKept : Prop :=
  ∀ s t : State, s.TripsStop ∧ s.FlagsHeld ∧ s.IdentTimersFit → s.UnitsFit → step s = .next t →
    t.TripsStop ∧ t.FlagsHeld ∧ t.IdentTimersFit

/-- The sixth law: every step leaves at most one pump STARTING. -/
def Obligations.OneStartingKept : Prop :=
  ∀ s t : State, s.OneStarting → step s = .next t → t.OneStarting

/-- The seventh law: every step keeps the open count at the number of open operations and the reserve at most
480, and below 480 while the curtailment flag is clear. -/
def Obligations.ReserveKept : Prop :=
  ∀ s t : State, s.ReserveHeld → s.UnitsFit → step s = .next t → t.ReserveHeld

/-- The eighth law: every step keeps the account table in strictly ascending machine number, at most 1,024
long. -/
def Obligations.AccountsOrderedKept : Prop :=
  ∀ s t : State, s.AccountsOrdered → step s = .next t → t.AccountsOrdered

/-- The ninth law: every step keeps at most 16 deferred entries, one for a machine and field, each naming an
account with an open order. -/
def Obligations.DeferredNamedKept : Prop :=
  ∀ s t : State, s.DeferredNamed → s.AccountsOrdered → step s = .next t → t.DeferredNamed

/-- The eleventh law: every step leaves CONFIGURE with at least one link. -/
def Obligations.ConfigureKept : Prop :=
  ∀ s t : State, s.ConfigureHeld → step s = .next t → t.ConfigureHeld

/-- R190, R164: every step keeps each notice queue within 16 notices and the trip log within 32 entries. -/
def Obligations.QueuesBoundedKept : Prop :=
  ∀ s t : State, s.QueuesBounded → step s = .next t → t.QueuesBounded

/-- R115, R112, the tenth law: an account's stored hour meter never decreases, and never goes absent, but by a
link's write of it: a WRITE_ACCOUNT, whether it is taken as a row or spelled by a good frame, or a deferred one. -/
def Obligations.HourMeterNeverFalls : Prop :=
  ∀ (i : Instr) (s t : State) (a b : Account), s.AccountsOrdered → exec i s = .next t →
    a ∈ s.accounts.table → b ∈ t.accounts.table → a.machine = b.machine → ¬s.hourWriteAt i a.machine →
    ∀ x ∈ a.hourMeter, ∃ y ∈ b.hourMeter, x.value ≤ y.value

/-! ## Requests that read -/

/-- R46, R61, R103, R166, R186, R202: each status request is answered OK on any link with the items of its rule as
the state stands, and changes nothing but the link's reply; a point or inlet out of range is RANGE, and so is a part
that the report does not have.  Log entry 5, the model's choice: SHUTDOWN_STATUS also leaves the RESET_KEY level that
it reads.  Log entry 44, the model's choices: the running net and the debit tally are absent where no operation is
open, an absent tanker identifier is a text of spaces, and the time left on the attendance timer is rounded up.  Log
entry 18, the model's choice: the coding of the items. -/
def Obligations.StatusRequestsOnlyReply : Prop :=
  ∀ (v : Via) (s : State), s.Ready →
    let left (due : Nat) : Nat := (due - s.clock + 999) / 1000
    let reports (i : Instr) (code : Byte) (items : List Item) (t : State) : Prop :=
      (hasPart v items → exec i s = .next (answered v code .ok items t)) ∧
      (¬hasPart v items → exec i s = .next (answered v code .range [] s))
    (∀ p : PointId,
      let u := s.point p
      let limit := u.order.bind Order.limit
      reports (.pointStatus v (numberOf p)) 0x12
        [ item1 u.state.code, .nat 8 (u.order.map Order.number),
          .nat 1 (u.order.map fun o => orderKindCode o.kind), .nat 2 (u.order.bind Order.machine),
          .nat 4 (u.order.map fun o => (o.net + 50000) / 100000), .nat 4 limit,
          .nat 4 (limit.map fun x => max 1 (x - (s.pointSet p).stopAllowance)),
          .nat 1 ((u.order.bind Order.termination).map Cause.code), .nat 1 (u.attendDue.map left),
          item1 u.receiver.code, .nat 2 (u.identity.map Identity.machine),
          .nat 4 (u.identity.map Identity.hours), .nat 8 (u.identity.map Identity.time) ] s) ∧
    (∀ n, n = 0 ∨ 8 < n → exec (.pointStatus v n) s = .next (answered v 0x12 .range [] s)) ∧
    reports (.pumpStatus v) 0x13
      ((allPumps.flatMap fun m =>
        [ item1 (s.pump m).state.code, item1 (s.pump m).claims.length,
          itemSet 1 (allPoints.map fun p => decide (p ∈ (s.pump m).claims)) ]) ++
      (allPumps.flatMap fun m =>
        [.nat 1 ((s.pump m).startDue.map left), .nat 2 ((s.pump m).holdDue.map left)]) ++
      (allPumps.map fun m => itemFlag (s.pump m).faultLine) ++
      [item1 s.pumps.queue.length] ++ s.pumps.queue.map itemId ++ [.zeros (6 - s.pumps.queue.length)] ++
      [itemFlag s.pumps.supplyReady]) s ∧
    (∀ i : InletId,
      let u := s.inlet i
      reports (.inletStatus v (numberOf i)) 0x1A
        [ item1 u.state.code, .nat 8 (u.delivery.map Delivery.number), .nat 1 (u.delivery.map fun d => numberOf d.tank),
          .nat 1 (u.delivery.map fun d => numberOf d.product), .text 12 ((u.delivery.map Delivery.tanker).getD []),
          .nat 4 (u.delivery.map fun d => (d.net + 50000) / 100000), itemFlag u.flowBegun, item1 u.lowFlow,
          .nat 1 ((u.delivery.bind Delivery.termination).map Cause.code), .nat 2 (u.settleDue.map left),
          .nat 1 (if u.state = .settling then u.delivery.map Delivery.extensions else none),
          .int 4 (u.delivery.map fun d => decilitres d.tally), itemFlag u.coupled ] s) ∧
    (∀ n, n = 0 ∨ 2 < n → exec (.inletStatus v n) s = .next (answered v 0x1A .range [] s)) ∧
    (let u := s.link v.link
     let set := look s.store.links v.link
     reports (.linkStatus v) 0x05
        ([itemId v.link, .nat 4 (u.rate.map Rate.bits)] ++ (allLinks.map fun l => permsItem (s.perms l)) ++
        [ classesItem set.classes, item1 set.level, item1 u.queue.length, itemFlag u.overflow,
          .nat 1 (u.running.map fun op => op.work.kind), .nat 2 (u.running.map fun op => op.tag.toNat),
          .nat 1 (u.result.map fun r => r.content.kind), .nat 2 (u.result.map fun r => r.tag.toNat),
          .nat 1 (u.result.map fun r => r.content.outcome), item2 (look s.accounts.cursors v.link) ]) s) ∧
    (let r := s.bay.restart
     reports (.bayStatus v) 0x50
        ([ item1 s.bay.mode.code, itemFlag s.bay.curtailed, item2 s.journal.uncollected, item1 s.journal.openCount,
          item2 (s.journal.uncollected + s.journal.openCount), item4 s.seconds, .int 8 (some s.bay.offset),
          item4 s.calendar, itemFlag s.bay.clockSet, item1 s.store.shifts.length ] ++ s.store.shifts.map item2 ++
        [ .zeros ((4 - s.store.shifts.length) * 2), item4 s.bay.nextShift, item4 s.accounts.lastShiftChange,
          item1 r.cause.code, item1 (if r.imageKept then 1 else 2), item1 (if r.settingsKept then 1 else 2),
          item1 r.interrupted, item4 r.seconds, item4 r.calendar, .nat 1 (r.link.map numberOf) ]) s) ∧
    ∀ key,
      let latch (x : LatchId) : List Item :=
        let l := s.latch x
        let members := possibleInputs x
        [item1 l.state.code, item1 l.causes.length] ++ l.causes.map (fun c => item1 c.code) ++
        [ .zeros (4 - l.causes.length),
          itemSet (if members.length ≤ 8 then 1 else 2) (members.map fun y => decide (y ∈ l.contributing)),
          .nat 8 l.trip, .nat 8 l.time ]
      let input (x : Input) : List Item := [itemFlag x.level, item1 x.settled.code]
      let bypass (x : BypassId) : List Item :=
        match s.bypass x with
        | none => [item1 1, .nat 2 none, .nat 1 none]
        | some b => [item1 2, item2 ((b.expiry - s.seconds + 59) / 60), itemId b.link]
      reports (.shutdownStatus v key) 0x40
        (allLatches.flatMap latch ++ (allDebounced.flatMap fun x => input (s.debounced x)) ++
          input s.shutdown.estop ++ allBypasses.flatMap bypass ++ [itemFlag key])
        { s with shutdown := { s.shutdown with resetKey := key } }

/-- R83, R105, R106, R107, R121, R139, R143, R164, R165, R185, R188: each request that reads a record is answered OK
with it, in the order its rule lists it, or with the status of its rule when there is none, and changes nothing but
the link's reply: a settings record in the fields of the request that writes it; an account with the remaining-to-due
of each line and the allowance remaining; the deferred entries with their places; a trip, NEWEST the one of the
highest number held, with the lowest and highest numbers held; a stock report of every tank of the product; and a held
result. R183: a part that the content of the answer does not have is RANGE, for a refusal with content too. Log entry
18, the model's reading (DEDUCED and, where it says so, DESIGN CHOICE): the coding of the items, a link's number sent
twice in its record, the field of a deferred change sent once, and that a result carries the content of its own
operation alone.  Log entry 27, the model's reading (DEDUCED): a trip number beyond 32 bits and a selector of
READ_SETTINGS that names no record are RANGE. -/
def Obligations.RecordReadsAnswered : Prop :=
  ∀ (v : Via) (s : State), s.Ready →
    let reads (i : Instr) (code : Byte) (status : Status) (items : List Item) : Prop :=
      (hasPart v items → exec i s = .next (answered v code status items s)) ∧
      (¬hasPart v items → exec i s = .next (answered v code .range [] s))
    let choice (first : Bool) : Item := item1 (if first then 1 else 2)
    let listed (capacity size : Nat) (xs : List (List Item)) : List Item :=
      item1 xs.length :: xs.flatten ++ [.zeros ((capacity - xs.length) * size)]
    let meter (m : MeterSettings) : List Item :=
      [item4 m.pulseVolume, item2 m.q1, item2 m.q2, item2 m.q3, item2 m.q4, .int 2 (some m.d1), .int 2 (some m.d2),
        .int 2 (some m.d3), .int 2 (some m.d4)]
    let settings (name : SettingsName) (items : List Item) : Prop :=
      reads (.readSettings v (some name)) 0x07 .ok items
    let unsettled (name : Coded SettingsName) : Prop :=
      exec (.readSettings v name) s = .next (answered v 0x07 .range [] s)
    (∀ p : PointId,
      let x := s.pointSet p
      settings (.point (numberOf p))
        ([item1 (numberOf p), choice x.enabled, item1 (numberOf x.product), item1 (numberOf x.pump),
          choice x.nozzleFitted, item1 x.identTime, item1 (attendanceCode x.attendance), item2 x.maxFlow,
          item1 x.noFlowThreshold, item1 x.noFlowTime, item1 x.primeTime, item1 x.stopAllowance, item2 x.maxOrder] ++
          meter x.meter)) ∧
    (∀ m : PumpId, settings (.pump (numberOf m))
      [item1 (numberOf m), item1 (s.pumpSet m).startTime, item2 (s.pumpSet m).holdTime]) ∧
    (∀ i : InletId,
      let x := s.inletSet i
      settings (.inlet (numberOf i))
        ([item1 (numberOf i), itemSet 2 (allTanks.map fun k => decide (k ∈ x.reachable)), item1 x.noFlowThreshold,
          item1 x.noFlowTime, item1 x.settleTime, item1 x.settleStep] ++ meter x.meter)) ∧
    (∀ k : ProductId,
      let x := s.productSet k
      settings (.product (numberOf k))
        ([item1 (numberOf k), item1 (productKindCode x.kind), item2 x.beta, .text 8 x.name] ++
          listed 4 1 (x.chain.map fun k => [item1 (numberOf k)]))) ∧
    (∀ k : TankId,
      let x := s.tankSet k
      settings (.tank (numberOf k))
        ([item1 (numberOf k), item1 (numberOf x.product), item1 (numberOf x.bund), item4 x.capacity, item4 x.lowCut,
          item4 x.lowAlarm, item4 x.highCut, item4 x.hysteresis, item4 x.tolerance, item4 x.leakThreshold] ++
          (x.strapping.toList.map fun p => [item2 p.level, item4 p.volume]).flatten)) ∧
    settings .stockTiming [item1 s.store.timing.checkPeriod, item1 s.store.timing.quietPeriod] ∧
    (let d := s.store.debounce
     settings .debounce
       [item1 1, item1 d.drip, item1 2, item1 d.overpress, item1 3, item1 d.sump, item1 4, item1 d.highhigh]) ∧
    settings .shiftTable (listed 4 2 (s.store.shifts.map fun m => [item2 m])) ∧
    (∀ l : Link,
      let x := look s.store.links l
      settings (.link (numberOf l))
        [item1 (numberOf l),
          itemSet 1 [x.perms.dispense, x.perms.override, x.perms.accounts, x.perms.stock, x.perms.collect,
            x.perms.release, x.perms.configure],
          item1 (numberOf l),
          itemSet 1 [x.classes.orders, x.classes.stock, x.classes.accounts, x.classes.shutdown, x.classes.bay],
          item1 x.level]) ∧
    (∀ n : Nat,
      (n = 0 ∨ 8 < n → unsettled (some (.point n)) ∧ unsettled (some (.product n)) ∧
        exec (.stockReportNow v n) s = .next (answered v 0x20 .range [] s)) ∧
      (n = 0 ∨ 6 < n → unsettled (some (.pump n))) ∧ (n = 0 ∨ 2 < n → unsettled (some (.inlet n))) ∧
      (n = 0 ∨ 12 < n → unsettled (some (.tank n))) ∧ (n = 0 ∨ 3 < n → unsettled (some (.link n)))) ∧
    unsettled none ∧
    (∀ n a, 1 ≤ n → n ≤ 65534 → s.account n = some a →
      let hours (l : ServiceLine) : Nat := match a.hourMeter with
        | some h => h.value - l.lastService
        | none => 0
      reads (.readAccount v n) 0x30 .ok
        ([item2 a.machine, item1 a.klass.val, item1 (statusCode a.status.name),
          .nat 1 (a.status.reason.map HoldReason.code), .nat 4 (a.hourMeter.map HourMeter.value),
          .nat 8 (a.hourMeter.map HourMeter.time), .nat 4 a.fullRef, item4 a.fuelSinceFull, .nat 4 a.burnAverage,
          item2 a.samplesTaken, item2 a.samplesRejected, item1 a.implausibleRun, item4 a.allowance, item4 a.shiftUsed,
          item4 a.fuelTotal, item1 (actionCode a.action)] ++
        listed 4 12 (a.lines.map fun l =>
          [item1 (numberOf l.product), item2 l.interval, item4 l.lastService, item4 l.topUp, item1 l.state.code]) ++
        listed 3 4 (a.openSet.map fun n => [item4 n]) ++
        listed 4 4 (a.lines.map fun l => [item4 (l.interval * 10 - hours l)]) ++
        [item4 (a.allowance - a.shiftUsed)])) ∧
    (∀ n, 1 ≤ n → n ≤ 65534 → s.account n = none →
      exec (.readAccount v n) s = .next (answered v 0x30 .notFound [] s)) ∧
    (∀ n, n = 0 ∨ 65534 < n →
      exec (.readAccount v n) s = .next (answered v 0x30 .range [] s) ∧
      exec (.readDeferred v (some n)) s = .next (answered v 0x38 .range [] s)) ∧
    (∀ c : ClassId,
      let r := look s.accounts.classes c
      reads (.readClass v c.val) 0x39 .ok [item2 r.bandMin, item2 r.bandMax, item4 r.capacity, item2 r.tolerance]) ∧
    (∀ n, 16 ≤ n → exec (.readClass v n) s = .next (answered v 0x39 .range [] s)) ∧
    (∀ machine : Option Nat, (∀ n ∈ machine, 1 ≤ n ∧ n ≤ 65534) →
      let written (ls : List ServiceLine) : List Item :=
        listed 4 7 (ls.map fun l => [item1 (numberOf l.product), item2 l.interval, item4 l.lastService])
      let absent (width : Nat) : Item := .nat width none
      let noLines : List Item := [absent 1, .zeros 28]
      let value (c : DeferredChange) : List Item :=
        match c with
        | .write (.status x) => [item1 1, item1 (statusCode x), absent 1, absent 4, absent 4, absent 1] ++ noLines
        | .write (.klass x) => [item1 2, absent 1, item1 x.val, absent 4, absent 4, absent 1] ++ noLines
        | .write (.allowance x) => [item1 3, absent 1, absent 1, item4 x, absent 4, absent 1] ++ noLines
        | .write (.hourMeter x) => [item1 4, absent 1, absent 1, absent 4, item4 x, absent 1] ++ noLines
        | .write (.action x) => [item1 5, absent 1, absent 1, absent 4, absent 4, item1 (actionCode x)] ++ noLines
        | .write (.lines ls) => [item1 6, absent 1, absent 1, absent 4, absent 4, absent 1] ++ written ls
        | .delete => [item1 7, absent 1, absent 1, absent 4, absent 4, absent 1] ++ noLines
      reads (.readDeferred v machine) 0x38 .ok
        (listed 16 45 ((s.accounts.deferred.zipIdx 1).filterMap fun (e, place) =>
            if ∀ n ∈ machine, e.machine = n then
              some (item2 e.machine :: value e.change ++ [item1 (numberOf e.source), item1 place])
            else none) ++
          [item1 (16 - s.accounts.deferred.length)])) ∧
    (let numbers := s.shutdown.log.map TripEntry.number
     let bounds : List Item := [.nat 8 numbers.min?, .nat 8 numbers.max?]
     let scope (x : LatchId) : List Item :=
       match x with
       | .point p => [item1 1, item1 (numberOf p), .nat 1 none]
       | .bund b => [item1 2, .nat 1 none, item1 (numberOf b)]
       | .bay => [item1 3, .nat 1 none, .nat 1 none]
     let entry (e : TripEntry) : List Item :=
       [item4 e.number, item4 e.time] ++ scope e.scope ++ listed 4 1 (e.causes.map fun c => [item1 c.code]) ++
         [item1 e.stopped, .nat 8 e.releaseTime, .nat 1 (e.releaseLink.map numberOf)]
     (∀ n, 4294967295 < n →
       exec (.readTripLog v (some (.number n))) s = .next (answered v 0x43 .range [] s)) ∧
     (∀ n, n ≤ 4294967295 → n ∉ numbers → reads (.readTripLog v (some (.number n))) 0x43 .notFound bounds) ∧
     (∀ n, n ≤ 4294967295 → n ∈ numbers → ∃ e ∈ s.shutdown.log, e.number = n ∧
       reads (.readTripLog v (some (.number n))) 0x43 .ok (entry e ++ bounds)) ∧
     (s.shutdown.log = [] → reads (.readTripLog v (some .newest)) 0x43 .notFound bounds) ∧
     (s.shutdown.log ≠ [] → ∃ e ∈ s.shutdown.log, (∀ x ∈ s.shutdown.log, x.number ≤ e.number) ∧
       reads (.readTripLog v (some .newest)) 0x43 .ok (entry e ++ bounds))) ∧
    (∀ k : ProductId,
      let set := s.productSet k
      let shows (m : TankId) : Nat :=
        if (s.tankSet m).outOfService then 1
        else if s.isSet (.bund (s.tankSet m).bund) ∨ s.isSet .bay then 2
        else if (s.tank m).low then 3
        else if (s.tank m).full then 4 else 5
      let tank (m : TankId) : List Item :=
        let x := s.tank m
        [item1 (numberOf m), .nat 1 ((set.chain.idxOf? m).map (· + 1)), item1 (shows m),
          itemFlag (s.tankSet m).outOfService, itemFlag (s.isSet (.bund (s.tankSet m).bund) || s.isSet .bay),
          itemFlag x.low, itemFlag x.full, .int 4 (some (decilitres x.book)), item1 x.gauge.code,
          .nat 4 (x.gauged.map Int.toNat), .int 4 x.variance, item1 x.runCount, itemFlag (s.receiving m),
          itemFlag x.rebased, itemFlag x.rebasePending, itemFlag x.overStrap]
      let orders : Nat :=
        (allPoints.map fun p => (((s.point p).order.filter fun o => o.product = k).map Order.net).getD 0).sum
      let deliveries : Nat :=
        (allInlets.map fun i => (((s.inlet i).delivery.filter fun d => d.product = k).map Delivery.net).getD 0).sum
      reads (.stockReportNow v (numberOf k)) 0x20 .ok
        ([item1 (numberOf k), item1 (productKindCode set.kind), .text 8 set.name,
          .nat 1 ((s.draw k).current.map numberOf), .nat 1 ((s.draw k).last.map numberOf), item4 s.seconds,
          item4 s.calendar] ++
        listed 12 25 ((allTanks.filter fun m => (s.tankSet m).product = k).map tank) ++
        [.int 4 (some (decilitres orders)), .int 4 (some (decilitres deliveries)),
          item1 (if s.openOnProduct k then 1 else 2)])) ∧
    (∀ r, (s.link v.link).result = some r →
      let content : List Item :=
        match r.content with
        | .scan _ hits lastVisited => listed 8 2 (hits.map fun n => [item2 n]) ++ [item2 lastVisited]
        | .range _ changed deferred passed firstNotDone =>
          [item2 changed, item2 deferred, item2 passed, .nat 2 firstNotDone]
        | .report _ taken => taken.getD []
      reads (.fetchResult v) 0x01 .ok
        ([item1 r.content.kind, item1 r.tag.toNat, item1 r.content.outcome] ++ content ++
          [itemFlag (s.link v.link).running.isSome])) ∧
    ((s.link v.link).result = none →
      reads (.fetchResult v) 0x01 .noResult [itemFlag (s.link v.link).running.isSome])

/-- R173: READ_JOURNAL gives the record held at a position, or the oldest uncollected record, with its standing
and the journal's figures; a position below the oldest held is OVERWRITTEN, one not yet written NOT_WRITTEN, and
with nothing uncollected NONE_UNCOLLECTED; it changes nothing but the link's reply.  R183: a part that the content of
the answer does not have is RANGE.  R174, R176: RELEASE_JOURNAL at or below the mark is ALREADY, above the newest
position RANGE; otherwise the mark moves, the released records leave the uncollected count, and a reserve brought
below 448 lifts curtailment with its notice. -/
def Obligations.JournalReadAndReleased : Prop :=
  (∀ (v : Via) (s : State), s.Ready →
    let reads (name : JournalName) (status : Status) (items : List Item) : Prop :=
      (hasPart v items → exec (.readJournal v (some name)) s = .next (answered v 0x48 status items s)) ∧
      (¬hasPart v items → exec (.readJournal v (some name)) s = .next (answered v 0x48 .range [] s))
    let found (p : Nat) (r : Record) : List Item :=
      r.items ++ [item1 (if p ≤ s.journal.mark then 1 else 2)] ++ journalFigures s
    let missing (reason : Nat) : List Item := item1 reason :: journalFigures s
    (∀ p, 1 ≤ p → p ≤ 4294967295 →
      (∀ r, s.journal.at? p = some r → s.journal.oldest ≤ p → reads (.position p) .ok (found p r)) ∧
      (s.journal.held ≠ [] → p < s.journal.oldest → reads (.position p) .notFound (missing 1)) ∧
      (s.journal.held = [] ∨ s.journal.oldest + s.journal.held.length ≤ p →
        reads (.position p) .notFound (missing 2))) ∧
    (∀ r, s.journal.uncollected ≠ 0 → s.journal.at? (s.journal.mark + 1) = some r →
      reads .oldestUncollected .ok (found (s.journal.mark + 1) r)) ∧
    (s.journal.uncollected = 0 → reads .oldestUncollected .notFound (missing 3))) ∧
  ∀ (v : Via) (p : Nat) (s : State), s.Ready → partNumber v = 0 → (s.perms v.link).collect = true →
    let j := s.journal
    (p ≤ j.mark → exec (.releaseJournal v p) s = .next (answered v 0x49 .already [item4 j.mark] s)) ∧
    (j.mark < p → j.nextPosition - 1 < p → exec (.releaseJournal v p) s = .next (answered v 0x49 .range [] s)) ∧
    (j.mark < p → p ≤ j.nextPosition - 1 →
      let left := j.uncollected - (p - j.mark)
      let content := [item4 p, item2 (p - j.mark), item2 left]
      let released := { s with journal := { j with mark := p, uncollected := left } }
      exec (.releaseJournal v p) s = .next (answered v 0x49 .ok content
        (if left + j.openCount < 448 ∧ s.bay.curtailed = true then
          { released with bay := { s.bay with curtailed := false } }.post
            (.journalHigh false left j.openCount (left + j.openCount))
        else released)))

/-! ## Requests refused and settings written -/

/-- R184, section 10.4: a request that needs a permission is answered NOT_PERMITTED on a link that lacks it,
before every other check, and changes nothing but the link's reply (and, log entry 5, the RESET_KEY level that
RELEASE_TRIP reads). -/
def Obligations.LackingPermissionRefused : Prop :=
  ∀ (i : Instr) (v : Via) (code : Nat) (s : State), s.Ready → viaOf i = some v → requestCode i = some code →
    lacksPermission i s = true →
    exec i s = .next (answered v (BitVec.ofNat 8 code) .notPermitted [] (keyed i s))

/-- R48, R77, R106, R129, R147, R184, R192: a setting in range is written whole and answered OK, and changes
nothing else but what its rule says; one out of range is RANGE and changes nothing.  Log entry 22, the model's
reading (DEDUCED): every SET_STOCK_TIMING taken restarts the stock check timer, with the same period too. -/
def Obligations.SettingsWritten : Prop :=
  ∀ (v : Via) (s : State), s.Ready → partNumber v = 0 →
    (∀ (f : SetPump) (m : PumpId), (s.perms v.link).configure = true → numbered 6 f.pump = some m →
      exec (.setPump v f) s =
        if 1 ≤ f.startTime ∧ f.startTime ≤ 30 ∧ f.holdTime ≤ 600 then
          .next (answered v 0x61 .ok []
            { s with store := { s.store with pumps := put s.store.pumps m ⟨f.startTime, f.holdTime⟩ } })
        else .next (answered v 0x61 .range [] s)) ∧
    (∀ f : SetStockTiming, (s.perms v.link).configure = true →
      exec (.setStockTiming v f) s =
        if 5 ≤ f.checkPeriod ∧ f.checkPeriod ≤ 60 ∧ 10 ≤ f.quietPeriod ∧ f.quietPeriod ≤ 240 then
          .next (answered v 0x65 .ok []
            { s with
              store := { s.store with timing := f }
              stock := { s.stock with checkDue := s.clock + f.checkPeriod * 60000 } })
        else .next (answered v 0x65 .range [] s)) ∧
    (∀ (c : InputClass) (tenths : Nat), (s.perms v.link).configure = true →
      exec (.setDebounce v ⟨some c, tenths⟩) s =
        if 1 ≤ tenths ∧ tenths ≤ 50 then
          .next (answered v 0x66 .ok []
            { s with store := { s.store with debounce := setDebounceTime c tenths s.store.debounce } })
        else .next (answered v 0x66 .range [] s)) ∧
    (∀ (f : SetClass) (c : ClassId), (s.perms v.link).accounts = true → f.klass = c.val →
      exec (.setClass v f) s =
        if f.bandMin ≤ f.bandMax ∧ f.bandMax ≤ 65535 ∧ 1 ≤ f.capacity ∧ f.capacity ≤ 200000 ∧ f.tolerance ≤ 1000 then
          .next (answered v 0x3A .ok []
            { s with accounts := { s.accounts with
              classes := put s.accounts.classes c ⟨f.bandMin, f.bandMax, f.capacity, f.tolerance⟩ } })
        else .next (answered v 0x3A .range [] s)) ∧
    (∀ machine : Nat,
      exec (.setCursor v machine) s =
        if machine ≤ 65534 then
          .next (answered v 0x32 .ok []
            { s with accounts := { s.accounts with cursors := put s.accounts.cursors v.link machine } })
        else .next (answered v 0x32 .range [] s)) ∧
    (∀ (l : Link) (perms : Perms), (s.perms v.link).configure = true →
      exec (.setPermissions v ⟨numberOf l, some perms⟩) s =
        if perms.configure = true ∨ ∃ m, m ≠ l ∧ (s.perms m).configure = true then
          .next (answered v 0x06 .ok []
            { s with store := { s.store with
              links := put s.store.links l { look s.store.links l with perms := perms } } })
        else .next (answered v 0x06 .lastConfigure [] s)) ∧
    (∀ (l : Link) (classes : NoticeClasses) (level : Nat), l = v.link ∨ (s.perms v.link).configure = true →
      exec (.setSubscription v ⟨numberOf l, some classes, level⟩) s =
        if 1 ≤ level ∧ level ≤ 16 then
          .next (answered v 0x04 .ok []
            { s with
              store := { s.store with
                links := put s.store.links l { look s.store.links l with classes := classes, level := level } }
              links := put s.links l
                { s.link l with notice := decide (level ≤ (s.link l).queue.length) } })
        else .next (answered v 0x04 .range [] s))

/-- R18, R87, R2: a point's or an inlet's settings in range are written whole and answered OK when no operation is
open there, a point going to IDLE or DISABLED as it is enabled or not, and (R26) uncoupled when its nozzle line
setting changes; with an operation open the request is POINT_BUSY or INLET_BUSY, and out of range RANGE.  The settings
written are the request's, field by field, and they are written exactly when each is in its range and the linearity
table passes R2. -/
def Obligations.PointAndInletWritten : Prop :=
  ∀ (v : Via) (s : State), s.Ready → partNumber v = 0 → (s.perms v.link).configure = true →
    (∀ (f : SetPoint) (p : PointId) (new : PointSettings), numbered 8 f.point = some p →
      (s.point p).order = none → readPoint f = some new →
      let u := { s.point p with state := if new.enabled then PointState.idle else .disabled }
      exec (.setPoint v f) s = .next (answered v 0x60 .ok []
        { s with
          store := { s.store with points := put s.store.points p new }
          points := put s.points p
            (if (s.pointSet p).nozzleFitted = new.nozzleFitted then u
             else { u with receiver := .uncoupled, identity := none, lineSince := s.clock }) })) ∧
    (∀ (f : SetPoint) (p : PointId), numbered 8 f.point = some p → (s.point p).order.isSome →
      exec (.setPoint v f) s = .next (answered v 0x60 .pointBusy [] s)) ∧
    (∀ (f : SetPoint) (p : PointId), numbered 8 f.point = some p → (s.point p).order = none → readPoint f = none →
      exec (.setPoint v f) s = .next (answered v 0x60 .range [] s)) ∧
    (∀ (f : SetInlet) (i : InletId) (new : InletSettings), numbered 2 f.inlet = some i →
      (s.inlet i).delivery = none → readInlet f = some new →
      exec (.setInlet v f) s = .next (answered v 0x62 .ok []
        { s with store := { s.store with inlets := put s.store.inlets i new } })) ∧
    (∀ (f : SetInlet) (i : InletId), numbered 2 f.inlet = some i → (s.inlet i).delivery.isSome →
      exec (.setInlet v f) s = .next (answered v 0x62 .inletBusy [] s)) ∧
    (∀ (f : SetInlet) (i : InletId), numbered 2 f.inlet = some i → (s.inlet i).delivery = none →
      readInlet f = none → exec (.setInlet v f) s = .next (answered v 0x62 .range [] s)) ∧
    let passes (m : MeterSettings) : Prop :=
      (1000 ≤ m.pulseVolume ∧ m.pulseVolume ≤ 1000000) ∧ m.q1 < m.q2 ∧ m.q2 < m.q3 ∧ m.q3 < m.q4 ∧ m.q4 ≤ 2000 ∧
      ∀ d ∈ [m.d1, m.d2, m.d3, m.d4], -300 ≤ d ∧ d ≤ 300
    (∀ (f : SetPoint) (new : PointSettings), readPoint f = some new ↔
      f.enabled = some new.enabled ∧ f.product = numberOf new.product ∧ f.pump = numberOf new.pump ∧
      f.nozzleFitted = some new.nozzleFitted ∧ f.attendance = some new.attendance ∧
      (f.identTime = new.identTime ∧ 1 ≤ new.identTime ∧ new.identTime ≤ 20) ∧
      (f.maxFlow = new.maxFlow ∧ 10 ≤ new.maxFlow ∧ new.maxFlow ≤ 1500) ∧
      (f.noFlowThreshold = new.noFlowThreshold ∧ 1 ≤ new.noFlowThreshold ∧ new.noFlowThreshold ≤ 200) ∧
      (f.noFlowTime = new.noFlowTime ∧ 2 ≤ new.noFlowTime ∧ new.noFlowTime ≤ 30) ∧
      (f.primeTime = new.primeTime ∧ 2 ≤ new.primeTime ∧ new.primeTime ≤ 60) ∧
      (f.stopAllowance = new.stopAllowance ∧ new.stopAllowance ≤ 200) ∧
      (f.maxOrder = new.maxOrder ∧ 1 ≤ new.maxOrder ∧ new.maxOrder ≤ 20000) ∧
      f.meter = new.meter ∧ passes new.meter) ∧
    ∀ (f : SetInlet) (new : InletSettings), readInlet f = some new ↔
      (∃ tanks, f.reachable = some tanks ∧ new.reachable = allTanks.filter fun k => k ∈ tanks) ∧
      (f.noFlowThreshold = new.noFlowThreshold ∧ 1 ≤ new.noFlowThreshold ∧ new.noFlowThreshold ≤ 200) ∧
      (f.noFlowTime = new.noFlowTime ∧ 2 ≤ new.noFlowTime ∧ new.noFlowTime ≤ 30) ∧
      (f.settleTime = new.settleTime ∧ 1 ≤ new.settleTime ∧ new.settleTime ≤ 30) ∧
      (f.settleStep = new.settleStep ∧ 1 ≤ new.settleStep ∧ new.settleStep ≤ 10) ∧
      f.meter = new.meter ∧ passes new.meter

/-! ## Products, tanks and draw chains (chapter 4) -/

/-- R69, R70: what a chain check does: a draw tank of the chain that is eligible stays; otherwise the next draw
tank is the first eligible tank after it in chain order, wrapping round, or from the chain's start when there
was none or the chain has just been written; a move keeps the old tank as the last draw tank, and a move to
absent hands one exhaustion report with its reason.  Log entry 31, the model's reading (DEDUCED): after a write of the
chain the check starts at the chain's first tank also when the draw tank is present and eligible. -/
def Obligations.ChainCheckMovesDraw : Prop :=
  ∀ (k : ProductId) (fromStart : Bool) (s : State),
    let chain := (s.productSet k).chain
    let t := chainCheck k fromStart s
    (∀ old, (s.draw k).current = some old → fromStart = false → old ∈ chain → s.eligible k old = true → t = s) ∧
    (∀ old, (s.draw k).current = some old → fromStart = false → s.eligible k old = false →
      (t.draw k).current =
        ((chain.dropWhile (· ≠ old)).drop 1 ++ chain.takeWhile (· ≠ old) ++ [old]).find? (s.eligible k)) ∧
    ((s.draw k).current = none ∨ fromStart = true → (t.draw k).current = chain.find? (s.eligible k)) ∧
    (∀ old new, (s.draw k).current = some old → (t.draw k).current = some new → new ≠ old →
      t = ((s.updDraw k fun _ => ⟨some new, some old⟩).post (.drawChanged k (some old) new))) ∧
    (∀ new, (s.draw k).current = none → (t.draw k).current = some new →
      t = ((s.updDraw k fun d => { d with current := some new }).post (.drawChanged k none new))) ∧
    ∀ old, (s.draw k).current = some old → (t.draw k).current = none →
      let reason := if s.stock.tripping then Cause.trip else if s.isWaste k then .wasteFull else .tankEmpty
      let u := (s.updDraw k fun _ => ⟨none, some old⟩).post (.productEmpty k old reason)
      t = { u with stock := { u.stock with reports := s.stock.reports ++ [⟨k, reason⟩] } }

/-- R63, R64, R82: a product record, a tank's settings or its service condition is written and answered OK with the
evaluations and the chain check it calls for; PRODUCT_BUSY or TANK_BUSY while an operation forbids it, and RANGE out
of range.  The model's readings (DEDUCED): log entry 31, the check after a write of chain or kind starts at the
chain's first tank before the row that keeps an eligible draw tank; log entry 23, its exhaustion reports reach no
point; log entry 47, a tank whose only open delivery is SETTLING with net 0 is not busy.  The record written is the
request's, field by field, exactly when each field is in its range: the chain of one to four distinct tanks of the
product, the cuts in their order, the strapping table rising (log entry 18, PRESUMED: the printable characters). -/
def Obligations.ProductAndTankWritten : Prop :=
  ∀ (v : Via) (s : State), s.Ready → partNumber v = 0 →
    (∀ (f : SetProduct) (k : ProductId), (s.perms v.link).configure = true → numbered 8 f.product = some k →
      let old := s.productSet k
      (readProduct k f s = none → exec (.setProduct v f) s = .next (answered v 0x63 .range [] s)) ∧
      ∀ new, readProduct k f s = some new →
        let written := { s with store := { s.store with products := put s.store.products k new } }
        let evaluated :=
          if (old.kind = .waste) ≠ (new.kind = .waste) then
            forEach (allTanks.filter fun t => (s.tankSet t).product = k) evaluateConditions written
          else written
        (old.kind = new.kind → old.chain = new.chain →
          exec (.setProduct v f) s = .next (answered v 0x63 .ok [] written)) ∧
        (old.kind ≠ new.kind ∨ old.chain ≠ new.chain →
          (s.openOnProduct k = true → exec (.setProduct v f) s = .next (answered v 0x63 .productBusy [] s)) ∧
          (s.openOnProduct k = false →
            exec (.setProduct v f) s =
              .next (answered v 0x63 .ok [] (dropReports (chainCheck k true evaluated)))))) ∧
    (∀ (f : SetTank) (t : TankId), (s.perms v.link).configure = true → numbered 12 f.tank = some t →
      (readTankSettings f (s.tankSet t).outOfService = none →
        exec (.setTank v f) s = .next (answered v 0x64 .range [] s)) ∧
      ∀ new, readTankSettings f (s.tankSet t).outOfService = some new →
        if new.product ≠ (s.tankSet t).product ∧ t ∈ (s.productSet (s.tankSet t).product).chain then
          exec (.setTank v f) s = .next (answered v 0x64 .range [] s)
        else if s.tankBusy t then exec (.setTank v f) s = .next (answered v 0x64 .tankBusy [] s)
        else
          exec (.setTank v f) s = .next (answered v 0x64 .ok []
            (handReports (chainCheck new.product false (evaluateConditions t
              { s with store := { s.store with tanks := put s.store.tanks t new } }))))) ∧
    (∀ (t : TankId) (inService : Bool), (s.perms v.link).stock = true →
      let set := s.tankSet t
      let request : SetTankService := ⟨numberOf t, some inService⟩
      if s.tankBusy t then exec (.setTankService v request) s = .next (answered v 0x22 .tankBusy [] s)
      else if set.outOfService = !inService then
        exec (.setTankService v request) s = .next (answered v 0x22 .ok [] s)
      else
        exec (.setTankService v request) s = .next (answered v 0x22 .ok []
          (handReports (chainCheck set.product false
            { s with store := { s.store with
              tanks := put s.store.tanks t { set with outOfService := !inService } } })))) ∧
    (∀ (k : ProductId) (f : SetProduct) (new : ProductSettings), readProduct k f s = some new ↔
      f.kind = some new.kind ∧ (f.beta = new.beta ∧ new.beta ≤ 2000) ∧
      (f.name = new.name ∧ new.name.length ≤ 8 ∧ ∀ c ∈ new.name, 0x20 ≤ c ∧ c ≤ 0x7E) ∧
      f.chain = some (new.chain.map numberOf) ∧ 1 ≤ new.chain.length ∧ new.chain.length ≤ 4 ∧ new.chain.Nodup ∧
      ∀ t ∈ new.chain, (s.tankSet t).product = k) ∧
    ∀ (f : SetTank) (outOfService : Bool) (new : TankSettings), readTankSettings f outOfService = some new ↔
      f.product = numberOf new.product ∧ f.bund = numberOf new.bund ∧ new.outOfService = outOfService ∧
      (f.capacity = new.capacity ∧ 100 ≤ new.capacity ∧ new.capacity ≤ 9999999) ∧
      (f.lowCut = new.lowCut ∧ new.lowCut ≤ new.capacity) ∧
      (f.lowAlarm = new.lowAlarm ∧ new.lowCut ≤ new.lowAlarm ∧ new.lowAlarm ≤ new.capacity) ∧
      (f.highCut = new.highCut ∧ new.lowAlarm < new.highCut ∧ new.highCut ≤ new.capacity) ∧
      (f.hysteresis = new.hysteresis ∧ new.hysteresis ≤ 100000 ∧
        (new.lowCut : Int) + new.hysteresis < (new.highCut : Int) - new.hysteresis) ∧
      (f.tolerance = new.tolerance ∧ 1 ≤ new.tolerance ∧ new.tolerance ≤ 100000) ∧
      (f.leakThreshold = new.leakThreshold ∧ 1 ≤ new.leakThreshold ∧ new.leakThreshold ≤ 100000) ∧
      f.strapping = new.strapping ∧
      (new.strapping.toList.Pairwise fun a b => a.level < b.level ∧ a.volume ≤ b.volume) ∧
      ∀ x ∈ new.strapping.toList, x.level ≤ 65000 ∧ x.volume ≤ 9999999

/-! ## Modes, the clock and shifts (chapter 11) -/

/-- R198: SET_CLOCK sets the offset, the clock-set flag and the next shift start, with one shift change when it
reaches the next start; SET_SHIFT_TABLE writes the table and recomputes the next start; a shift start falls at
its instant, resets every account's shift used and recomputes the next start.  The next shift start is the first
calendar time after the present one whose second falls at the start of a listed minute of day.  Log entry 2, the model's
choice: SHIFT_START brings the clock to its instant (no later instant is undone, and none lies before the epoch). -/
def Obligations.ClockAndShifts : Prop :=
  (∀ (v : Via) (s : State), s.Ready →
    (∀ calendar : Nat, (s.perms v.link).configure = true → calendar ≤ 4294967295 →
      hasPart v [item4 s.calendar, item4 calendar] →
      exec (.setClock v calendar) s = .next (answered v 0x52 .ok [item4 s.calendar, item4 calendar]
        { s with
          bay := { s.bay with
            offset := (calendar : Int) - s.seconds, clockSet := true
            nextShift := nextShiftStart calendar s.store.shifts }
          accounts := if s.bay.nextShift ≤ calendar then
              { s.accounts with
                table := s.accounts.table.map fun a => { a with shiftUsed := 0 }
                lastShiftChange := s.seconds }
            else s.accounts })) ∧
    (∀ table : List Nat, (s.perms v.link).configure = true → partNumber v = 0 →
      exec (.setShiftTable v (some table)) s =
        if 1 ≤ table.length ∧ table.length ≤ 4 ∧ table.Nodup ∧ ∀ m ∈ table, m ≤ 1439 then
          .next (answered v 0x53 .ok []
            { s with
              store := { s.store with shifts := table }
              bay := { s.bay with nextShift := nextShiftStart s.calendar table } })
        else .next (answered v 0x53 .range [] s)) ∧
    let r := s.reach (((s.bay.nextShift : Int) - s.bay.offset).toNat * 1000)
    exec .shiftStart s = .next
      { r with
        accounts := { s.accounts with
          table := s.accounts.table.map fun a => { a with shiftUsed := 0 }
          lastShiftChange := r.seconds }
        bay := { s.bay with nextShift := nextShiftStart r.calendar s.store.shifts } }) ∧
  ∀ (c : Nat) (table : List Nat), table ≠ [] → (∀ m ∈ table, m ≤ 1439) →
    let next := nextShiftStart c table
    c < next ∧ next % 60 = 0 ∧ next / 60 % 1440 ∈ table ∧
    ∀ x, c < x → x < next → x % 60 = 0 → x / 60 % 1440 ∉ table

/-- R195, R197: the table of SET_MODE: what each request does in each mode.  A LOCK that is taken leaves no point
before STOPPING and no delivery before STOPPING; an order that was in PRIMING or FLOWING, or a delivery in RECEIVING,
is STOPPING with its valve closed and cause STOPPED; an operation already STOPPING takes STOPPED as a secondary cause,
ahead of what else the event brings; an order in IDENTIFYING or AWAIT_PUMP and a delivery in AWAIT_COUPLING leave a
record with cause STOPPED; a delivery in SETTLING goes on.  Every change of mode posts BAY_MODE with the mode before
and after and its source.  Log entry 8, the model's choice: LOCK posts it ahead of the notices of what it stops.  Log
entry 16, the model's choice: the BAY_MODE of SET_MODE OPEN in STANDBY names the wake source and not the requesting
link. -/
def Obligations.BayModes : Prop :=
  ∀ (v : Via) (s : State), s.Ready → partNumber v = 0 →
    ((s.perms v.link).dispense = true →
      (s.bay.mode = .open → exec (.setModeOpen v) s = .next (answered v 0x51 .already [] s)) ∧
      (s.bay.mode = .standby →
        exec (.setModeOpen v) s = .next (answered v 0x51 .ok [] (changeMode .open (.setModeOpen v.link) s))) ∧
      (s.bay.mode = .locked → exec (.setModeOpen v) s = .next (answered v 0x51 .bayLocked [] s)) ∧
      (s.bay.mode = .open → s.anyOpen = true ∨ s.pumpsBusy = true →
        exec (.setModeStandby v) s = .next (answered v 0x51 .bayBusy [] s)) ∧
      (s.bay.mode = .open → s.anyOpen = false → s.pumpsBusy = false →
        exec (.setModeStandby v) s =
          .next (answered v 0x51 .ok [] (changeMode .standby (.request v.link) (standbyPumps s)))) ∧
      (s.bay.mode = .standby → exec (.setModeStandby v) s = .next (answered v 0x51 .already [] s)) ∧
      (s.bay.mode = .locked → exec (.setModeStandby v) s = .next (answered v 0x51 .bayLocked [] s))) ∧
    ((s.perms v.link).configure = true →
      (s.bay.mode ≠ .locked → exec (.setModeUnlock v) s = .next (answered v 0x51 .already [] s)) ∧
      (s.bay.mode = .locked →
        exec (.setModeUnlock v) s = .next (answered v 0x51 .ok [] (changeMode .open (.request v.link) s))) ∧
      (s.bay.mode = .locked → exec (.setModeLock v) s = .next (answered v 0x51 .already [] s)) ∧
      (s.bay.mode ≠ .locked → s.UnitsFit →
        ∃ t, exec (.setModeLock v) s = .next (answered v 0x51 .ok [] t) ∧ t.bay.mode = .locked ∧
          (∀ p, (t.point p).state = .disabled ∨ (t.point p).state = .idle ∨ (t.point p).state = .stopping) ∧
          (∀ i, (t.inlet i).state = .idle ∨ (t.inlet i).state = .stopping ∨ (t.inlet i).state = .settling) ∧
          (∀ p, (s.point p).state = .priming ∨ (s.point p).state = .flowing →
            (t.point p).state = .stopping ∧ (t.point p).valve = false ∧
            (t.point p).order.bind Order.termination = some .stopped) ∧
          (∀ i, (s.inlet i).state = .receiving →
            (t.inlet i).state = .stopping ∧ (t.inlet i).valve = false ∧
            (t.inlet i).delivery.bind Delivery.termination = some .stopped) ∧
          (let stopped (termination : Option Cause) (secondaries : List Cause) : List Cause :=
             if termination = some .stopped ∨ .stopped ∈ secondaries ∨ 3 ≤ secondaries.length then secondaries
             else secondaries ++ [.stopped]
           (∀ p o, (s.point p).state = .stopping → (s.point p).order = some o →
             ∃ x, (t.point p).order = some x ∧ x.number = o.number ∧ x.termination = o.termination ∧
               stopped o.termination o.secondaries <+: x.secondaries) ∧
           ∀ i d, (s.inlet i).state = .stopping → (s.inlet i).delivery = some d →
             ∃ x, (t.inlet i).delivery = some x ∧ x.number = d.number ∧ x.termination = d.termination ∧
               stopped d.termination d.secondaries <+: x.secondaries) ∧
          (∀ p o, (s.point p).state = .identifying ∨ (s.point p).state = .awaitPump → (s.point p).order = some o →
            ∃ r, .dispense r ∈ t.journal.held ∧ r.number = o.number ∧ r.point = p ∧ r.termination = .stopped) ∧
          (∀ i d, (s.inlet i).state = .awaitCoupling → (s.inlet i).delivery = some d →
            ∃ r, .delivery r ∈ t.journal.held ∧ r.number = d.number ∧ r.inlet = i ∧ r.termination = .stopped ∧
              r.reconciliation = .notSettled) ∧
          (∀ i d, (s.inlet i).state = .settling → (s.inlet i).delivery = some d →
            ∃ tally, t.inlet i = { s.inlet i with delivery := some { d with tally := tally } }) ∧
          ∀ l, (look s.store.links l).classes.bay = true → (s.link l).queue.length < 16 →
            (t.link l).queue[(s.link l).queue.length]? =
              some ⟨.bayMode s.bay.mode .locked (.request v.link), s.seconds⟩)) ∧
    ∀ new source,
      changeMode new source s =
        ({ s with bay := { s.bay with mode := new } }).post (.bayMode s.bay.mode new source) ∧
      (changeMode new source s).bay = { s.bay with mode := new } ∧
      SameButLinks { s with bay := { s.bay with mode := new } } (changeMode new source s)

/-- R196: in STANDBY each wake moves the mode to OPEN, with its source, before any other part of its event is
taken; in OPEN and in LOCKED the same events leave the mode as it is; and a stop request, a stock report, an
adjustment, a release, a trip or a gauge reading leaves STANDBY as it is.  Log entry 2, the model's choice:
NOZZLE_LINE_HIGH brings the clock to 100 ms after the line's start. -/
def Obligations.WakeSources : Prop :=
  ∀ s : State, s.Ready →
    (∀ v f, s.bay.mode = .standby →
      exec (.openOrder v f) s = exec (.openOrder v f) (changeMode .open (.openOrder v.link) s)) ∧
    (∀ v f, s.bay.mode = .standby →
      exec (.openDelivery v f) s = exec (.openDelivery v f) (changeMode .open (.openDelivery v.link) s)) ∧
    (∀ p, s.bay.mode = .standby → exec (.attend p) s = exec (.attend p) (changeMode .open (.attend p) s)) ∧
    (∀ p, s.bay.mode = .standby → (s.pointSet p).nozzleFitted = true → (s.point p).receiver = .uncoupled →
      exec (.nozzleLineHigh p) s =
        exec (.nozzleLineHigh p) (changeMode .open (.nozzle p) (s.reach ((s.point p).lineSince + 100)))) ∧
    (∀ i, s.bay.mode = .standby → (s.inlet i).coupled = false →
      exec (.inletCoupledActive i) s = exec (.inletCoupledActive i) (changeMode .open (.coupled i) s)) ∧
    (∀ c : Instr, s.bay.mode ≠ .standby →
      ((∃ v f, c = .openOrder v f) ∨ (∃ v f, c = .openDelivery v f) ∨ (∃ p, c = .attend p) ∨
        (∃ p, c = .nozzleLineHigh p) ∨ ∃ i, c = .inletCoupledActive i) →
      ∃ t, exec c s = .next t ∧ t.bay.mode = s.bay.mode) ∧
    ∀ c : Instr, s.bay.mode = .standby →
      ((∃ v f, c = .stopOrder v f) ∨ (∃ v f, c = .stopDelivery v f) ∨ (∃ p, c = .stopBtn p) ∨
        (∃ v k, c = .stockReportNow v k) ∨ (∃ v k, c = .stockReportSettled v k) ∨
        (∃ v t, c = .adjustStockSetToGauge v t) ∨ (∃ v t f, c = .adjustStockDelta v t f) ∨
        (∃ v x key, c = .releaseTrip v x key) ∨ (∃ v p, c = .releaseJournal v p) ∨
        (∃ level, c = .estopChange level) ∨ (∃ x level, c = .lineInputChange x level) ∨
        (∃ x, c = .debounceExpiry x) ∨ ∃ t r, c = .gaugeReading t r) →
      ∃ t, exec c s = .next t ∧ t.bay.mode = .standby

/-! ## Dispense orders (chapter 2) -/

/-- R19, R22, R23, R33, R37, R50, R52, R53, R176: an OPEN_ORDER that passes every check is answered OK with the next
order number.  The order opens with its record, with its hour reading fixed when no nozzle line is fitted, and with its
limit; the point has its metering unit in METERING and the state of its first step: IDENTIFYING with the ident timer,
PRIMING at a pump that runs or holds, AWAIT_PUMP otherwise.  The pump has the claim and does what its state has it do;
the order is counted open and joins its machine's open-order set; a reserve of 480 sets the curtailment flag and posts
JOURNAL_HIGH.  Nothing else of the state changes. -/
def Obligations.OrderOpens : Prop :=
  ∀ (v : Via) (f : OpenOrder) (r : OrderRequest) (s : State), s.Ready → partNumber v = 0 →
    let w := wake (.openOrder v.link) s
    let set := w.pointSet r.point
    let u := w.point r.point
    let m := set.pump
    let pump := w.pump m
    readOrder f = some r → firstFailure (orderChecks v r w) = none →
    let primes : Prop := set.nozzleFitted = false ∧ (pump.state = .running ∨ pump.state = .holding)
    let manual := if set.nozzleFitted = true then none else r.manualHours
    let claimed : PumpUnit :=
      { pump with claims := if r.point ∈ pump.claims then pump.claims else pump.claims ++ [r.point] }
    let pumpAs (x : PumpUnit) : PumpManager := { w.pumps with units := put w.pumps.units m x }
    let reserve := w.journal.uncollected + (w.journal.openCount + 1)
    ∃ t o, exec (.openOrder v f) s = .next (answered v 0x10 .ok [item4 w.journal.nextOrder] t) ∧
      o = { o with
        number := w.journal.nextOrder, openTime := w.seconds, kind := r.kind, product := set.product
        override := r.override, machine := r.machine, preset := r.preset, manualHours := r.manualHours
        hours := manual, hourSource := if manual.isSome then .manual else .none
        readingTime := manual.map fun _ => w.seconds, uncompensated := false, manualId := false
        overrange := false, gross := 0, net := 0, lastTemp := none, entries := [], termination := none
        secondaries := [] } ∧
      (r.machine.isSome ∨ r.kind ≠ .fuel →
        let x := w.limitFor r.point r.kind r.preset r.override (r.machine.bind w.account)
        o.limit = some x.limit ∧ o.limitCause = some x.cause ∧ o.clamped = x.clamped) ∧
      (r.machine = none → r.kind = .fuel → o.limit = none ∧ o.limitCause = none ∧ o.clamped = false) ∧
      t = { w with
        points := put w.points r.point { u with
          order := some o, meter := enterMetering set.meter (w.productSet set.product).beta w.clock
          lowFlow := 0, hoseBreak := 0
          state := if set.nozzleFitted = true then .identifying else if primes then .priming else .awaitPump
          identDue := if set.nozzleFitted = true then some (w.clock + set.identTime * 1000) else none
          valve := if primes then true else u.valve
          primeDue := if primes then some (w.clock + set.primeTime * 1000) else u.primeDue
          attendDue :=
            if primes then (attendanceSeconds set.attendance).map (fun n => w.clock + n * 1000) else u.attendDue }
        pumps := t.pumps, links := t.links
        accounts := { w.accounts with
          table := w.accounts.table.map fun a =>
            if r.machine = some a.machine then { a with openSet := a.openSet ++ [o.number] } else a }
        journal := { w.journal with
          nextOrder := nextCount w.journal.nextOrder, openCount := w.journal.openCount + 1 }
        bay := { w.bay with curtailed := decide (480 ≤ reserve) } } ∧
      t.links =
        (if 480 ≤ reserve then
          (w.post (.journalHigh true w.journal.uncollected (w.journal.openCount + 1) reserve)).links
        else w.links) ∧
      (set.nozzleFitted = true → t.pumps = w.pumps) ∧
      (set.nozzleFitted = false →
        (pump.state = .holding →
          t.pumps = pumpAs { claimed with state := .running, startDue := none, holdDue := none, run := true }) ∧
        (pump.state = .running ∨ pump.state = .starting ∨ pump.state = .queued ∨ pump.state = .faulted →
          t.pumps = pumpAs claimed) ∧
        (pump.state = .off → pump.faultLine = true →
          t.pumps = pumpAs { claimed with state := .faulted, startDue := none, holdDue := none, run := false }) ∧
        (pump.state = .off → pump.faultLine = false →
          let waits := pumpAs { claimed with state := .queued, startDue := none, holdDue := none, run := false }
          (w.pumps.supplyReady = false ∨ (∃ k, (w.pump k).state = .starting) →
            t.pumps = { waits with queue := w.pumps.queue ++ [m] }) ∧
          (w.pumps.supplyReady = true → (∀ k, (w.pump k).state ≠ .starting) →
            ∀ head rest, w.pumps.queue ++ [m] = head :: rest →
              t.pumps = { waits with
                queue := rest
                units := put waits.units head { look waits.units head with
                  state := .starting, startDue := some (w.clock + (w.pumpSet head).startTime * 1000)
                  holdDue := none, run := true } })))

/-- R20, R21: an OPEN_ORDER with a field out of range is RANGE; otherwise the first check of the table that
fails is its reply, and the order is not opened: the request changes nothing but what its wake has changed and
the link's reply.  The request is read exactly when every field is in its range, each field as it was given. -/
def Obligations.OrderRefused : Prop :=
  ∀ (v : Via) (f : OpenOrder) (s : State), s.Ready →
    let w := wake (.openOrder v.link) s
    (∀ r, readOrder f = some r ↔
      f.point = numberOf r.point ∧ f.kind = some r.kind ∧ f.override = some r.override ∧
      (f.machine = r.machine ∧ ∀ n ∈ r.machine, 1 ≤ n ∧ n ≤ 65534) ∧
      (f.preset = r.preset ∧ ∀ n ∈ r.preset, 1 ≤ n ∧ n ≤ 200000) ∧
      (f.manualHours = r.manualHours ∧ ∀ n ∈ r.manualHours, n ≤ 16777215)) ∧
    (readOrder f = none → exec (.openOrder v f) s = .next (answered v 0x10 .range [] w)) ∧
    ∀ r, readOrder f = some r →
      let set := w.pointSet r.point
      let u := w.point r.point
      let kind := (w.productSet set.product).kind
      let account (a : Account) : Option Status :=
        if a.status = .barred then some .accountBarred
        else if a.status.name = .held ∧ r.override = false then some .accountHeld
        else if 3 ≤ a.openSet.length ∨ ∃ n ∈ a.openSet, w.productOfOrder n = some set.product then
          some .machineInUse
        else if r.kind = .fuel ∧ a.allowance ≠ 0 ∧ a.allowance ≤ a.shiftUsed ∧ r.override = false then
          some .allowanceSpent
        else none
      let refusal : Option Status :=
        if (w.perms v.link).dispense = false ∨ r.override = true ∧ (w.perms v.link).override = false then
          some .notPermitted
        else if w.bay.mode = .locked then some .bayLocked
        else if w.bay.curtailed = true then some .journalFull
        else if u.state = .disabled then some .pointDisabled
        else if u.state ≠ .idle then some .pointBusy
        else if w.isSet (.point r.point) = true ∨ w.isSet .bay = true then some .tripped
        else if (r.kind = .fuel ∧ kind ≠ .fuel) ∨ (r.kind = .waste ∧ kind ≠ .waste) ∨
            ((r.kind = .service ∨ r.kind = .topup) ∧ kind ≠ .lube ∧ kind ≠ .coolant) then
          some .kindMismatch
        else if (w.draw set.product).current = none then some .productEmpty
        else match r.machine with
          | none => if r.kind ≠ .waste ∧ set.nozzleFitted = false then some .unknownMachine else none
          | some machine => match w.account machine with
            | none => some .unknownMachine
            | some a => account a
      firstFailure (orderChecks v r w) = refusal ∧
      ∀ st, refusal = some st → exec (.openOrder v f) s = .next (answered v 0x10 st [] w)

/-- R26, R34, R37 to R40: a stop request, a press of STOP_BTN, the prime timer, the attendance timer or a break
that uncouples the nozzle puts an order in PRIMING or FLOWING into STOPPING with its cause: the valve closed,
the prime and attendance timers stopped, the stop timer started, and nothing else changed but the clock, which the row
of a timer brings to the timer's instant (log entry 2, the model's choice).  An order already
STOPPING takes the cause as a secondary and stays as it is; a point with no order takes nothing.  R42: a secondary
cause is none that the operation already holds, they stand in arrival order, and they are at most three. -/
def Obligations.StopEventsAtPoints : Prop :=
  (∀ (p : PointId) (s : State), s.Ready →
    let into (c : Cause) (s : State) : State :=
      { s with points := put s.points p { s.point p with
          state := .stopping, valve := false, primeDue := none, attendDue := none
          stopDue := some (s.clock + 5000), stoppingAt := s.clock, lowFlow := 0
          order := (s.point p).order.map fun o => { o with termination := some c } } }
    let adds (c : Cause) (s : State) : State :=
      { s with points := put s.points p { s.point p with
          order := (s.point p).order.map fun o =>
            { o with secondaries := addCause o.termination o.secondaries c } } }
    let loose : State :=
      { s with points := put s.points p { s.point p with
          receiver := .uncoupled, identity := none, lineSince := s.clock } }
    ((s.point p).state = .priming ∨ (s.point p).state = .flowing →
      exec (.stopBtn p) s = .next (into .stopped s) ∧
      (∀ v o, partNumber v = 0 → (s.perms v.link).dispense = true → (s.point p).order = some o →
        exec (.stopOrder v ⟨numberOf p, o.number⟩) s = .next (answered v 0x11 .ok [] (into .stopped s))) ∧
      (∀ due, (s.point p).primeDue = some due →
        exec (.primeTimerExpiry p) s = .next (into .noFlowStart (s.reach due))) ∧
      (∀ due, (s.point p).attendDue = some due →
        exec (.attendanceTimerExpiry p) s = .next (into .attendanceLapsed (s.reach due))) ∧
      ((s.pointSet p).nozzleFitted = true → (s.point p).receiver ≠ .uncoupled →
        exec (.nozzleBreak p) s = .next (into .uncoupled loose))) ∧
    ((s.point p).state = .stopping →
      exec (.stopBtn p) s = .next (adds .stopped s) ∧
      (∀ v o, partNumber v = 0 → (s.perms v.link).dispense = true → (s.point p).order = some o →
        exec (.stopOrder v ⟨numberOf p, o.number⟩) s =
          .next (answered v 0x11 .alreadyStopping [] (adds .stopped s))) ∧
      ((s.pointSet p).nozzleFitted = true → (s.point p).receiver ≠ .uncoupled →
        exec (.nozzleBreak p) s = .next (adds .uncoupled loose))) ∧
    ((s.point p).state = .idle ∨ (s.point p).state = .disabled → exec (.stopBtn p) s = .next s) ∧
    ((s.pointSet p).nozzleFitted = true → (s.point p).receiver = .uncoupled →
      exec (.nozzleBreak p) s = .next loose) ∧
    (∀ v n, (s.perms v.link).dispense = true → (∀ o ∈ (s.point p).order, o.number ≠ n) →
      exec (.stopOrder v ⟨numberOf p, n⟩) s = .next (answered v 0x11 .noOrder [] s))) ∧
  ∀ (termination : Option Cause) (secondaries : List Cause) (c : Cause),
    (termination = some c ∨ c ∈ secondaries → addCause termination secondaries c = secondaries) ∧
    (termination ≠ some c → c ∉ secondaries → secondaries.length < 3 →
      addCause termination secondaries c = secondaries ++ [c]) ∧
    (3 ≤ secondaries.length → addCause termination secondaries c = secondaries) ∧
    (secondaries.Nodup → (∀ x ∈ termination, x ∉ secondaries) →
      (addCause termination secondaries c).Nodup ∧ ∀ x ∈ termination, x ∉ addCause termination secondaries c)

/-- R32, R33, R44: an order in IDENTIFYING or AWAIT_PUMP whose window holds nothing closes at once on a press of
STOP_BTN, on STOP_ORDER, on a break that uncouples its nozzle, by a line input that trips its point's latch, and by
ESTOP; in IDENTIFYING by NO_IDENT when its ident timer runs out and it can name no machine.  Its record goes to the
journal with its running figures and that cause, the reserve passes from open to uncollected, the point returns to
IDLE with its metering unit IDLE and its pump released, and no other point, no inlet and no tank changes (ESTOP stops
the other operations too).  The other causes that close such an order stand where their events do: SET_MODE LOCK in
`BayModes`, a refused identity in `Identification`, the fault of its pump in `PumpEvents`, and an exhaustion report
in `AdjustmentTaken`, `PointWindows`, `InletWindows` and `GaugesAndStockChecks`.  Log entry 2, the model's choice: the rows of the
ident timer and of a debounce timer bring the clock, and so the close time, to the timer's instant. -/
def Obligations.OrdersCloseAtOnce : Prop :=
  ∀ (p : PointId) (o : Order) (s : State), s.Ready → s.stock.tripping = false → (s.point p).order = some o →
    (s.point p).meter.CountedNothing →
    ((s.point p).state = .identifying ∨ (s.point p).state = .awaitPump →
      (∃ t, exec (.stopBtn p) s = .next t ∧ s.OrderClosed p o .stopped t) ∧
      (∀ v, partNumber v = 0 → (s.perms v.link).dispense = true →
        ∃ t, exec (.stopOrder v ⟨numberOf p, o.number⟩) s = .next (answered v 0x11 .ok [] t) ∧
          s.OrderClosed p o .stopped t) ∧
      ((s.pointSet p).nozzleFitted = true → (s.point p).receiver ≠ .uncoupled →
        ∃ t, exec (.nozzleBreak p) s = .next t ∧ s.OrderClosed p o .uncoupled t ∧
          (t.point p).receiver = .uncoupled ∧ (t.point p).identity = none ∧ (t.point p).lineSince = s.clock) ∧
      (∀ (x : DebouncedInput) (due : Nat), x = .drip p ∨ x = .overpress p → (s.debounced x).due = some due →
        (s.debounced x).settled ≠ .active → (s.debounced x).level = true → s.isBypassed x = false →
        ∃ t, exec (.debounceExpiry x) s = .next t ∧ (s.reach due).OrderClosed p o .trip t ∧
          (t.latch (.point p)).state = .tripped) ∧
      (s.shutdown.estop.level = false →
        ∃ t, exec (.estopChange true) s = .next t ∧ (t.point p).state = .idle ∧ (t.point p).order = none ∧
          (t.point p).valve = false ∧ (t.point p).meter = .idle ∧ t.HoldsRecord p o .trip)) ∧
    ((s.point p).state = .identifying → o.machine = none → o.kind ≠ .waste →
      ∀ due, (s.point p).identDue = some due →
        ∃ t, exec (.identTimerExpiry p) s = .next t ∧ (s.reach due).OrderClosed p o .noIdent t)

/-- R27 to R31, R37: identification.  A complete message that names the order's own machine takes its hour
reading and claims the pump, and one that names another closes the order ID_MISMATCH.  An order with no machine takes
the message's, by checks 9 to 13 of R21: the first that fails closes it with that cause; otherwise it joins the
account's open-order set, its limit is fixed where none was, and it claims the pump.  Log entry 17, the model's
choice: the record of an order so refused carries the message's machine.  The ident timer of an order with a machine
goes on by hand, that of a WASTE order without one goes on as it is; a press of ATTEND restarts the attendance timer
of an order that flows; a nozzle line high for 100 ms couples the receiver.  Log entry 2, the model's choice:
NOZZLE_LINE_HIGH brings the clock to the end of those 100 ms. -/
def Obligations.Identification : Prop :=
  ∀ (p : PointId) (s : State), s.Ready →
    let claims (t : State) : Prop :=
      (t.point p).identDue = none ∧ ((t.point p).state = .awaitPump ∨ (t.point p).state = .priming) ∧
      p ∈ (t.pump (s.pointSet p).pump).claims
    (∀ (f : NozzleFrame) (r : Receiver), receive (s.point p).receiver f = (r, none) →
      exec (.nozzleFrame p f) s = .next { s with points := put s.points p { s.point p with receiver := r } }) ∧
    (∀ (f : NozzleFrame) (message : List Byte), receive (s.point p).receiver f = (.sleeping, some message) →
      (identityOf message s.seconds = none →
        exec (.nozzleFrame p f) s =
          .next { s with points := put s.points p { s.point p with receiver := .sleeping } }) ∧
      ∀ x, identityOf message s.seconds = some x →
        ∃ t, exec (.nozzleFrame p f) s = .next t ∧ (t.point p).identity = some x ∧
          (t.point p).receiver = .sleeping ∧
          ((s.point p).state ≠ .identifying ∨ (s.point p).order = none →
            t = { s with points := put s.points p { s.point p with receiver := .sleeping, identity := some x } }) ∧
          ∀ o, (s.point p).state = .identifying → (s.point p).order = some o →
            let named : Order :=
              { o with
                machine := some x.machine, hours := some x.hours, hourSource := .ident
                readingTime := some x.time }
            let refusal : Option Cause :=
              match s.account x.machine with
              | none => some .unknownMachine
              | some a =>
                if a.status = .barred then some .accountBarred
                else if a.status.name = .held ∧ o.override = false then some .accountHeld
                else if 3 ≤ a.openSet.length ∨ ∃ n ∈ a.openSet, s.productOfOrder n = some o.product then
                  some .machineInUse
                else if o.kind = .fuel ∧ a.allowance ≠ 0 ∧ a.allowance ≤ a.shiftUsed ∧ o.override = false then
                  some .allowanceSpent
                else none
            (o.machine = some x.machine →
              (t.point p).order = some named ∧ claims t ∧ t.accounts = s.accounts) ∧
            (∀ machine, o.machine = some machine → machine ≠ x.machine → (s.point p).meter.CountedNothing →
              s.OrderClosed p o .idMismatch t) ∧
            (∀ c, o.machine = none → refusal = some c → (s.point p).meter.CountedNothing →
              s.OrderClosed p { o with machine := some x.machine } c t ∧
              ((∀ a, s.account x.machine = some a → o.number ∉ a.openSet) → t.accounts = s.accounts)) ∧
            (∀ a, o.machine = none → refusal = none → s.account x.machine = some a →
              let l := s.limitFor p o.kind o.preset o.override (some a)
              (t.point p).order = some
                (if o.limit = none then
                  { named with limit := some l.limit, limitCause := some l.cause, clamped := l.clamped }
                else named) ∧
              claims t ∧ t.account x.machine = some { a with openSet := a.openSet ++ [o.number] } ∧
              ∀ other, other ≠ x.machine → t.account other = s.account other)) ∧
    (∀ o due, (s.point p).state = .identifying → (s.point p).order = some o → (s.point p).identDue = some due →
      (o.machine.isSome →
        ∃ t, exec (.identTimerExpiry p) s = .next t ∧
          (t.point p).order = some
            { o with
              manualId := true, hours := o.manualHours
              hourSource := if o.manualHours.isSome then .manual else .none
              readingTime := o.manualHours.map fun _ => o.openTime } ∧
          claims t) ∧
      (o.machine = none → o.kind = .waste →
        ∃ t, exec (.identTimerExpiry p) s = .next t ∧ (t.point p).order = some o ∧ claims t)) ∧
    (s.bay.mode ≠ .standby → ∀ seconds, attendanceSeconds (s.pointSet p).attendance = some seconds →
      (s.point p).state = .priming ∨ (s.point p).state = .flowing →
      exec (.attend p) s = .next
        { s with points := put s.points p { s.point p with attendDue := some (s.clock + seconds * 1000) } }) ∧
    (s.bay.mode ≠ .standby → (s.point p).state ≠ .priming → (s.point p).state ≠ .flowing →
      exec (.attend p) s = .next s) ∧
    (s.bay.mode ≠ .standby → (s.pointSet p).nozzleFitted = true → (s.point p).receiver = .uncoupled →
      let r := s.reach ((s.point p).lineSince + 100)
      exec (.nozzleLineHigh p) s =
        .next { r with points := put s.points p { s.point p with receiver := .sleeping } })

/-- R25, R27, R28: the nozzle receiver: what each frame makes of each state, and which messages are valid. -/
def Obligations.NozzleReceiver : Prop :=
  ∀ f : NozzleFrame,
    let good : Bool := isGoodNozzleFrame f
    (good = true ↔
      (((List.range 8).filter f.data.getLsbD).length + f.mark.toNat + f.parity.toNat) % 2 = 0 ∧ f.stop = true) ∧
    receive .uncoupled f = (.uncoupled, none) ∧
    receive .sleeping f =
      (if good = true ∧ f.mark = true ∧ f.data = 0x31 then .collecting [] else .sleeping, none) ∧
    ∀ message : List Byte,
      (good = false → receive (.collecting message) f = (.sleeping, none)) ∧
      (good = true → f.mark = true →
        receive (.collecting message) f = (if f.data = 0x31 then .collecting [] else .sleeping, none)) ∧
      (good = true → f.mark = false → message.length < 5 →
        receive (.collecting message) f = (.collecting (message ++ [f.data]), none)) ∧
      (good = true → f.mark = false → 5 ≤ message.length →
        receive (.collecting message) f = (.sleeping, some (message ++ [f.data]))) ∧
      ∀ (a b c d e g : Byte) (now : Nat), message = [a, b, c, d, e, g] →
        identityOf message now =
          if (a.toNat + b.toNat + c.toNat + d.toNat + e.toNat + g.toNat) % 256 = 0 ∧
              1 ≤ a.toNat * 256 + b.toNat ∧ a.toNat * 256 + b.toNat ≤ 65534 then
            some ⟨a.toNat * 256 + b.toNat, (c.toNat * 256 + d.toNat) * 256 + e.toNat, now⟩
          else none

/-! ## Deliveries (chapter 5) -/

/-- R88 to R90: an OPEN_DELIVERY that passes every check is answered OK with the next order number; the delivery opens
with its record and its metering unit, RECEIVING when the hose is coupled and AWAIT_COUPLING otherwise, and its tank
is RECEIVING.  Its figures, its flags, its tally and the inlet's counts start at 0 with flow not begun; the product
has the chain check that the flag calls for (R73, R69), with its exhaustion reports handed; a reserve of 480 sets the
curtailment flag and posts JOURNAL_HIGH (R176); and nothing else changes.  With no order open on the product, no point
changes and one operation more is open.  R100, section 5.9 and log entry 26, the model's reading (DEDUCED): the
delivery is shared exactly when another one, in SETTLING too, is open on its tank. -/
def Obligations.DeliveryOpens : Prop :=
  ∀ (v : Via) (f : OpenDelivery) (r : DeliveryRequest) (s : State), s.Ready → partNumber v = 0 →
    let w := wake (.openDelivery v.link) s
    let u := w.inlet r.inlet
    readDelivery f = some r → firstFailure (deliveryChecks v r w) = none →
    ∃ t d, exec (.openDelivery v f) s = .next (answered v 0x18 .ok [item4 w.journal.nextOrder] t) ∧
      (t.inlet r.inlet).delivery = some d ∧
      d.number = w.journal.nextOrder ∧ d.openTime = w.seconds ∧ d.tank = r.tank ∧ d.product = r.product ∧
      d.tanker = r.tanker ∧ d.declared = r.declared ∧ d.link = v.link ∧ d.before = (w.tank r.tank).gauged ∧
      d.net = 0 ∧ d.holdsFlag = true ∧ d.extensions = 0 ∧ d.termination = none ∧ d.secondaries = [] ∧
      (d.shared = true ↔ ∃ j e, j ≠ r.inlet ∧ (w.inlet j).delivery = some e ∧ e.tank = r.tank) ∧
      t.receiving r.tank = true ∧
      (t.inlet r.inlet).state = (if u.coupled then .receiving else .awaitCoupling) ∧
      (t.inlet r.inlet).valve = u.coupled ∧ (t.inlet r.inlet).coupled = u.coupled ∧
      (t.inlet r.inlet).meter =
        enterMetering (w.inletSet r.inlet).meter (w.productSet r.product).beta w.clock ∧
      t.journal.nextOrder = nextCount w.journal.nextOrder ∧ t.shutdown = w.shutdown ∧ t.store = w.store ∧
      ((∀ p, ∀ o ∈ (w.point p).order, o.product ≠ r.product) →
        t.points = w.points ∧ t.journal.openCount = w.journal.openCount + 1 ∧
        t.journal.uncollected = w.journal.uncollected) ∧
      (let meter := enterMetering (w.inletSet r.inlet).meter (w.productSet r.product).beta w.clock
       let begun : Delivery :=
         { number := w.journal.nextOrder, openTime := w.seconds, tank := r.tank, product := r.product
           tanker := r.tanker, declared := r.declared, link := v.link, before := (w.tank r.tank).gauged, gross := 0
           net := 0, lastTemp := none, uncompensated := false, overrange := false, shared := d.shared
           holdsFlag := true, tally := 0, extensions := 0, termination := none, secondaries := [] }
       let opened : InletUnit :=
         { state := if u.coupled then .receiving else .awaitCoupling, valve := u.coupled, delivery := some begun
           stopDue := none, settleDue := none, stoppingAt := 0, stopRequestAt := none, flowBegun := false, lowFlow := 0
           meter := meter, coupled := u.coupled }
       let other (x : InletUnit) : InletUnit :=
         if d.shared then { x with delivery := x.delivery.map fun e => { e with shared := true } } else x
       let reserve := w.journal.uncollected + (w.journal.openCount + 1)
       let checked := chainCheck r.product false
         { w with
           inlets := Vector.ofFn fun j => if j = r.inlet then opened else other (w.inlet j)
           journal := { w.journal with
             nextOrder := nextCount w.journal.nextOrder, openCount := w.journal.openCount + 1 } }
       let curtailed :=
         if 480 ≤ reserve then
           ({ checked with bay := { checked.bay with curtailed := true } }).post
             (.journalHigh true w.journal.uncollected (w.journal.openCount + 1) reserve)
         else checked
       t = handReports curtailed ∧ (curtailed.stock.reports = [] → t = curtailed))

/-- R89: an OPEN_DELIVERY with a field out of range is RANGE; otherwise the first check that fails is its reply,
and nothing changes but what its wake has changed and the link's reply.  The request is read exactly when every field is
in its range, each field as it was given (log entry 18, PRESUMED: the printable characters). -/
def Obligations.DeliveryRefused : Prop :=
  ∀ (v : Via) (f : OpenDelivery) (s : State), s.Ready →
    let w := wake (.openDelivery v.link) s
    (∀ r, readDelivery f = some r ↔
      f.inlet = numberOf r.inlet ∧ f.tank = numberOf r.tank ∧ f.product = numberOf r.product ∧
      (f.tanker = r.tanker ∧ 1 ≤ r.tanker.length ∧ r.tanker.length ≤ 12 ∧ ∀ c ∈ r.tanker, 0x20 ≤ c ∧ c ≤ 0x7E) ∧
      (f.declared = r.declared ∧ ∀ n ∈ r.declared, 1 ≤ n ∧ n ≤ 9999999)) ∧
    (readDelivery f = none → exec (.openDelivery v f) s = .next (answered v 0x18 .range [] w)) ∧
    ∀ r, readDelivery f = some r →
      let set := w.tankSet r.tank
      let refusal : Option Status :=
        if (w.perms v.link).stock = false then some .notPermitted
        else if w.bay.mode = .locked then some .bayLocked
        else if w.bay.curtailed = true then some .journalFull
        else if (w.inlet r.inlet).state ≠ .idle then some .inletBusy
        else if r.tank ∉ (w.inletSet r.inlet).reachable then some .notReachable
        else if r.product ≠ set.product ∨ (w.productSet r.product).kind = .waste then some .productMismatch
        else if set.outOfService = true ∨ w.isSet (.bund set.bund) = true ∨
            (w.tank r.tank).rebasePending = true ∨ microlitres set.highCut ≤ (w.tank r.tank).book then
          some .tankUnavailable
        else if w.isSet .bay = true then some .tripped
        else none
      firstFailure (deliveryChecks v r w) = refusal ∧
      ∀ st, refusal = some st → exec (.openDelivery v f) s = .next (answered v 0x18 st [] w)

/-- R91, R94 to R97, R99: a STOP_DELIVERY or an uncoupling puts a delivery in RECEIVING into STOPPING with its cause,
the valve closed and the stop timer started; one already STOPPING takes the cause as a secondary; a stop in SETTLING
cuts the settle, and one in AWAIT_COUPLING closes the delivery at once.  A hose coupled in AWAIT_COUPLING starts
RECEIVING with the valve open, below the high cut, and closes the delivery at once with HIGH_LEVEL when the book or
the gauged net is at or above it.  A delivery that closes so, from AWAIT_COUPLING, is not reconciled, for NOT_SETTLED,
and one cut in its settle for SETTLE_CUT.  Log entry 13, the model's reading (DEDUCED): the inlet keeps the instant of
the STOP_DELIVERY that stopped it. -/
def Obligations.DeliveryStopsAndCouples : Prop :=
  ∀ (i : InletId) (d : Delivery) (s : State), s.Ready → (s.inlet i).delivery = some d →
    let u := s.inlet i
    let into (c : Cause) (coupled : Bool) (at' : Option Nat) : State :=
      { s with inlets := put s.inlets i { u with
          state := .stopping, valve := false, stopDue := some (s.clock + 5000), stoppingAt := s.clock
          stopRequestAt := at', coupled := coupled, delivery := some { d with termination := some c } } }
    let adds (c : Cause) (coupled : Bool) : State :=
      { s with inlets := put s.inlets i { u with
          coupled := coupled
          delivery := some { d with secondaries := addCause d.termination d.secondaries c } } }
    let closed (cause : Cause) (reason : Reconciliation) (t : State) : Prop :=
      (t.inlet i).state = .idle ∧ (t.inlet i).delivery = none ∧ (t.inlet i).valve = false ∧
      (t.inlet i).meter = .idle ∧
      ∃ r, .delivery r ∈ t.journal.held ∧ r.number = d.number ∧ r.position = s.journal.nextPosition ∧
        r.termination = cause ∧ r.secondaries = d.secondaries ∧ r.reconciliation = reason ∧ r.net = d.net ∧
        r.after = none ∧ r.variance = none ∧
        r.docketVariance = d.declared.map (fun x => decilitres d.net - x)
    (∀ v, partNumber v = 0 → (s.perms v.link).stock = true →
      (u.state = .receiving → exec (.stopDelivery v ⟨numberOf i, d.number⟩) s =
        .next (answered v 0x19 .ok [] (into .stopped u.coupled (some s.clock)))) ∧
      (u.state = .stopping → exec (.stopDelivery v ⟨numberOf i, d.number⟩) s =
        .next (answered v 0x19 .alreadyStopping [] (adds .stopped u.coupled))) ∧
      (u.state = .settling → d.holdsFlag = false →
        ∃ t, exec (.stopDelivery v ⟨numberOf i, d.number⟩) s = .next (answered v 0x19 .ok [] t) ∧
          closed (d.termination.getD .stopped) .settleCut t) ∧
      (u.state = .awaitCoupling → u.meter.CountedNothing →
        ∃ t, exec (.stopDelivery v ⟨numberOf i, d.number⟩) s = .next (answered v 0x19 .ok [] t) ∧
          closed .stopped .notSettled t)) ∧
    (∀ v n, (s.perms v.link).stock = true → n ≠ d.number →
      exec (.stopDelivery v ⟨numberOf i, n⟩) s = .next (answered v 0x19 .noDelivery [] s)) ∧
    (u.coupled = true →
      (u.state = .receiving → exec (.inletCoupledInactive i) s = .next (into .uncoupled false none)) ∧
      (u.state = .stopping → exec (.inletCoupledInactive i) s = .next (adds .uncoupled false)) ∧
      (u.state = .awaitCoupling ∨ u.state = .settling →
        exec (.inletCoupledInactive i) s =
          .next { s with inlets := put s.inlets i { u with coupled := false } })) ∧
    (u.coupled = false → s.bay.mode ≠ .standby → u.state = .awaitCoupling →
      (s.tank d.tank).book < microlitres (s.tankSet d.tank).highCut →
      (∀ g ∈ (s.tank d.tank).gauged, g < (s.tankSet d.tank).highCut) →
      exec (.inletCoupledActive i) s =
        .next { s with inlets := put s.inlets i { u with
          coupled := true, state := .receiving, valve := true } }) ∧
    (u.coupled = false → s.bay.mode ≠ .standby → u.state = .awaitCoupling → u.meter.CountedNothing →
      microlitres (s.tankSet d.tank).highCut ≤ (s.tank d.tank).book ∨
        (∃ g ∈ (s.tank d.tank).gauged, ((s.tankSet d.tank).highCut : Int) ≤ g) →
      ∃ t, exec (.inletCoupledActive i) s = .next t ∧ closed .highLevel .notSettled t ∧
        (t.inlet i).coupled = true)

/-! ## Stock adjustments (section 4.8) -/

/-- R80, R81, R66, R69: an adjustment that passes its checks changes the book by its change, evaluates the tank's
conditions, restarts its quiet window, recomputes the variance and clears REBASED, with a chain check of the product
when a condition has moved; no other tank and no inlet changes; it takes an order number and writes one record with
one entry equal to its change.  R70, R32, R33, R39: a product that the check leaves with no draw tank is reported
exhausted to every point with an order on it (none that waits has counted anything).  Log entry 49, the model's
choice: the adjustment's record comes before those of the orders that the report closes.  With no order
closed by it a reserve that reaches 480 sets the curtailment flag (R176), the links change by the notices alone, and
nothing else changes.  Log entry 47, the model's reading (DEDUCED): a tank whose only open delivery is SETTLING with net
0 is not busy.  R80: the refusals of both forms in their order. -/
def Obligations.AdjustmentTaken : Prop :=
  ∀ (v : Via) (t : TankId) (s : State), s.Ready → partNumber v = 0 → (s.perms v.link).stock = true →
    let x := s.tank t
    let product := (s.tankSet t).product
    let content := [item4 s.journal.nextOrder, item4 s.journal.nextPosition]
    let taken (form : AdjustForm) (change : Int) (u : State) : Prop :=
      u.tank t = { s.posted t change with
        rebased := false, variance := x.gauged.map (fun g => g - decilitres (x.book + change)) } ∧
      (s.posted t change).book = x.book + change ∧
      (∀ other, other ≠ t → u.tank other = s.tank other) ∧ (∀ j, u.draw j = s.drawPosted t change j) ∧
      u.stock.reports = [] ∧
      (∃ r, .adjustment r ∈ u.journal.held ∧ r.number = s.journal.nextOrder ∧
        r.position = s.journal.nextPosition ∧ r.tank = t ∧ r.product = product ∧ r.form = form ∧
        r.change = change ∧ r.changeDl = decilitres change ∧ r.bookBefore = x.book ∧
        r.bookAfter = x.book + change ∧ r.gaugedUsed = x.gauged ∧ r.link = v.link ∧ r.time = s.seconds ∧
        (¬s.exhausts t change → u.journal.held.getLast? = some (.adjustment r))) ∧
      u.journal.nextOrder = nextCount s.journal.nextOrder ∧ u.journal.mark = s.journal.mark ∧
      u.inlets = s.inlets ∧ u.shutdown = s.shutdown ∧ u.store = s.store ∧ u.clock = s.clock ∧ u.pending = s.pending ∧
      u.bay = { s.bay with curtailed := u.bay.curtailed } ∧
      u.stock = { s.stock with tanks := u.stock.tanks, draws := u.stock.draws } ∧
      (¬s.exhausts t change →
        u = { s with stock := u.stock, journal := u.journal, bay := u.bay, links := u.links } ∧
        u.bay.curtailed = decide (480 ≤ s.journal.uncollected + s.journal.openCount + 1) ∧
        u.journal.nextPosition = s.journal.nextPosition + 1 ∧
        u.journal.uncollected = s.journal.uncollected + 1 ∧ u.journal.openCount = s.journal.openCount ∧
        u.journal.held.dropLast =
          (if s.journal.held.length < Config.journalSlots then s.journal.held else s.journal.held.drop 1) ∧
        ∀ l, u.link l = { s.link l with
          queue := (u.link l).queue, overflow := (u.link l).overflow, notice := (u.link l).notice }) ∧
      (s.exhausts t change → ∀ q,
        if ∃ o ∈ (s.point q).order, o.product = product then s.ReportTaken q (s.emptyReason product) u
        else u.point q = s.point q)
    let free : Prop := s.bay.curtailed = false ∧ s.tankBusy t = false ∧ x.rebasePending = false ∧
      s.stock.tripping = false ∧ s.WaitersCountedNothing
    (∀ g, free → x.gauge = .good ∨ x.gauge = .held → x.gauged = some g →
      ∃ u, exec (.adjustStockSetToGauge v (numberOf t)) s = .next (answered v 0x21 .ok content u) ∧
        taken .setToGauge (g * 100000 - x.book) u) ∧
    (∀ f : AdjustDelta, free → f.amount.natAbs ≤ 9999999 → f.reason ≤ 15 →
      ∃ u, exec (.adjustStockDelta v (numberOf t) f) s = .next (answered v 0x21 .ok content u) ∧
        taken (.delta f) (f.amount * 100000) u) ∧
    (∀ f : AdjustDelta, 9999999 < f.amount.natAbs ∨ 15 < f.reason →
      exec (.adjustStockDelta v (numberOf t) f) s = .next (answered v 0x21 .range [] s)) ∧
    (∀ (i : Instr) (setsToGauge : Bool),
      (i = .adjustStockSetToGauge v (numberOf t) ∧ setsToGauge = true) ∨
        (∃ f : AdjustDelta, i = .adjustStockDelta v (numberOf t) f ∧ setsToGauge = false ∧
          f.amount.natAbs ≤ 9999999 ∧ f.reason ≤ 15) →
      (s.bay.curtailed = true → exec i s = .next (answered v 0x21 .journalFull [] s)) ∧
      (s.bay.curtailed = false → s.tankBusy t = true → exec i s = .next (answered v 0x21 .tankBusy [] s)) ∧
      (s.bay.curtailed = false → s.tankBusy t = false →
        x.rebasePending = true ∨ setsToGauge = true ∧ (x.gauge = .fault ∨ x.gauge = .waiting) →
        exec i s = .next (answered v 0x21 .noGauge [] s)))

/-! ## Accounts (chapters 6 and 7) -/

/-- R108, R109, R141, R130: ADD_ACCOUNT inserts the record in its place with its class, status, allowance, action
and lines as given and the values of its table, and posts the notices of its lines; DELETE_ACCOUNT removes a record with
no open order and is deferred otherwise, in its place and with its own link as the source when a delete waits already;
READ_NEXT_ACCOUNT gives the first account above the cursor, or the last one marked END, and moves the cursor.  R105:
the record is made exactly when every field is in its range, each field as it was given; its lines are then evaluated
from OK. -/
def Obligations.AccountsAddedAndDeleted : Prop :=
  (∀ (f : AddAccount) (now : Nat) (a : Account), newAccount f now = some a ↔
    (f.machine = a.machine ∧ 1 ≤ a.machine ∧ a.machine ≤ 65534) ∧ f.klass = a.klass.val ∧
    (f.status = some a.status.name ∧ ∀ reason, a.status = .held reason → reason = .link) ∧
    (f.allowance = a.allowance ∧ a.allowance ≤ 200000) ∧ f.action = some a.action ∧
    (f.lines = some (a.lines.map fun l => ⟨numberOf l.product, l.interval, l.lastService⟩) ∧ a.lines.length ≤ 4 ∧
      ∀ l ∈ a.lines, 1 ≤ l.interval ∧ l.interval ≤ 10000 ∧ l.lastService ≤ 9999999 ∧ l.topUp = 0 ∧ l.state = .ok) ∧
    (a.hourMeter = f.hourMeter.map (fun x => ⟨x, now⟩) ∧ ∀ x ∈ f.hourMeter, x ≤ 9999999) ∧
    a.fullRef = none ∧ a.burnAverage = none ∧ a.fuelSinceFull = 0 ∧ a.samplesTaken = 0 ∧ a.samplesRejected = 0 ∧
    a.implausibleRun = 0 ∧ a.shiftUsed = 0 ∧ a.fuelTotal = 0 ∧ a.openSet = []) ∧
  ∀ (v : Via) (s : State), s.Ready → partNumber v = 0 →
    ((s.perms v.link).accounts = true →
      (∀ f, newAccount f s.seconds = none → exec (.addAccount v f) s = .next (answered v 0x33 .range [] s)) ∧
      (∀ f a, newAccount f s.seconds = some a →
        a.machine = f.machine ∧ f.klass = a.klass.val ∧ a.allowance = f.allowance ∧ f.action = some a.action ∧
        f.status = some a.status.name ∧
        f.lines = some (a.lines.map fun l => ⟨numberOf l.product, l.interval, l.lastService⟩) ∧
        a.fullRef = none ∧ a.burnAverage = none ∧ a.fuelSinceFull = 0 ∧
        a.samplesTaken = 0 ∧ a.samplesRejected = 0 ∧ a.implausibleRun = 0 ∧ a.shiftUsed = 0 ∧
        a.fuelTotal = 0 ∧ a.openSet = [] ∧ (∀ l ∈ a.lines, l.topUp = 0) ∧
        a.hourMeter = f.hourMeter.map (fun x => ⟨x, s.seconds⟩) ∧
        (∀ reason, a.status = .held reason → reason = .link) ∧
        if (s.account a.machine).isSome then exec (.addAccount v f) s = .next (answered v 0x33 .duplicate [] s)
        else if 1024 ≤ s.accounts.table.length then
          exec (.addAccount v f) s = .next (answered v 0x33 .tableFull [] s)
        else
          exec (.addAccount v f) s = .next (answered v 0x33 .ok []
            (postAll (reevaluate a).2
              { s with accounts := { s.accounts with
                table := insertAccount (reevaluate a).1 s.accounts.table } }))) ∧
      (∀ machine, machine = 0 ∨ 65534 < machine →
        exec (.deleteAccount v machine) s = .next (answered v 0x35 .range [] s)) ∧
      ∀ machine, 1 ≤ machine → machine ≤ 65534 →
        (s.account machine = none → exec (.deleteAccount v machine) s = .next (answered v 0x35 .notFound [] s)) ∧
        ∀ a, s.account machine = some a →
          (a.openSet = [] →
            exec (.deleteAccount v machine) s = .next (answered v 0x35 .ok []
              { s with accounts := { s.accounts with
                table := s.accounts.table.filter fun b => b.machine ≠ machine } })) ∧
          (a.openSet ≠ [] → s.deleteWaits machine = false → s.accounts.deferred.length < 16 →
            exec (.deleteAccount v machine) s = .next (answered v 0x35 .deferred []
              { s with accounts := { s.accounts with
                deferred := s.accounts.deferred ++ [⟨machine, .delete, v.link⟩] } })) ∧
          (a.openSet ≠ [] → s.deleteWaits machine = false → 16 ≤ s.accounts.deferred.length →
            exec (.deleteAccount v machine) s = .next (answered v 0x35 .deferFull [] s)) ∧
          (a.openSet ≠ [] → s.deleteWaits machine = true → s.accounts.deferred.length ≤ 16 →
            exec (.deleteAccount v machine) s = .next (answered v 0x35 .deferred []
              { s with accounts := { s.accounts with
                deferred := s.accounts.deferred.map fun e =>
                  if e.machine = machine ∧ e.change = .delete then { e with source := v.link } else e } }))) ∧
    (∀ a, s.accountAbove (look s.accounts.cursors v.link) = some a →
      exec (.readNextAccount v) s = .next (answered v 0x31 .ok (accountItems a ++ [itemFlag false])
        { s with accounts := { s.accounts with cursors := put s.accounts.cursors v.link a.machine } })) ∧
    (∀ a, s.accountAbove (look s.accounts.cursors v.link) = none → s.accounts.table.getLast? = some a →
      exec (.readNextAccount v) s = .next (answered v 0x31 .ok (accountItems a ++ [itemFlag true])
        { s with accounts := { s.accounts with cursors := put s.accounts.cursors v.link a.machine } })) ∧
    (s.accounts.table = [] → exec (.readNextAccount v) s = .next (answered v 0x31 .notFound [] s))

/-- R138, R140: WRITE_ACCOUNT is applied at once to an account with no open order, with its notices; with an open
order its fields wait in the deferred change queue, each in the place of an entry of the same machine and field
or at the tail, or the request is refused DEFER_FULL whole; a waiting delete refuses it.  A request that names no field,
or a value out of range (R105), is RANGE; otherwise its writes are the fields it names, as given, in the order of R112.
R112, R121, R123, R124: the whole account and the notices that the write of each field leaves: the status, the class and the
allowance are set and nothing else; the hour meter, the action and the lines are written and every line is then
evaluated, keeping its other fields, with SERVICE_DUE for each that moves up and the hold or its lift; and the writes of
one application follow one another. -/
def Obligations.WritesAppliedOrDeferred : Prop :=
  (∀ (v : Via) (f : WriteAccount) (s : State), s.Ready → partNumber v = 0 → (s.perms v.link).accounts = true →
    writesOf f = none ∨ writesOf f = some [] → exec (.writeAccount v f) s = .next (answered v 0x34 .range [] s)) ∧
  (∀ f : WriteAccount, (writesOf f).isSome ↔
    f.status ≠ some none ∧ (∀ n ∈ f.klass, n ≤ 15) ∧ (∀ n ∈ f.allowance, n ≤ 200000) ∧
    (∀ n ∈ f.hourMeter, n ≤ 9999999) ∧ f.action ≠ some none ∧
    ∀ given ∈ f.lines, ∃ ls, given = some ls ∧ ls.length ≤ 4 ∧ ∀ l ∈ ls,
      1 ≤ l.product ∧ l.product ≤ 8 ∧ 1 ≤ l.interval ∧ l.interval ≤ 10000 ∧ l.lastService ≤ 9999999) ∧
  (∀ (f : WriteAccount) (ws : List AccountWrite), writesOf f = some ws →
    (ws.map fun w => (DeferredChange.write w).code).Pairwise (· < ·) ∧
    (∀ x, .status x ∈ ws ↔ f.status = some (some x)) ∧ (∀ x, .klass x ∈ ws ↔ f.klass = some x.val) ∧
    (∀ x, .allowance x ∈ ws ↔ f.allowance = some x) ∧ (∀ x, .hourMeter x ∈ ws ↔ f.hourMeter = some x) ∧
    (∀ x, .action x ∈ ws ↔ f.action = some (some x)) ∧
    ∀ ls, .lines ls ∈ ws ↔
      f.lines = some (some (ls.map fun l => ⟨numberOf l.product, l.interval, l.lastService⟩)) ∧
      ∀ l ∈ ls, l.topUp = 0 ∧ l.state = .ok) ∧
  (∀ (v : Via) (f : WriteAccount) (ws : List AccountWrite) (s : State), s.Ready → partNumber v = 0 →
    (s.perms v.link).accounts = true → writesOf f = some ws → ws ≠ [] →
    let entry (w : AccountWrite) : DeferredEntry := ⟨f.machine, .write w, v.link⟩
    let place (queue : List DeferredEntry) (w : AccountWrite) : List DeferredEntry :=
      if ∃ e ∈ queue, e.machine = f.machine ∧ e.change.code = (DeferredChange.write w).code then
        queue.map fun e =>
          if e.machine = f.machine ∧ e.change.code = (DeferredChange.write w).code then entry w else e
      else queue ++ [entry w]
    let new := ws.countP fun w =>
      ¬∃ e ∈ s.accounts.deferred, e.machine = f.machine ∧ e.change.code = (DeferredChange.write w).code
    (f.machine = 0 ∨ 65534 < f.machine → exec (.writeAccount v f) s = .next (answered v 0x34 .range [] s)) ∧
    (1 ≤ f.machine → f.machine ≤ 65534 →
      (s.account f.machine = none → exec (.writeAccount v f) s = .next (answered v 0x34 .notFound [] s)) ∧
      ∀ a, s.account f.machine = some a →
        (s.deleteWaits f.machine = true →
          exec (.writeAccount v f) s = .next (answered v 0x34 .accountDeleting [] s)) ∧
        (s.deleteWaits f.machine = false → a.openSet = [] →
          exec (.writeAccount v f) s = .next (answered v 0x34 .ok []
            (postAll (applyWrites s.seconds ws a).2
              { s with accounts := { s.accounts with
                table := changeAccount f.machine (fun _ => (applyWrites s.seconds ws a).1)
                  s.accounts.table } }))) ∧
        (s.deleteWaits f.machine = false → a.openSet ≠ [] → s.accounts.deferred.length + new ≤ 16 →
          exec (.writeAccount v f) s = .next (answered v 0x34 .deferred []
            { s with accounts := { s.accounts with deferred := ws.foldl place s.accounts.deferred } })) ∧
        (s.deleteWaits f.machine = false → a.openSet ≠ [] → 16 < s.accounts.deferred.length + new →
          exec (.writeAccount v f) s = .next (answered v 0x34 .deferFull [] s)))) ∧
  ∀ (now : Nat) (a : Account),
    let evaluated (x : Account) : Account × List Notice :=
      let hours (l : ServiceLine) : Nat := match x.hourMeter with
        | some h => h.value - l.lastService
        | none => 0
      let stateOf (l : ServiceLine) : LineState :=
        if hours l < l.interval * 10 then .ok else if hours l < l.interval * 11 then .due else .overdue
      let lines : List ServiceLine := x.lines.map fun l => { l with state := stateOf l }
      let held : Prop := x.action = .hold ∧ ∃ l ∈ lines, l.state = .overdue
      ({ x with
          lines := lines
          status := match x.status with
            | .active => if held then .held .service else .active
            | .held .service =>
              if held then .held .service else if x.implausibleRun = 3 then .held .hours else .active
            | other => other },
        (x.lines.zipIdx 1).filterMap fun (l, place) =>
          if l.state = .ok ∧ stateOf l ≠ .ok ∨ l.state = .due ∧ stateOf l = .overdue then
            some (.serviceDue x.machine place l.product (stateOf l) (hours l))
          else none)
    applyWrite now (.status .active) a = ({ a with status := .active }, []) ∧
    applyWrite now (.status .held) a = ({ a with status := .held .link }, []) ∧
    applyWrite now (.status .barred) a = ({ a with status := .barred }, []) ∧
    (∀ c, applyWrite now (.klass c) a = ({ a with klass := c }, [])) ∧
    (∀ n, applyWrite now (.allowance n) a = ({ a with allowance := n }, [])) ∧
    (∀ x, applyWrite now (.hourMeter x) a = evaluated { a with
      hourMeter := some ⟨x, now⟩, implausibleRun := 0, fullRef := none, fuelSinceFull := 0
      status := if a.status = .held .hours then .active else a.status }) ∧
    (∀ x, applyWrite now (.action x) a = evaluated { a with action := x }) ∧
    (∀ ls, applyWrite now (.lines ls) a = evaluated { a with lines := ls }) ∧
    applyWrites now [] a = (a, []) ∧
    ∀ w rest,
      let first := applyWrite now w a
      let then' := applyWrites now rest first.1
      applyWrites now (w :: rest) a = (then'.1, first.2 ++ then'.2)

/-- R114 to R124, R127, R142: the close-time updates.  Which readings are plausible, and the plausible field of an
order's record; what a plausible reading, an implausible one and none leave of the hour meter, the implausible run and
the status; what a FUEL order adds to shift used and fuel total, and the four rows of the full-to-full table with the
burn sample, its band and the average; the lines a SERVICE order resets and a TOPUP order tops up, the line states
evaluated after them with their notices, and the overdue action; and that nothing else of the account changes.  The
order leaves the account's open-order set, and the last to leave it has the machine's deferred changes applied, a
delete last; an order that stands in no set updates nothing.  The close at the stop timer makes these updates, at the
instant to which that timer's row brings the clock (log entry 2, the model's choice).  DEFERRED_APPLIED goes to the
source link of each entry, in the order in which they are applied, and the SERVICE_DUE notices to the queues after
them (log entry 8, the model's choice). -/
def Obligations.CloseTimeUpdates : Prop :=
  (∀ (a : Account) (tolerance reading time : Nat),
    plausible a tolerance reading time = true ↔
      reading ≤ 9999999 ∧ ∀ h ∈ a.hourMeter,
        h.value ≤ reading ∧ reading - h.value ≤ (time - h.time) * 10 / 3600 + tolerance) ∧
  (∀ (s : State) (o : Order) (machine reading time : Nat) (a : Account),
    o.machine = some machine → s.account machine = some a → o.number ∈ a.openSet →
    (o.hours = some reading → o.readingTime = some time →
      s.assess o = some (plausible a (look s.accounts.classes a.klass).tolerance reading time)) ∧
    (o.hours = none → s.assess o = none)) ∧
  (∀ (l : ServiceLine) (h : Option HourMeter),
    let hours := match h with
      | some h => h.value - l.lastService
      | none => 0
    hoursSince h l = hours ∧
    lineStateAt l hours =
      (if hours < l.interval * 10 then .ok else if hours < l.interval * 11 then .due else .overdue)) ∧
  (∀ (c : ClassRecord) (o : Order) (netDl : Nat) (cause : Cause) (ok : Option Bool) (a : Account),
    (ok.isSome → o.hours.isSome ∧ o.readingTime.isSome) →
    let b := (updateAtClose c o netDl cause ok a).1
    let read : AccountStatus :=
      if ok = some false ∧ 2 ≤ a.implausibleRun ∧ a.status = .active then .held .hours else a.status
    let overdue : Prop := ∃ l ∈ b.lines, l.state = .overdue
    let reset (l : ServiceLine) : ServiceLine :=
      if o.kind = .service ∧ l.product = o.product then
        { l with lastService := (b.hourMeter.map HourMeter.value).getD 0, topUp := 0, state := .ok }
      else if o.kind = .topup ∧ l.product = o.product then { l with topUp := min 9999999 (l.topUp + netDl) }
      else l
    (ok = some true → ∀ x time, o.hours = some x → o.readingTime = some time →
      b.hourMeter = some ⟨x, time⟩ ∧ b.implausibleRun = 0) ∧
    (ok = some false → b.hourMeter = a.hourMeter ∧ b.implausibleRun = min 3 (a.implausibleRun + 1)) ∧
    (ok = none → b.hourMeter = a.hourMeter ∧ b.implausibleRun = a.implausibleRun) ∧
    (o.kind = .fuel →
      b.shiftUsed = min 9999999 (a.shiftUsed + netDl) ∧ b.fuelTotal = min 4294967295 (a.fuelTotal + netDl) ∧
      (cause ≠ .full →
        b.fullRef = a.fullRef ∧ b.fuelSinceFull = min 9999999 (a.fuelSinceFull + netDl)) ∧
      (cause = .full → b.fuelSinceFull = 0 ∧ b.fullRef = (if ok = some true then o.hours else none)) ∧
      (cause = .full → ok = some true → ∀ x ref, o.hours = some x → a.fullRef = some ref → ref + 10 ≤ x →
        let h := x - ref
        let sample := (20 * (a.fuelSinceFull + netDl) + h) / (2 * h)
        (c.bandMin ≤ sample ∧ sample ≤ c.bandMax →
          b.samplesTaken = min 65535 (a.samplesTaken + 1) ∧ b.samplesRejected = a.samplesRejected ∧
          (a.burnAverage = none → b.burnAverage = some sample) ∧
          ∀ old, a.burnAverage = some old → ∃ new : Nat, b.burnAverage = some new ∧
            (new : Int) = old + Int.tdiv ((sample : Int) - old) 4 ∧ min old sample ≤ new ∧ new ≤ max old sample) ∧
        (sample < c.bandMin ∨ c.bandMax < sample →
          b.samplesTaken = a.samplesTaken ∧ b.samplesRejected = min 65535 (a.samplesRejected + 1) ∧
          b.burnAverage = a.burnAverage)) ∧
      (cause ≠ .full ∨ ok ≠ some true ∨ (∀ x ref, o.hours = some x → a.fullRef = some ref → x < ref + 10) →
        b.samplesTaken = a.samplesTaken ∧ b.samplesRejected = a.samplesRejected ∧
        b.burnAverage = a.burnAverage)) ∧
    (o.kind ≠ .fuel →
      b.shiftUsed = a.shiftUsed ∧ b.fuelTotal = a.fuelTotal ∧ b.fullRef = a.fullRef ∧
      b.fuelSinceFull = a.fuelSinceFull ∧ b.samplesTaken = a.samplesTaken ∧
      b.samplesRejected = a.samplesRejected ∧ b.burnAverage = a.burnAverage) ∧
    b.lines = (a.lines.map reset).map (fun l => { l with state := lineStateAt l (hoursSince b.hourMeter l) }) ∧
    (∀ n, n ∈ (updateAtClose c o netDl cause ok a).2 ↔
      ∃ (place : Nat) (before after : ServiceLine),
        (a.lines.map reset)[place]? = some before ∧ b.lines[place]? = some after ∧
        (before.state = .ok ∧ after.state ≠ .ok ∨ before.state = .due ∧ after.state = .overdue) ∧
        n = .serviceDue a.machine (place + 1) after.product after.state (hoursSince b.hourMeter after)) ∧
    (read = .active → b.status = if a.action = .hold ∧ overdue then .held .service else .active) ∧
    (read = .held .service →
      b.status =
        if a.action = .hold ∧ overdue then .held .service
        else if b.implausibleRun = 3 then .held .hours
        else .active) ∧
    (read ≠ .active → read ≠ .held .service → b.status = read) ∧
    b.machine = a.machine ∧ b.klass = a.klass ∧ b.allowance = a.allowance ∧ b.action = a.action ∧
    b.openSet = a.openSet) ∧
  (∀ (o : Order) (netDl : Nat) (cause : Cause) (ok : Option Bool) (s : State),
    let t := closeUpdates o netDl cause ok s
    (∀ x, ({ t with accounts := x, links := s.links } : State) = { s with accounts := x }) ∧
    t.accounts.classes = s.accounts.classes ∧ t.accounts.cursors = s.accounts.cursors ∧
    ((∀ machine a, o.machine = some machine → s.account machine = some a → o.number ∉ a.openSet) → t = s) ∧
    ∀ machine a, o.machine = some machine → s.account machine = some a → o.number ∈ a.openSet →
      let updated := (updateAtClose (look s.accounts.classes a.klass) o netDl cause ok a).1
      let b := { updated with openSet := a.openSet.filter fun n => n ≠ o.number }
      let mine := s.accounts.deferred.filter fun e => e.machine = machine
      let applied := (mine.filter fun e => e.change ≠ .delete) ++ mine.filter fun e => e.change = .delete
      let due := (updateAtClose (look s.accounts.classes a.klass) o netDl cause ok a).2
      (∀ other, other ≠ machine → t.account other = s.account other) ∧
      (b.openSet ≠ [] →
        t.account machine = some b ∧ t.accounts.deferred = s.accounts.deferred ∧
        t.links = (postAll due s).links) ∧
      (b.openSet = [] →
        t.links = (postAll ((applyWrites s.seconds (writesAmong mine) b).2 ++ due)
          (applied.foldl (fun s e => s.postTo e.source (.deferredApplied e)) s)).links ∧
        t.accounts.deferred = s.accounts.deferred.filter (fun e => e.machine ≠ machine) ∧
        ((∀ e ∈ mine, e.change ≠ .delete) →
          t.account machine = some (applyWrites s.seconds (writesAmong mine) b).1) ∧
        ((∃ e ∈ mine, e.change = .delete) → t.account machine = none))) ∧
  ∀ (p : PointId) (reading : Option Int) (o : Order) (c : Cause) (due : Nat) (s : State), s.Ready →
    let u := s.point p
    u.state = .stopping → u.order = some o → o.termination = some c → u.meter.CountedNothing →
    u.stopDue = some due →
    let now := s.reach due
    (∀ x ∈ u.meter.lastPulse, x + 1000 ≤ now.clock) →
    ∃ t r, exec (.stopTimerExpiry p reading) s = .next t ∧ t.journal.held.getLast? = some (.dispense r) ∧
      r.number = o.number ∧ r.plausible = now.assess o ∧
      t.accounts = (closeUpdates o (decilitres o.net).toNat c (now.assess o) now).accounts

/-! ## Long operations (sections 7.2, 7.3 and 10.5) -/

/-- R132, R135, R84, R187, R188: a long operation is ACCEPTED in a free slot and LONG_BUSY in one that runs; a
SETTLED report with no operation open on its product completes in the same event, and one that waits completes at the
close of an order or of a delivery that leaves none open, with the report as the close leaves it; STOP_LONG completes the
running operation STOPPED with what it has done, and NO_OPERATION without one; the wait of a SETTLED report ends
PROVISIONAL, at the instant to which its row brings the clock (log entry 2, the model's choice).  A field of a scan or
of a range operation out of its range is RANGE.  R137: the first not done of a stopped range operation is the first
account above its position and at or below its last number, absent when there is none.  Log entry 8, the model's
choice: after a close OPERATION_DONE stands last in the queue, behind the notices of the close. -/
def Obligations.LongOperations : Prop :=
  ∀ (v : Via) (s : State), s.Ready → partNumber v = 0 →
    let u := s.link v.link
    let start (work : LongWork) (s : State) : State :=
      s.updLink v.link fun u => { u with running := some ⟨work, v.tag⟩ }
    let complete (l : Link) (tag : Byte) (content : LongContent) (s : State) : State :=
      (s.updLink l fun u => { u with running := none, result := some ⟨content, tag⟩ }).postTo l
        (.operationDone content.kind tag content.outcome)
    (∀ field condition value start' limit, value ≤ 4294967295 → start' ≤ 65534 → 1 ≤ limit → limit ≤ 8 →
      exec (.scanAccounts v ⟨some field, some condition, value, start', limit⟩) s =
        if u.running.isSome then .next (answered v 0x36 .longBusy [] s)
        else .next (answered v 0x36 .accepted []
          (start (.scan ⟨field, condition, value, limit, start', []⟩) s))) ∧
    (∀ f : ScanAccounts, f.field = none ∨ f.condition = none ∨ 4294967295 < f.value ∨ 65534 < f.start ∨
        f.limit = 0 ∨ 8 < f.limit →
      exec (.scanAccounts v f) s = .next (answered v 0x36 .range [] s)) ∧
    (∀ f : SetRangeStatus, (s.perms v.link).accounts = true →
      f.first = 0 ∨ 65534 < f.first ∨ f.last < f.first ∨ 65534 < f.last ∨ (∃ n ∈ f.klass, 15 < n) ∨ f.status = none →
      exec (.setRangeStatus v f) s = .next (answered v 0x37 .range [] s)) ∧
    (∀ (f : SetRangeStatus) (status : StatusName) (filter : Option ClassId), (s.perms v.link).accounts = true →
      f.status = some status → f.klass = filter.map Fin.val → 1 ≤ f.first → f.first ≤ f.last → f.last ≤ 65534 →
      exec (.setRangeStatus v f) s =
        if u.running.isSome then .next (answered v 0x37 .longBusy [] s)
        else .next (answered v 0x37 .accepted []
          (start (.range ⟨f.last, filter, status, f.first - 1, 0, 0, 0⟩) s))) ∧
    (∀ k : ProductId,
      let begun := start (.settled k (s.clock + 120000)) s
      exec (.stockReportSettled v (numberOf k)) s =
        if u.running.isSome then .next (answered v 0x20 .longBusy [] s)
        else if s.openOnProduct k then .next (answered v 0x20 .accepted [] begun)
        else .next (answered v 0x20 .accepted []
          (complete v.link v.tag (.report .settled (some (stockReport k begun))) begun))) ∧
    (∀ op, u.running = some op →
      exec (.stopLong v) s = .next (answered v 0x02 .ok []
        (complete v.link op.tag
          (match op.work with
            | .scan w => .scan .stopped w.hits w.position
            | .range w => .range .stopped w.changed w.deferred w.passed (firstNotDone w s)
            | .settled _ _ => .report .stopped none) s))) ∧
    (s.AccountsOrdered → ∀ w : RangeWork, firstNotDone w s =
      ((s.accounts.table.map Account.machine).filter fun n => w.position < n ∧ n ≤ w.last).min?) ∧
    (u.running = none → exec (.stopLong v) s = .next (answered v 0x02 .noOperation [] s)) ∧
    (∀ (l : Link) (k : ProductId) (due : Nat) (tag : Byte), (s.link l).running = some ⟨.settled k due, tag⟩ →
      let settles (t : State) : Prop :=
        if t.openOnProduct k = true then (t.link l).running = some ⟨.settled k due, tag⟩
        else
          (t.link l).running = none ∧
          (t.link l).result = some ⟨.report .settled (some (stockReport k t)), tag⟩ ∧
          ((t.link l).overflow = false → (t.link l).queue.getLast? = some ⟨.operationDone 3 tag 1, t.seconds⟩)
      (∀ (p : PointId) (o : Order),
        (s.point p).state = .identifying ∨ (s.point p).state = .awaitPump → (s.point p).order = some o →
        o.product = k → (s.point p).meter.CountedNothing →
        ∃ t, exec (.stopBtn p) s = .next t ∧ (t.point p).order = none ∧ settles t) ∧
      ∀ (i : InletId) (d : Delivery), (s.perms v.link).stock = true → (s.inlet i).state = .settling →
        (s.inlet i).delivery = some d → d.holdsFlag = false → d.product = k →
        ∃ t, exec (.stopDelivery v ⟨numberOf i, d.number⟩) s = .next (answered v 0x19 .ok [] t) ∧
          (t.inlet i).delivery = none ∧ settles t) ∧
    ∀ l k due tag, (s.link l).running = some ⟨.settled k due, tag⟩ →
      exec (.settledReportWaitExpiry l) s = .next
        (complete l tag (.report .provisional (some (stockReport k (s.reach due)))) (s.reach due))

/-- R121, R131, R133, R134, R136, R137: which accounts a scan matches, by the figure of its field (the least
remaining-to-due of the service lines, the burn average, the shift used, the hour meter, the class or the status), its
condition and its value; and what a visit does.  One visit of a scan or of a range operation takes the first account
above its position: a scan goes on, or ends HIT at its limit and NOT_SATISFIED past the last account; a range
operation writes the status, defers it (R140: in the place of an entry of the same machine and field, or at the tail),
passes over a waiting delete, ends PARTIAL when the queue is full, and DONE past its last number. -/
def Obligations.LongOperationVisits : Prop :=
  ∀ (l : Link) (tag : Byte) (s : State), s.Ready →
    let complete (content : LongContent) : State :=
      (s.updLink l fun u => { u with running := none, result := some ⟨content, tag⟩ }).postTo l
        (.operationDone content.kind tag content.outcome)
    let goOn (work : LongWork) (s : State) : State :=
      s.updLink l fun u => { u with running := some ⟨work, tag⟩ }
    (∀ w, (s.link l).running = some ⟨.scan w, tag⟩ →
      (s.accountAbove w.position = none →
        exec (.scanVisit l) s = .next (complete (.scan .notSatisfied w.hits w.position))) ∧
      ∀ a, s.accountAbove w.position = some a →
        let remaining (x : ServiceLine) : Nat := x.interval * 10 -
          match a.hourMeter with
          | some h => h.value - x.lastService
          | none => 0
        let isFigure (n : Nat) : Prop := match w.field with
          | .serviceRemaining => (∃ x ∈ a.lines, n = remaining x) ∧ ∀ x ∈ a.lines, n ≤ remaining x
          | .burnAverage => a.burnAverage = some n
          | .shiftUsed => n = a.shiftUsed
          | .hourMeter => ∃ h ∈ a.hourMeter, n = h.value
          | .classNumber => n = a.klass.val
          | .status => n = match a.status with
            | .active => 0
            | .held _ => 1
            | .barred => 2
        let meets (n : Nat) : Prop := match w.condition with
          | .equal => n = w.value
          | .atMost => n ≤ w.value
          | .atLeast => w.value ≤ n
        let matched : Prop := w.value = 4294967295 ∨ ∃ n, isFigure n ∧ meets n
        (¬matched →
          exec (.scanVisit l) s = .next (goOn (.scan { w with position := a.machine }) s)) ∧
        (matched → w.hits.length + 1 < w.limit →
          exec (.scanVisit l) s =
            .next (goOn (.scan { w with position := a.machine, hits := w.hits ++ [a.machine] }) s)) ∧
        (matched → w.limit ≤ w.hits.length + 1 →
          exec (.scanVisit l) s = .next (complete (.scan .hit (w.hits ++ [a.machine]) a.machine)))) ∧
    ∀ w, (s.link l).running = some ⟨.range w, tag⟩ →
      (s.accountAbove w.position = none →
        exec (.rangeVisit l) s = .next (complete (.range .done w.changed w.deferred w.passed none))) ∧
      ∀ a, s.accountAbove w.position = some a →
        let inClass : Prop := ∀ c ∈ w.filter, a.klass = c
        let entry : DeferredEntry := ⟨a.machine, .write (.status w.status), l⟩
        let waiting := s.accounts.deferred
        let named : Prop := ∃ e ∈ waiting, e.machine = entry.machine ∧ e.change.code = entry.change.code
        let defers (queue : List DeferredEntry) : Prop :=
          exec (.rangeVisit l) s = .next (goOn
            (.range { w with position := a.machine, deferred := w.deferred + 1 })
            { s with accounts := { s.accounts with deferred := queue } })
        (w.last < a.machine →
          exec (.rangeVisit l) s = .next (complete (.range .done w.changed w.deferred w.passed none))) ∧
        (a.machine ≤ w.last → ¬inClass →
          exec (.rangeVisit l) s = .next (goOn (.range { w with position := a.machine }) s)) ∧
        (a.machine ≤ w.last → inClass → s.deleteWaits a.machine = true →
          exec (.rangeVisit l) s =
            .next (goOn (.range { w with position := a.machine, passed := w.passed + 1 }) s)) ∧
        (a.machine ≤ w.last → inClass → s.deleteWaits a.machine = false → a.openSet = [] →
          exec (.rangeVisit l) s = .next (goOn
            (.range { w with position := a.machine, changed := w.changed + 1 })
            (writeNow a.machine [.status w.status] s))) ∧
        (a.machine ≤ w.last → inClass → s.deleteWaits a.machine = false → a.openSet ≠ [] →
          (named → waiting.length ≤ 16 → defers (waiting.map fun e =>
            if e.machine = entry.machine ∧ e.change.code = entry.change.code then entry else e)) ∧
          (¬named → waiting.length < 16 → defers (waiting ++ [entry])) ∧
          (¬named → 16 ≤ waiting.length →
            exec (.rangeVisit l) s =
              .next (complete (.range .part w.changed w.deferred w.passed (some a.machine)))))

/-! ## Notices and journal releases (chapters 9 and 10) -/

/-- R190, R191: FETCH_NOTICES gives the oldest notices, as many as asked for, the overflow flag and the number
left; they leave the queue, the flag is cleared and the NOTICE line follows the level.  A count out of range is
RANGE.  A notice posted to a queue of fewer than 16 goes to its tail, and one more sets the overflow flag. -/
def Obligations.NoticesFetched : Prop :=
  (∀ (v : Via) (count : Nat) (s : State), s.Ready →
    let u := s.link v.link
    let left := u.queue.drop count
    let content := (u.queue.take count).flatMap noticeEntryItems ++ [itemFlag u.overflow, item1 left.length]
    (1 ≤ count → count ≤ 8 → hasPart v content →
      exec (.fetchNotices v count) s = .next (answered v 0x03 .ok content
        { s with links := put s.links v.link { u with
            queue := left, overflow := false
            notice := decide ((look s.store.links v.link).level ≤ left.length) } })) ∧
    (count = 0 ∨ 8 < count → exec (.fetchNotices v count) s = .next (answered v 0x03 .range [] s))) ∧
  ∀ (l : Link) (n : Notice) (s : State),
    let u := s.link l
    let taken := { u with
      queue := u.queue ++ [⟨n, s.seconds⟩]
      notice := decide ((look s.store.links l).level ≤ u.queue.length + 1) }
    s.postTo l n =
      { s with links := put s.links l (if u.queue.length < 16 then taken else { u with overflow := true }) }

/-! ## Latches, inputs and bypasses (chapter 8) -/

/-- R153, R154: a scope or number out of range is RANGE; RELEASE_TRIP of a NORMAL latch is NOT_TRIPPED, of a TRIPPED
one STILL_ACTIVE, of the BAY latch without the key KEY_REQUIRED; a CLEARABLE latch returns to NORMAL, empty, its trip
log entry takes the time and the link, TRIP_RELEASED is posted with the former trip number and the link, and no other
latch changes.  R159: the product of each tank that the latch covers has its chain check: one with no draw tank takes
the first eligible tank of its chain, and one whose draw tank is eligible keeps it, with DRAW_CHANGED for each that
moves; a release of the BAY latch lets the head of the start queue start (R53); and nothing else changes.  (All this of
a release that leaves no product empty, as a tank that serves under a set latch serves without it; the notices of a
link whose queue has room for all of them.)  Log entry 5, the model's choice: RELEASE_TRIP leaves the RESET_KEY level that it
reads. -/
def Obligations.TripReleased : Prop :=
  (∀ (name : Coded LatchName) (x : LatchId), readLatch name = some x ↔
    name = some (match x with
      | .point p => .point (numberOf p)
      | .bund b => .bund (numberOf b)
      | .bay => .bay)) ∧
  ∀ (v : Via) (name : Coded LatchName) (key : Bool) (s : State), s.Ready → partNumber v = 0 →
    (s.perms v.link).release = true →
    let refused (st : Status) : Prop :=
      exec (.releaseTrip v name key) s = .next (answered v 0x41 st [] (s.setKey key))
    (readLatch name = none → refused .range) ∧
    ∀ x, readLatch name = some x →
      let l := s.latch x
      (l.state = .normal → refused .notTripped) ∧ (l.state = .tripped → refused .stillActive) ∧
      (l.state = .clearable → x = .bay → key = false → refused .keyRequired) ∧
      (l.state = .clearable → x ≠ .bay ∨ key = true →
        let log := s.shutdown.log.map fun e =>
          if l.trip = some e.number then { e with releaseTime := some s.seconds, releaseLink := some v.link } else e
        let cleared := s.setLatch x ⟨.normal, [], [], none, none⟩
        let concerned (j : ProductId) : Prop := ∃ k, (s.tankSet k).product = j ∧
          match x with
          | .point _ => False
          | .bund b => (s.tankSet k).bund = b
          | .bay => True
        let chain (j : ProductId) : List TankId := (s.productSet j).chain
        let withheld : Prop := (∃ m, (s.pump m).state = .starting) ∨ s.pumps.supplyReady = false
        ∃ t, exec (.releaseTrip v name key) s = .next (answered v 0x41 .ok [] t) ∧
          t.latch x = ⟨.normal, [], [], none, none⟩ ∧ (∀ y, y ≠ x → t.latch y = s.latch y) ∧
          t.shutdown = { cleared.shutdown with log := log, resetKey := key } ∧ t.bay.mode = s.bay.mode ∧
          t.store = s.store ∧
          ((∀ j, concerned j → (s.draw j).current.isSome → ((chainCheck j false cleared).draw j).current.isSome) →
            (∀ j, ¬concerned j → t.draw j = s.draw j) ∧
            (∀ j, concerned j →
              t.draw j = (chainCheck j false cleared).draw j ∧
              ((s.draw j).current = none →
                t.draw j = { s.draw j with current := (chain j).find? (t.eligible j) }) ∧
              ∀ old, (s.draw j).current = some old → old ∈ chain j → t.eligible j old = true →
                t.draw j = s.draw j) ∧
            (x ≠ .bay ∨ s.pumps.queue = [] ∨ withheld → t.pumps = s.pumps) ∧
            (x = .bay → ¬withheld → ∀ m rest, s.pumps.queue = m :: rest →
              t.pumps = { s.pumps with
                queue := rest
                units := put s.pumps.units m { s.pump m with
                  state := .starting, startDue := some (s.clock + (s.pumpSet m).startTime * 1000)
                  holdDue := none, run := true } }) ∧
            (∀ n : Link, (s.link n).queue.length ≤ 7 →
              ((look s.store.links n).classes.shutdown = true → ∀ trip, l.trip = some trip →
                ⟨.tripReleased x trip v.link, s.seconds⟩ ∈ (t.link n).queue) ∧
              ((look s.store.links n).classes.stock = true → ∀ j k, concerned j → (s.draw j).current ≠ some k →
                (t.draw j).current = some k →
                ⟨.drawChanged j (s.draw j).current k, s.seconds⟩ ∈ (t.link n).queue)) ∧
            (∀ n, t.link n = { s.link n with
              queue := (t.link n).queue, overflow := (t.link n).overflow, notice := (t.link n).notice }) ∧
            t = { s with
              shutdown := t.shutdown, pumps := t.pumps, links := t.links
              stock := { s.stock with draws := t.stock.draws } }))

/-- R150, R151, R152, R160, R164: what a cause handed to a latch makes of it and of the trip log.  A NORMAL latch takes
the cause, the input and the next trip number, and a new entry goes to the log, the oldest dropped from 32; a set latch
adds what it does not hold, four causes at most, keeps its trip number and time, and its entry takes its causes.  The
entry counts the operations that the cause stopped: log entry 39, the model's reading (DEDUCED), those without a
termination cause before it less those without one after, with those the same finding had stopped already.  The latch
is TRIPPED while an input it holds does not count as clear and CLEARABLE otherwise, and no other latch changes. -/
def Obligations.CauseTripsLatch : Prop :=
  ∀ (h : Handing) (s : State),
    let l := s.latch h.latch
    let t := handCause h s
    let inputs :=
      if l.state = .normal then h.input.toList
      else if ∀ x ∈ h.input, x ∈ l.contributing then l.contributing else l.contributing ++ h.input.toList
    let log := s.shutdown.log
    let stopped := s.unstopped - t.unstopped + h.already
    (t.latch h.latch).contributing = inputs ∧
    (t.latch h.latch).state = (if ∀ x ∈ inputs, s.countsClear x = true then .clearable else .tripped) ∧
    (∀ y, y ≠ h.latch → t.latch y = s.latch y) ∧
    (l.state = .normal →
      (t.latch h.latch).causes = [h.cause] ∧ (t.latch h.latch).trip = some s.shutdown.nextTrip ∧
      (t.latch h.latch).time = some s.seconds ∧ t.shutdown.nextTrip = nextCount s.shutdown.nextTrip ∧
      ((∀ e ∈ log, e.number ≠ s.shutdown.nextTrip) →
        t.shutdown.log = (if log.length < 32 then log else log.drop 1) ++
          [⟨s.shutdown.nextTrip, s.seconds, h.latch, [h.cause], stopped, none, none⟩])) ∧
    (l.state ≠ .normal →
      (t.latch h.latch).causes =
        (if h.cause ∈ l.causes ∨ 4 ≤ l.causes.length then l.causes else l.causes ++ [h.cause]) ∧
      (t.latch h.latch).trip = l.trip ∧ (t.latch h.latch).time = l.time ∧
      t.shutdown.nextTrip = s.shutdown.nextTrip ∧
      t.shutdown.log = log.map fun e =>
        if l.trip = some e.number then
          { e with causes := (t.latch h.latch).causes, stopped := e.stopped + stopped }
        else e)

/-- R146 to R148: a change of a line's level starts its debounce timer; when it runs out the debounced state takes
the level, and an input that becomes ACTIVE and is not bypassed hands its cause to the latch of its scope; ESTOP
acts in the event of its change.  Log entry 28, the model's reading (DEDUCED): an input or ESTOP that comes at the
level it already has is no event.  Log entry 2, the model's choice: a timer's row brings the clock to its instant. -/
def Obligations.LineInputs : Prop :=
  ∀ s : State, s.Ready →
    (∀ (x : DebouncedInput) (level : Bool), (s.debounced x).level ≠ level →
      exec (.lineInputChange x level) s = .next (s.updDebounced x fun i => { i with
        level := level, due := some (s.clock + debounceTenths s.store.debounce x * 100) })) ∧
    (∀ (x : DebouncedInput) (level : Bool), (s.debounced x).level = level →
      exec (.lineInputChange x level) s = .next s) ∧
    (∀ (x : DebouncedInput) (due : Nat), (s.debounced x).due = some due →
      let i := s.debounced x
      let r := (s.reach due).updDebounced x fun i => { i with
        settled := if i.level then .active else .clear, due := none }
      (i.settled = (if i.level then .active else .clear) → exec (.debounceExpiry x) s = .next r) ∧
      (i.settled ≠ .active → i.level = true → s.isBypassed x = true → exec (.debounceExpiry x) s = .next r) ∧
      (i.settled ≠ .active → i.level = true → s.isBypassed x = false →
        ∃ t, exec (.debounceExpiry x) s = .next t ∧ (t.debounced x).settled = .active ∧
          (t.debounced x).due = none ∧ (t.latch (s.latchOf x)).state = .tripped ∧
          .debounced x ∈ (t.latch (s.latchOf x)).contributing ∧
          ((s.latch (s.latchOf x)).state = .normal → (t.latch (s.latchOf x)).causes = [causeOf x])) ∧
      (i.settled ≠ .clear → i.level = false →
        ∃ t, exec (.debounceExpiry x) s = .next t ∧ (t.debounced x).settled = .clear ∧
          t.points = s.points ∧ t.inlets = s.inlets ∧
          ∀ y, t.latch y =
            if (s.latch y).state = .tripped ∧ .debounced x ∈ (s.latch y).contributing ∧
                ∀ z ∈ (s.latch y).contributing, z = .debounced x ∨ s.countsClear z = true then
              { s.latch y with state := .clearable }
            else s.latch y)) ∧
    (∀ level, s.shutdown.estop.level = level → exec (.estopChange level) s = .next s) ∧
    (s.shutdown.estop.level = false →
      ∃ t, exec (.estopChange true) s = .next t ∧ t.shutdown.estop = ⟨true, .active, none⟩ ∧
        (t.latch .bay).state = .tripped ∧ .estop ∈ (t.latch .bay).contributing ∧
        ((s.latch .bay).state = .normal →
          (∀ m, (t.pump m).state = .off ∧ (t.pump m).run = false ∧ (t.pump m).claims = []) ∧
          t.pumps.queue = [])) ∧
    (s.shutdown.estop.level = true →
      ∃ t, exec (.estopChange false) s = .next t ∧ t.shutdown.estop = ⟨false, .clear, none⟩ ∧
        (t.latch .bay).causes = (s.latch .bay).causes ∧ t.points = s.points ∧ t.inlets = s.inlets)

/-- R161 to R163: SET_BYPASS by its code: 0x5AC3 turns the bypass ON for its minutes, 0xA53C turns it OFF, any other
turns it OFF and hands BAD_BYPASS_CODE; a bypass that ends, by a request or at its expiry, hands the input's
cause when the input is ACTIVE, and nothing otherwise.  A scope or number out of range is RANGE.  Log entry 2, the
model's choice: BYPASS_EXPIRY brings the clock to the second at which the bypass expires.  Log entry 27, the model's
reading (DEDUCED): a code beyond 16 bits is RANGE. -/
def Obligations.Bypasses : Prop :=
  (∀ (input : Coded BypassName) (x : BypassId), readBypass input = some x ↔
    input = some (match x with
      | .drip p => .drip (numberOf p)
      | .sump b => .sump (numberOf b))) ∧
  (∀ (v : Via) (f : SetBypass) (s : State), s.Ready → partNumber v = 0 → (s.perms v.link).configure = true →
    readBypass f.input = none ∨ 65535 < f.code →
    exec (.setBypass v f) s = .next (answered v 0x42 .range [] s)) ∧
  ∀ (v : Via) (input : Coded BypassName) (x : BypassId) (s : State), s.Ready → partNumber v = 0 →
    (s.perms v.link).configure = true → readBypass input = some x →
    let i := s.debounced (bypassInput x)
    let latch := s.latchOf (bypassInput x)
    (∀ minutes, 1 ≤ minutes → minutes ≤ 480 →
      ∃ t, exec (.setBypass v ⟨input, 0x5AC3, minutes⟩) s = .next (answered v 0x42 .ok [] t) ∧
        t.bypass x = some ⟨s.seconds + minutes * 60, v.link⟩ ∧ t.points = s.points ∧ t.inlets = s.inlets ∧
        ∀ y, (t.latch y).causes = (s.latch y).causes ∧
          (t.latch y).state =
            if (s.latch y).state = .tripped ∧ .debounced (bypassInput x) ∈ (s.latch y).contributing ∧
                ∀ z ∈ (s.latch y).contributing, z = .debounced (bypassInput x) ∨ s.countsClear z = true then
              .clearable
            else (s.latch y).state) ∧
    (∀ minutes, minutes = 0 ∨ 480 < minutes →
      exec (.setBypass v ⟨input, 0x5AC3, minutes⟩) s = .next (answered v 0x42 .range [] s)) ∧
    (∀ minutes, (s.bypass x).isSome = false ∨ i.settled ≠ .active →
      exec (.setBypass v ⟨input, 0xA53C, minutes⟩) s = .next (answered v 0x42 .ok [] (s.setBypass x none))) ∧
    (∀ minutes, (s.bypass x).isSome = true → i.settled = .active →
      ∃ t, exec (.setBypass v ⟨input, 0xA53C, minutes⟩) s = .next (answered v 0x42 .ok [] t) ∧
        t.bypass x = none ∧ (t.latch latch).state = .tripped ∧
        .debounced (bypassInput x) ∈ (t.latch latch).contributing) ∧
    (∀ code minutes, code ≠ 0x5AC3 → code ≠ 0xA53C → code ≤ 65535 →
      ∃ t, exec (.setBypass v ⟨input, code, minutes⟩) s = .next (answered v 0x42 .badCode [] t) ∧
        t.bypass x = none ∧ t.isSet latch = true ∧
        ((s.latch latch).state = .normal → .badBypassCode ∈ (t.latch latch).causes) ∧
        ((s.bypass x).isSome = true → i.settled = .active →
          (t.latch latch).state = .tripped ∧ .debounced (bypassInput x) ∈ (t.latch latch).contributing)) ∧
    ∀ b, s.bypass x = some b →
      let r := (s.reach (b.expiry * 1000)).setBypass x none
      (i.settled ≠ .active → exec (.bypassExpiry x) s = .next r) ∧
      (i.settled = .active →
        ∃ t, exec (.bypassExpiry x) s = .next t ∧ t.bypass x = none ∧ (t.latch latch).state = .tripped ∧
          .debounced (bypassInput x) ∈ (t.latch latch).contributing)

/-! ## The line of a link (sections 10.1 to 10.3) -/

/-- R179 to R182: a good 0xA5 in RATE_SEEK locks the link at the rate whose bit time is nearest; a break returns it to
RATE_SEEK and ends what is in service; a bad or abandoned frame leaves it HUNTING; a reply sent ends the service, and
a BUSY reply that waits goes out next. -/
def Obligations.LinkLine : Prop :=
  ∀ (l : Link) (s : State), s.Ready →
    let u := s.link l
    let linkAs (u : LinkUnit) : State := { s with links := put s.links l u }
    (∀ width, u.rate = none →
      exec (.rateSeekCharacter l width 0xA5 true) s =
        .next (linkAs { u with rate := some (nearestRate width), inFrame := true }) ∧
      ∀ r : Rate, |(width : ℚ) - 1000000000 / (nearestRate width).bits| ≤ |(width : ℚ) - 1000000000 / r.bits|) ∧
    (∀ width char good, u.rate.isSome ∨ char ≠ 0xA5 ∨ good = false →
      exec (.rateSeekCharacter l width char good) s = .next s) ∧
    (u.rate.isSome → exec (.breakLine l) s =
      .next (linkAs { u with
        rate := none, inFrame := false, service := none, busyWaiting := none
        restartOwed := if u.restartOwed = .replying then .over else u.restartOwed })) ∧
    (u.rate = none → exec (.breakLine l) s = .next s) ∧
    (u.rate.isSome → exec (.badFrame l) s = .next (linkAs { u with inFrame := false }) ∧
      exec (.frameGapTimeout l) s = .next (linkAs { u with inFrame := false })) ∧
    (u.rate = none → exec (.badFrame l) s = .next s ∧ exec (.frameGapTimeout l) s = .next s) ∧
    (u.service = none → exec (.replySent l) s = .next s) ∧
    (u.service.isSome → u.busyWaiting = none → exec (.replySent l) s =
      .next (linkAs { u with
        service := none, restartOwed := if u.restartOwed = .replying then .over else u.restartOwed })) ∧
    ∀ tag code, u.service.isSome → u.busyWaiting = some (tag, code) → u.rate.isSome →
      let busy : Reply := ⟨tag, code, .busy, 0, []⟩
      exec (.replySent l) s = .next (linkAs { u with
        service := some busy, busyWaiting := none, lastReply := some busy
        restartOwed := if u.restartOwed = .replying then .over else u.restartOwed })

/-- R181: a frame is good when LEN is 2 to 250, as many characters follow it as it says, and the CRC over LEN through
the last payload byte equals the two CHECK characters, high byte first; what each byte makes of that CRC.  R182, R183: a
good frame on a LOCKED link with no request in service is the request it spells, taken on that
link with its TAG; one whose CODE names none is UNKNOWN_REQUEST, and one whose payload has no length of the request is
RANGE; while a request is in service it waits BUSY; in RATE_SEEK a frame is nothing.  Log entry 35, the model's
choice: an OPEN_ORDER or OPEN_DELIVERY with a payload of a wrong length wakes nothing.  Section 10.4, R194: the CODEs
of the catalogue with the one payload length of each, with or without a part number (log entry 18, the model's
reading); every payload of that length is a request, but for STOCK_REPORT and SET_MODE with a mode that is not
numbered, which are RANGE (log entry 27, the model's reading); and what the payloads of one request of each
shape spell, high byte first: numbers, an
absent field, a choice of form, an enumeration, a signed number, a set, a list and a text.  Log entry 52, the model's
choice: the fields of forms not chosen and the unused items of a list are not looked at. -/
def Obligations.GoodFrames : Prop :=
  (∀ (bytes : List Byte) (g : GoodFrame), readFrame bytes = some g ↔
    ∃ len hi lo : Byte, bytes = len :: g.tag :: g.code :: (g.payload ++ [hi, lo]) ∧
      len.toNat = g.payload.length + 2 ∧ len.toNat ≤ 250 ∧
      (crc16 (len :: g.tag :: g.code :: g.payload)).toNat = hi.toNat * 256 + lo.toNat) ∧
  (crc16 [] = 0xFFFF ∧ ∀ (bytes : List Byte) (b : Byte), crc16 (bytes ++ [b]) =
    [7, 6, 5, 4, 3, 2, 1, 0].foldl
      (fun (crc : BitVec 16) bit => if crc.getLsbD 15 ≠ b.getLsbD bit then (crc <<< 1) ^^^ 0x1021 else crc <<< 1)
      (crc16 bytes)) ∧
  (∀ (l : Link) (bytes : List Byte) (key : Bool) (g : GoodFrame) (s : State), s.Running →
    readFrame bytes = some g →
    let u := s.link l
    let hunting : State := { s with links := put s.links l { u with inFrame := false } }
    (u.rate = none → exec (.goodFrame l bytes key) s = .next s) ∧
    (u.rate.isSome → u.inService = true → exec (.goodFrame l bytes key) s =
      .next { s with links := put s.links l { u with
        inFrame := false, busyWaiting := some (g.tag, g.code) } }) ∧
    (u.rate.isSome → u.inService = false →
      (∀ i, frameContent l g key = .request i →
        (∃ v, viaOf i = some v ∧ v.link = l ∧ v.tag = g.tag) ∧ requestCode i = some g.code.toNat ∧
        exec (.goodFrame l bytes key) s = exec i hunting) ∧
      (payloadLength g.code.toNat = none →
        exec (.goodFrame l bytes key) s = .next (hunting.reply l ⟨g.tag, g.code, .unknownRequest, 0, []⟩)) ∧
      (∀ n, payloadLength g.code.toNat = some n → g.payload.length ≠ n → g.payload.length ≠ n + 1 →
        exec (.goodFrame l bytes key) s = .next (hunting.reply l ⟨g.tag, g.code, .range, 0, []⟩)) ∧
      (frameContent l g key = .outOfRange →
        exec (.goodFrame l bytes key) s = .next (hunting.reply l ⟨g.tag, g.code, .range, 0, []⟩)))) ∧
  (∀ code length, payloadLength code = some length ↔ (code, length) ∈
    [(0x01, 0), (0x02, 0), (0x03, 1), (0x04, 3), (0x05, 0), (0x06, 2), (0x07, 7), (0x10, 13), (0x11, 5), (0x12, 1),
      (0x13, 0), (0x18, 19), (0x19, 5), (0x1A, 1), (0x20, 2), (0x21, 7), (0x22, 2), (0x30, 2), (0x31, 0), (0x32, 2),
      (0x33, 42), (0x34, 42), (0x35, 2), (0x36, 9), (0x37, 6), (0x38, 2), (0x39, 1), (0x3A, 11), (0x40, 0), (0x41, 3),
      (0x42, 7), (0x43, 9), (0x48, 9), (0x49, 4), (0x50, 0), (0x51, 1), (0x52, 4), (0x53, 9), (0x54, 0), (0x60, 35),
      (0x61, 4), (0x62, 27), (0x63, 17), (0x64, 103), (0x65, 2), (0x66, 2)]) ∧
  ∀ (l : Link) (tag : Byte) (key : Bool),
    let content (code : Byte) (payload : List Byte) : FrameContent := frameContent l ⟨tag, code, payload⟩ key
    (∀ (code : Byte) (payload : List Byte), payloadLength code.toNat = some payload.length →
      (∀ part, (code = 0x20 ∧ ∃ k mode, payload = [k, mode] ∧ mode ≠ 1 ∧ mode ≠ 2) ∨
          (code = 0x51 ∧ ∃ mode, payload = [mode] ∧ (mode = 0 ∨ 4 < mode.toNat)) →
        content code payload = .outOfRange ∧ content code (payload ++ [part]) = .outOfRange) ∧
      (¬(code = 0x20 ∧ ∃ k mode, payload = [k, mode] ∧ mode ≠ 1 ∧ mode ≠ 2) →
        ¬(code = 0x51 ∧ ∃ mode, payload = [mode] ∧ (mode = 0 ∨ 4 < mode.toNat)) →
        (∃ i, content code payload = .request i ∧ viaOf i = some ⟨l, tag, none⟩ ∧ requestCode i = some code.toNat) ∧
        ∀ part, ∃ i, content code (payload ++ [part]) = .request i ∧ viaOf i = some ⟨l, tag, some part⟩ ∧
          requestCode i = some code.toNat)) ∧
    let v : Via := ⟨l, tag, none⟩
    let word (a b : Byte) : Nat := a.toNat * 256 + b.toNat
    let long (a b c d : Byte) : Nat := ((a.toNat * 256 + b.toNat) * 256 + c.toNat) * 256 + d.toNat
    let word? (a b : Byte) : Option Nat := if a = 0xFF ∧ b = 0xFF then none else some (word a b)
    let long? (a b c d : Byte) : Option Nat :=
      if a = 0xFF ∧ b = 0xFF ∧ c = 0xFF ∧ d = 0xFF then none else some (long a b c d)
    let first (b : Byte) : Coded Bool := if b = 1 then some true else if b = 2 then some false else none
    let kind (b : Byte) : Coded OrderKind :=
      if b = 1 then some .fuel else if b = 2 then some .service else if b = 3 then some .topup
      else if b = 4 then some .waste else none
    (∀ p a b c d, content 0x11 [p, a, b, c, d] = .request (.stopOrder v ⟨p.toNat, long a b c d⟩)) ∧
    (∀ m a b c, content 0x61 [m, a, b, c] = .request (.setPump v ⟨m.toNat, a.toNat, word b c⟩)) ∧
    (∀ a b, content 0x38 [a, b] = .request (.readDeferred v (word? a b))) ∧
    (∀ p k m n a b c d a' b' c' d' o,
      content 0x10 [p, k, m, n, a, b, c, d, a', b', c', d', o] = .request (.openOrder v
        ⟨p.toNat, kind k, word? m n, long? a b c d, long? a' b' c' d', first o⟩)) ∧
    (∀ x p b, content 0x41 [x, p, b] = .request (.releaseTrip v
      (if x = 1 then some (.point p.toNat) else if x = 2 then some (.bund b.toNat) else if x = 3 then some .bay
        else none) key)) ∧
    (∀ k form a b c d reason, content 0x21 [k, form, a, b, c, d, reason] =
      if form = 1 then .request (.adjustStockSetToGauge v k.toNat)
      else .request (.adjustStockDelta v k.toNat
        (if form = 2 then
          ⟨if long a b c d < 2147483648 then (long a b c d : Int) else (long a b c d : Int) - 4294967296, reason.toNat⟩
        else ⟨0, 256⟩))) ∧
    (∀ m members level, content 0x04 [m, members, level] = .request (.setSubscription v
      ⟨m.toNat,
        if members.toNat < 32 then
          some ⟨members.getLsbD 0, members.getLsbD 1, members.getLsbD 2, members.getLsbD 3, members.getLsbD 4⟩
        else none, level.toNat⟩)) ∧
    (∀ n a b c d e f g h, content 0x53 [n, a, b, c, d, e, f, g, h] = .request (.setShiftTable v
      (if n.toNat ≤ 4 then some ([word a b, word c d, word e f, word g h].take n.toNat) else none))) ∧
    ∀ (i k p : Byte) (chars : List Byte) (a b c d : Byte), chars.length = 12 →
      ∃ (name : List Nat) (spaces : Nat),
        chars.map BitVec.toNat = name ++ List.replicate spaces 0x20 ∧ name.getLast? ≠ some 0x20 ∧
        content 0x18 ([i, k, p] ++ chars ++ [a, b, c, d]) =
          .request (.openDelivery v ⟨i.toNat, k.toNat, p.toNat, name, long? a b c d⟩)

/-! ## Pulses and windows (chapters 1, 2 and 5) -/

/-- R5: a pulse is counted in METERING up to 65,535 with the overrange flag beyond, and not in IDLE.  R13, R14, R24,
R34, R35, R40, R66, R69 to R72: a window end of a point with an order adds its result to the record, posts its signed
net to the posting tank and its entry, evaluates that tank's conditions with the chain check they call for, and passes
the remainders on.  In PRIMING or FLOWING the threshold stops the order by the cause of its limit, and then the no-flow
condition in FLOWING; otherwise a PRIMING point enters FLOWING at the no-flow threshold.  In STOPPING the order closes
at the first window end after 1 s of quiet.  R32, R33, R39, R70: a posting that leaves the product with no draw tank
is reported to every point with an order on it: the order whose window ended takes the report first and what its
window has met after it, as secondaries (log entry 9), and one that waits closes with it (no other order that waits has
counted anything).  R35, R36: the low-flow count goes on in FLOWING and the hose-break count in PRIMING, FLOWING and
STOPPING; a window above 125% of the maximum flow whose count is then 2 or more meets the hose-break condition, and the
second of a run also hands HOSE_BREAK to the point's latch (said apart from the rest); as a further cause of a latch set
before it adds TRIP (R39, R156; log entry 45, DEDUCED).  R66: what an evaluation makes of the two
conditions.  Log entry 46, the model's choice: a pulse at a full count is a pulse counted for the quiet.  Log entry 2,
the model's choice: a window end brings the clock to its own instant. -/
def Obligations.PointWindows : Prop :=
  (∀ (p : PointId) (s : State), s.Ready →
    let m := (s.point p).meter
    let counted (m : Meter) : State := { s with points := put s.points p { s.point p with meter := m } }
    (m.working = none → exec (.meterPulse (.point p)) s = .next s) ∧
    (m.working.isSome → m.pulses < 65535 → exec (.meterPulse (.point p)) s =
      .next (counted { m with pulses := m.pulses + 1, lastPulse := some s.clock })) ∧
    (m.working.isSome → 65535 ≤ m.pulses → exec (.meterPulse (.point p)) s =
      .next (counted { m with overrange := true, lastPulse := some s.clock }))) ∧
  (∀ (p : PointId) (reading : Option Int) (s : State), s.Ready → (s.point p).meter.working = none →
    exec (.windowEnd (.point p) reading) s = .next s) ∧
  (∀ (set : TankSettings) (x : Tank),
    let low := (set.lowCut : Int) * 100000
    let high := (set.highCut : Int) * 100000
    let hysteresis := (set.hysteresis : Int) * 100000
    lowAfter set false x = (if x.book ≤ low then true else if low + hysteresis < x.book then false else x.low) ∧
    fullAfter set true x = (if high ≤ x.book then true else if x.book < high - hysteresis then false else x.full) ∧
    lowAfter set true x = false ∧ fullAfter set false x = false) ∧
  (∀ (p : PointId) (reading : Option Int) (o : Order) (w : Working) (s : State), s.Ready →
    let u := s.point p
    let now := s.reach (u.meter.windowStart + 200)
    let quiet : Prop := u.state = .stopping ∧ max u.stoppingAt (u.meter.lastPulse.getD 0) + 1000 ≤ now.clock
    u.order = some o → u.meter.working = some w → u.hoseBreak = 1 →
    (s.pointSet p).maxFlow * 5 < (windowResult u.meter w reading false).flow * 4 →
    u.state = .priming ∨ u.state = .flowing ∨ u.state = .stopping →
    ∃ t, exec (.windowEnd (.point p) reading) s = .next t ∧ t.isSet (.point p) = true ∧
      ((s.latch (.point p)).state = .normal → (t.latch (.point p)).causes = [.hoseBreak]) ∧
      (¬quiet → ∃ x, (t.point p).order = some x ∧ (t.point p).state = .stopping ∧ (t.point p).hoseBreak = 2 ∧
        (u.state ≠ .stopping → (t.point p).valve = false) ∧
        (u.state = .stopping → x.termination = o.termination) ∧
        (x.termination = some .hoseBreak ∨ .hoseBreak ∈ x.secondaries ∨ 3 ≤ x.secondaries.length) ∧
        ((s.latch (.point p)).state ≠ .normal →
          x.termination = some .trip ∨ .trip ∈ x.secondaries ∨ 3 ≤ x.secondaries.length)) ∧
      (quiet → (t.point p).state = .idle ∧ (t.point p).order = none ∧
        ∃ x, .dispense x ∈ t.journal.held ∧ x.number = o.number ∧ x.point = p ∧
          x.termination = o.termination.getD .stopped ∧
          (x.termination = .hoseBreak ∨ .hoseBreak ∈ x.secondaries ∨ 3 ≤ x.secondaries.length))) ∧
  ∀ (p : PointId) (reading : Option Int) (o : Order) (w : Working) (k : TankId) (s : State), s.Ready →
    s.stock.tripping = false →
    (∀ q, q ≠ p → (s.point q).state = .identifying ∨ (s.point q).state = .awaitPump →
      (s.point q).meter.CountedNothing) →
    let u := s.point p
    let set := s.pointSet p
    u.state ≠ .disabled → u.state ≠ .idle → u.order = some o → u.meter.working = some w →
    s.postingTank o.product = some k → (s.tankSet k).product = o.product →
    (o.limit.isSome → o.limitCause.isSome) → 2 ≤ set.noFlowTime →
    let now := s.reach (u.meter.windowStart + 200)
    let r := windowResult u.meter w reading false
    let amount := signedNet o.kind r.net
    let waiting : Prop := u.state = .identifying ∨ u.state = .awaitPump
    let gushes : Prop := ¬waiting ∧ set.maxFlow * 5 < r.flow * 4
    ¬(gushes ∧ u.hoseBreak = 1) →
    let exhausted : Prop := r.net ≠ 0 ∧ now.exhausts k amount
    let reason := s.emptyReason o.product
    let metered : Prop := u.state = .priming ∨ u.state = .flowing
    let reached : Prop :=
      metered ∧ ∃ limit, o.limit = some limit ∧ max 1 (limit - set.stopAllowance) * 100000 ≤ o.net + r.net
    let breaks : Prop := gushes ∧ 1 ≤ u.hoseBreak
    let low := if u.state = .flowing ∧ r.flow < set.noFlowThreshold then u.lowFlow + 1 else 0
    let dry : Prop := u.state = .flowing ∧ set.noFlowTime * 5 ≤ low
    let quiet : Prop := u.state = .stopping ∧ max u.stoppingAt (u.meter.lastPulse.getD 0) + 1000 ≤ now.clock
    let met : List Cause :=
      (if reached then o.limitCause.toList else []) ++ (if breaks then [.hoseBreak] else []) ++
      (if dry then
        [if set.nozzleFitted = true ∧ o.kind = .fuel ∧ u.receiver ≠ .uncoupled then .full else .idleStop]
      else [])
    let causes := if exhausted then reason :: met else met
    let added : Order :=
      { o with
        gross := o.gross + r.gross, net := o.net + r.net, lastTemp := some r.temperature
        uncompensated := o.uncompensated || r.uncompensated, overrange := o.overrange || r.overrange
        entries := if r.net = 0 then o.entries else addEntry k amount o.entries }
    let taken : PointUnit := { u with meter := nextWindow u.meter w reading, order := some added }
    let counted : PointUnit :=
      { taken with hoseBreak := if gushes then u.hoseBreak + 1 else 0, lowFlow := low }
    let stopped : Order := { added with secondaries := causes.foldl (addCause o.termination) o.secondaries }
    let flows : Prop := u.state = .priming ∧ set.noFlowThreshold ≤ r.flow
    ∃ t, exec (.windowEnd (.point p) reading) s = .next t ∧ t.clock = now.clock ∧ t.store = s.store ∧
      t.shutdown = s.shutdown ∧ t.bay = s.bay ∧
      (r.net = 0 → t.stock = s.stock) ∧ (r.net ≠ 0 → now.StockPosted k amount t) ∧
      (∀ i, t.inlet i = { s.inlet i with
        delivery := (s.inlet i).delivery.map fun d =>
          if d.tank = k then { d with tally := d.tally - amount } else d }) ∧
      (∀ q, q ≠ p →
        if exhausted ∧ ∃ x ∈ (s.point q).order, x.product = o.product then s.ReportTaken q reason t
        else t.point q = s.point q) ∧
      (¬exhausted → ¬quiet → t.pumps = s.pumps ∧ t.accounts = s.accounts ∧ t.journal = s.journal) ∧
      (waiting → ¬exhausted → t.point p = taken) ∧
      (waiting → exhausted →
        (t.point p).state = .idle ∧ (t.point p).order = none ∧ (t.point p).valve = false ∧
        (t.point p).meter = .idle ∧ t.HoldsRecord p added reason) ∧
      (metered → causes = [] → t.point p =
        { counted with
          state := if flows then .flowing else u.state, primeDue := if flows then none else u.primeDue }) ∧
      (metered → ∀ c rest, causes = c :: rest → t.point p =
        { counted with
          state := .stopping, valve := false, primeDue := none, attendDue := none
          stopDue := some (now.clock + 5000), stoppingAt := now.clock, lowFlow := 0
          order := some
            { added with termination := some c, secondaries := rest.foldl (addCause (some c)) o.secondaries } }) ∧
      (u.state = .stopping → ¬quiet → t.point p = { counted with order := some stopped }) ∧
      (quiet →
        (t.point p).state = .idle ∧ (t.point p).order = none ∧ (t.point p).valve = false ∧
        (t.point p).meter = .idle ∧ (t.point p).stopDue = none ∧
        p ∉ (t.pump set.pump).claims ∧
        ∃ x, t.journal.held.getLast? = some (.dispense x) ∧ x.number = o.number ∧ x.point = p ∧
          x.termination = o.termination.getD .stopped ∧ x.secondaries = stopped.secondaries ∧
          x.gross = added.gross ∧ x.net = added.net ∧ x.entries = added.entries ∧ x.closeTime = now.seconds)

/-- R5, R13, R14, R66, R69 to R71, R73, R92, R96: the same for an inlet: a window end in AWAIT_COUPLING, in RECEIVING
or in STOPPING credits its net to the target tank, evaluates that tank's conditions with the chain check they call
for, and adds it to the delivery.  In AWAIT_COUPLING nothing is judged and nothing else changes.  In RECEIVING it goes
on, or stops with HIGH_LEVEL when the book has reached the high cut, and then with EMPTIED after the no-flow time once
flow has begun.  In STOPPING the first window end after 1 s of quiet begins the settle and lets the RECEIVING flag go;
a window end at the instant of the STOP_DELIVERY that stopped it adds its conditions as secondaries (log entry 13).  A
credit that leaves a product with no draw tank is reported to the points (none that waits has counted anything).  Log
entries 2 and 46, the model's choices: as at a point.  Log entry 51, the model's choice: a window of AWAIT_COUPLING does
not begin flow and leaves the low-flow count as it is.  Log entry 50, the model's choice: the chain check of the flag let
go at the quiet end is run on its own, after the check of the posting. -/
def Obligations.InletWindows : Prop :=
  (∀ (i : InletId) (s : State), s.Ready →
    let m := (s.inlet i).meter
    let counted (m : Meter) : State := { s with inlets := put s.inlets i { s.inlet i with meter := m } }
    (m.working = none → exec (.meterPulse (.inlet i)) s = .next s) ∧
    (m.working.isSome → m.pulses < 65535 → exec (.meterPulse (.inlet i)) s =
      .next (counted { m with pulses := m.pulses + 1, lastPulse := some s.clock })) ∧
    (m.working.isSome → 65535 ≤ m.pulses → exec (.meterPulse (.inlet i)) s =
      .next (counted { m with overrange := true, lastPulse := some s.clock }))) ∧
  (∀ (i : InletId) (reading : Option Int) (s : State), s.Ready → (s.inlet i).meter.working = none →
    exec (.windowEnd (.inlet i) reading) s = .next s) ∧
  ∀ (i : InletId) (reading : Option Int) (d : Delivery) (w : Working) (s : State), s.Ready →
    s.stock.tripping = false → s.WaitersCountedNothing →
    let u := s.inlet i
    let set := s.inletSet i
    u.state = .awaitCoupling ∨ u.state = .receiving ∨ u.state = .stopping → u.delivery = some d →
    u.meter.working = some w →
    let now := s.reach (u.meter.windowStart + 200)
    let r := windowResult u.meter w reading false
    let product := (s.tankSet d.tank).product
    let exhausted : Prop := r.net ≠ 0 ∧ now.exhausts d.tank r.net
    let high : Prop := ((s.tankSet d.tank).highCut : Int) * 100000 ≤ (s.tank d.tank).book + r.net
    let judged : Prop := u.state = .receiving ∨ u.state = .stopping ∧ u.stopRequestAt = some now.clock
    let begun := u.flowBegun || decide (set.noFlowThreshold ≤ r.flow)
    let low := if begun = true ∧ r.flow < set.noFlowThreshold then u.lowFlow + 1 else 0
    let dry : Prop := begun = true ∧ set.noFlowTime * 5 ≤ low
    let quiet : Prop := u.state = .stopping ∧ max u.stoppingAt (u.meter.lastPulse.getD 0) + 1000 ≤ now.clock
    let met : List Cause :=
      (if judged ∧ high then [.highLevel] else []) ++ (if judged ∧ dry then [.emptied] else [])
    let added : Delivery :=
      { d with
        gross := d.gross + r.gross, net := d.net + r.net, lastTemp := some r.temperature
        uncompensated := d.uncompensated || r.uncompensated, overrange := d.overrange || r.overrange }
    let stopped : Delivery := { added with secondaries := met.foldl (addCause d.termination) d.secondaries }
    ∃ t, exec (.windowEnd (.inlet i) reading) s = .next t ∧ t.clock = now.clock ∧ t.store = s.store ∧
      t.shutdown = s.shutdown ∧ t.bay = s.bay ∧ (∀ j, j ≠ i → t.inlet j = s.inlet j) ∧
      (¬quiet →
        (r.net = 0 → t.stock = s.stock) ∧ (r.net ≠ 0 → now.StockPosted d.tank r.net t) ∧
        (¬exhausted → t.points = s.points ∧ t.pumps = s.pumps ∧ t.accounts = s.accounts ∧ t.journal = s.journal) ∧
        (∀ q,
          if exhausted ∧ ∃ x ∈ (s.point q).order, x.product = product then
            s.ReportTaken q (s.emptyReason product) t
          else t.point q = s.point q) ∧
        (t.inlet i).meter = nextWindow u.meter w reading ∧ (t.inlet i).coupled = u.coupled ∧
        (t.inlet i).flowBegun = (if judged then begun else u.flowBegun) ∧
        (t.inlet i).lowFlow = (if judged then low else u.lowFlow)) ∧
      (u.state = .awaitCoupling →
        t.inlet i = { u with meter := nextWindow u.meter w reading, delivery := some added }) ∧
      (u.state = .receiving → met = [] →
        (t.inlet i).state = .receiving ∧ (t.inlet i).valve = u.valve ∧ (t.inlet i).delivery = some added) ∧
      (u.state = .receiving → ∀ c rest, met = c :: rest →
        (t.inlet i).state = .stopping ∧ (t.inlet i).valve = false ∧
        (t.inlet i).stopDue = some (now.clock + 5000) ∧ (t.inlet i).stoppingAt = now.clock ∧
        (t.inlet i).delivery = some
          { added with termination := some c, secondaries := rest.foldl (addCause (some c)) d.secondaries }) ∧
      (u.state = .stopping → ¬quiet →
        (t.inlet i).state = .stopping ∧ (t.inlet i).valve = u.valve ∧ (t.inlet i).stopDue = u.stopDue ∧
        (t.inlet i).delivery = some stopped) ∧
      (quiet →
        let released : Prop := d.holdsFlag = true ∧ t.receiving d.tank = false
        let posted := if r.net = 0 then s.tank d.tank else now.posted d.tank r.net
        let draws (j : ProductId) : Draw := if r.net = 0 then s.draw j else now.drawPosted d.tank r.net j
        (t.inlet i).state = .settling ∧ (t.inlet i).valve = false ∧ (t.inlet i).meter = .idle ∧
        (t.inlet i).stopDue = none ∧ (t.inlet i).settleDue = some (now.clock + set.settleTime * 60000) ∧
        (t.inlet i).delivery = some { stopped with holdsFlag := false, extensions := 0 } ∧
        (∀ j, j ≠ d.tank → t.tank j = s.tank j) ∧
        t.tank d.tank =
          (if released then { posted with quietStart := now.seconds, quietRef := posted.gauged } else posted) ∧
        (∀ j, t.draw j =
          if released ∧ j = product then
            (chainCheck product false { t with stock := { t.stock with draws := Vector.ofFn draws } }).draw j
          else draws j) ∧
        (¬exhausted → ((draws product).current.isSome → (t.draw product).current.isSome) →
          t.points = s.points ∧ t.pumps = s.pumps ∧ t.accounts = s.accounts ∧ t.journal = s.journal))

/-! ## Stop timers and settling (chapters 2 and 5) -/

/-- R41, R44, R96: the stop timer ends a stop.  A point's order closes with its last window in the newest record,
its termination cause kept; an inlet enters SETTLING with its last window added and its hold on the RECEIVING flag
let go.  A pulse counted in the last second is a VALVE_LEAK, handed to the point's latch or to the latch of the
tank's bund, and joins the secondaries before a report of the last window does (log entry 43, the model's reading,
DEDUCED); without one no latch changes, for no hose break is judged on a shortened window (log entry 32, DEDUCED).  The
model's choices: a timer that does not run is no event and one that does brings the clock to its instant (log entry 2),
and the temperature of the shortened window is an operand, a free value (log entry 6). -/
def Obligations.StopTimers : Prop :=
  (∀ (p : PointId) (reading : Option Int) (s : State), s.Ready → (s.point p).stopDue = none →
    exec (.stopTimerExpiry p reading) s = .next s) ∧
  (∀ (i : InletId) (reading : Option Int) (s : State), s.Ready → (s.inlet i).stopDue = none →
    exec (.inletStopTimerExpiry i reading) s = .next s) ∧
  (∀ (p : PointId) (reading : Option Int) (o : Order) (c : Cause) (w : Working) (due : Nat) (s : State), s.Ready →
    let u := s.point p
    u.state = .stopping → u.order = some o → o.termination = some c → u.meter.working = some w →
    u.stopDue = some due →
    let now := s.reach due
    let r := windowResult u.meter w reading true
    let leak : Prop := ∃ x ∈ u.meter.lastPulse, now.clock < x + 1000
    ∃ t x, exec (.stopTimerExpiry p reading) s = .next t ∧ t.journal.held.getLast? = some (.dispense x) ∧
      x.number = o.number ∧ x.point = p ∧ x.termination = c ∧ x.gross = o.gross + r.gross ∧
      x.net = o.net + r.net ∧ x.closeTime = now.seconds ∧ (t.point p).state = .idle ∧
      (t.point p).order = none ∧ (t.point p).valve = false ∧ (t.point p).meter.working = none ∧
      (t.point p).stopDue = none ∧ (∀ y, y ≠ .point p → t.latch y = s.latch y) ∧
      (¬leak → t.latch (.point p) = s.latch (.point p)) ∧
      (leak → t.isSet (.point p) = true ∧
        ((s.latch (.point p)).state = .normal → (t.latch (.point p)).causes = [.valveLeak]) ∧
        (c ≠ .valveLeak → o.secondaries.length < 3 → .valveLeak ∈ x.secondaries))) ∧
  ∀ (i : InletId) (reading : Option Int) (d : Delivery) (w : Working) (due : Nat) (s : State), s.Ready →
    let u := s.inlet i
    u.state = .stopping → u.delivery = some d → u.meter.working = some w → u.stopDue = some due →
    let now := s.reach due
    let r := windowResult u.meter w reading true
    let bund := LatchId.bund (s.tankSet d.tank).bund
    let leak : Prop := ∃ x ∈ u.meter.lastPulse, now.clock < x + 1000
    ∃ t x, exec (.inletStopTimerExpiry i reading) s = .next t ∧ (t.inlet i).delivery = some x ∧
      x.number = d.number ∧ x.termination = d.termination ∧ x.gross = d.gross + r.gross ∧
      x.net = d.net + r.net ∧ x.holdsFlag = false ∧ x.extensions = 0 ∧ (t.inlet i).state = .settling ∧
      (t.inlet i).valve = false ∧ (t.inlet i).meter.working = none ∧ (t.inlet i).stopDue = none ∧
      (t.inlet i).settleDue = some (now.clock + (s.inletSet i).settleTime * 60000) ∧
      (∀ y, y ≠ bund → t.latch y = s.latch y) ∧ (¬leak → t.latch bund = s.latch bund) ∧
      (leak → t.isSet bund = true ∧ ((s.latch bund).state = .normal → (t.latch bund).causes = [.valveLeak]) ∧
        (d.termination ≠ some .valveLeak → d.secondaries.length < 3 → .valveLeak ∈ x.secondaries))

/-- R98 to R102: the settle timer.  With the gauge in FAULT the delivery closes without reconciliation; GOOD and
stable it is reconciled; otherwise the settle goes on by a settle step, at most eight times, and is then reconciled
UNSETTLED.  The variance is the change of the gauged net, less the delivered net and with the debits added
back.  Log entry 2, the model's choice: a settle timer that does not run is no event, and one that does brings the
clock to its instant. -/
def Obligations.SettleTimer : Prop :=
  (∀ (i : InletId) (s : State), s.Ready → (s.inlet i).settleDue = none →
    exec (.settleTimerExpiry i) s = .next s) ∧
  ∀ (i : InletId) (d : Delivery) (due : Nat) (s : State), s.Ready →
    (s.inlet i).settleDue = some due → (s.inlet i).delivery = some d → d.holdsFlag = false →
    let now := s.reach due
    let tank := s.tank d.tank
    let settled : Prop := tank.gauge = .good ∧ tank.stable = true
    let reads : Prop := tank.gauge = .good ∨ tank.gauge = .held
    (reads → ¬settled → d.extensions < 8 →
      exec (.settleTimerExpiry i) s = .next { now with inlets := put s.inlets i { s.inlet i with
        settleDue := some (now.clock + (s.inletSet i).settleStep * 60000)
        delivery := some { d with extensions := d.extensions + 1 } } }) ∧
    (settled ∨ (reads ∧ 8 ≤ d.extensions) ∨ tank.gauge = .fault →
      ∃ t x, exec (.settleTimerExpiry i) s = .next t ∧ t.journal.held.getLast? = some (.delivery x) ∧
        x.number = d.number ∧ x.inlet = i ∧ x.tank = d.tank ∧ x.net = d.net ∧ x.closeTime = now.seconds ∧
        x.reconciliation = (if tank.gauge = .fault then .gaugeFault else .done) ∧
        (settled → x.unsettled = false) ∧ (reads → ¬settled → x.unsettled = true) ∧
        (reads → x.after = tank.gauged ∧ x.debits = some (decilitres d.tally) ∧
          ∀ a b, d.before = some b → tank.gauged = some a →
            x.variance = some (a - b - (decilitres d.net - decilitres d.tally))) ∧
        (tank.gauge = .fault → x.after = none ∧ x.variance = none ∧ x.debits = none) ∧
        (t.inlet i).state = .idle ∧ (t.inlet i).delivery = none ∧ (t.inlet i).settleDue = none ∧
        t.journal.openCount = s.journal.openCount - 1 ∧ t.stock = s.stock ∧ t.points = s.points)

/-! ## Pumps (chapter 3) -/

/-- R53 to R58: the events of the pump manager.  A start that completes leaves the pump RUNNING with its waiting
points in PRIMING, or without claims HOLDING or OFF, and lets the head of the queue start; a hold that runs out
leaves it OFF; PUMP_FAULT takes a pump in use out of the queue, FAULTED with no claim, and stops the orders of its
claim set; its end leaves it OFF, or queues it anew when claims stand; SUPPLY_READY lets the head start.  Log entry 2,
the model's choice: a start or hold timer that does not run is no event.  Log entry 28, the model's reading (DEDUCED):
PUMP_FAULT or SUPPLY_READY at the level it already has is no event.  Log entry 11, the model's choice: the points of a
claim set take a fault in ascending point order. -/
def Obligations.PumpEvents : Prop :=
  ∀ (m : PumpId) (s : State), s.Ready →
    let u := s.pump m
    let starts : Prop := s.pumps.supplyReady = true ∧ s.isSet .bay = false
    (u.startDue = none → exec (.startTimerExpiry m) s = .next s) ∧
    (u.holdDue = none → exec (.holdTimerExpiry m) s = .next s) ∧
    (∀ due, u.startDue = some due → m ∉ s.pumps.queue →
      let now := s.reach due
      ∃ t, exec (.startTimerExpiry m) s = .next t ∧ (t.pump m).startDue = none ∧
        (u.claims = [] →
          (t.pump m).state = (if (s.pumpSet m).holdTime = 0 then .off else .holding) ∧
          (t.pump m).holdDue = (if (s.pumpSet m).holdTime = 0 then none
            else some (now.clock + (s.pumpSet m).holdTime * 1000)) ∧ t.points = s.points) ∧
        (u.claims ≠ [] →
          (t.pump m).state = .running ∧ (t.pump m).run = true ∧
          ∀ p, if p ∈ u.claims ∧ (s.point p).state = .awaitPump then
              (t.point p).state = .priming ∧ (t.point p).valve = true ∧
              (t.point p).primeDue = some (now.clock + (s.pointSet p).primeTime * 1000)
            else t.point p = s.point p) ∧
        ∀ n rest, s.pumps.queue = n :: rest → starts → (∀ k, k ≠ m → (s.pump k).state ≠ .starting) →
          (t.pump n).state = .starting ∧ (t.pump n).run = true ∧ t.pumps.queue = rest ∧
          (t.pump n).startDue = some (now.clock + (s.pumpSet n).startTime * 1000)) ∧
    (∀ due, u.holdDue = some due → exec (.holdTimerExpiry m) s = .next
      ((s.reach due).updPump m fun u => { u with state := .off, startDue := none, holdDue := none, run := false })) ∧
    (u.faultLine = true → exec (.pumpFaultActive m) s = .next s) ∧
    (u.faultLine = false → u.state = .off ∨ u.state = .faulted →
      exec (.pumpFaultActive m) s = .next (s.updPump m fun u => { u with faultLine := true })) ∧
    (u.faultLine = false → u.state ≠ .off → u.state ≠ .faulted → s.UnitsFit →
      ∃ t, exec (.pumpFaultActive m) s = .next t ∧ (t.pump m).state = .faulted ∧ (t.pump m).run = false ∧
        (t.pump m).claims = [] ∧ (t.pump m).faultLine = true ∧ m ∉ t.pumps.queue ∧
        ∀ p ∈ u.claims,
          ((s.point p).state = .identifying ∨ (s.point p).state = .awaitPump →
            (t.point p).state = .idle ∧ (t.point p).order = none) ∧
          ((s.point p).state = .priming ∨ (s.point p).state = .flowing →
            (t.point p).state = .stopping ∧ (t.point p).valve = false ∧
            (t.point p).order.bind Order.termination = some .pumpFault)) ∧
    (u.faultLine = false → exec (.pumpFaultInactive m) s = .next s) ∧
    (u.faultLine = true → u.state ≠ .faulted →
      exec (.pumpFaultInactive m) s = .next (s.updPump m fun u => { u with faultLine := false })) ∧
    (u.faultLine = true → u.state = .faulted → u.claims = [] →
      exec (.pumpFaultInactive m) s = .next (s.updPump m fun u => { u with
        faultLine := false, state := .off, startDue := none, holdDue := none, run := false })) ∧
    (u.faultLine = true → u.state = .faulted → u.claims ≠ [] → m ∉ s.pumps.queue →
      ∃ t, exec (.pumpFaultInactive m) s = .next t ∧ (t.pump m).faultLine = false ∧
        (t.pump m).claims = u.claims ∧ t.points = s.points ∧
        (s.pumps.queue = [] → starts → (∀ k, (s.pump k).state ≠ .starting) → (t.pump m).state = .starting) ∧
        (s.pumps.queue ≠ [] ∨ ¬starts ∨ (∃ k, (s.pump k).state = .starting) →
          (t.pump m).state = .queued ∧ (t.pump m).run = false ∧ m ∈ t.pumps.queue)) ∧
    exec .supplyReadyInactive s = .next { s with pumps := { s.pumps with supplyReady := false } } ∧
    (s.pumps.supplyReady = true → exec .supplyReadyActive s = .next s) ∧
    (s.pumps.supplyReady = false →
      let up : State := { s with pumps := { s.pumps with supplyReady := true } }
      (s.pumps.queue = [] → exec .supplyReadyActive s = .next up) ∧
      ∀ n rest, s.pumps.queue = n :: rest →
        ((∃ k, (s.pump k).state = .starting) ∨ s.isSet .bay = true → exec .supplyReadyActive s = .next up) ∧
        ((∀ k, (s.pump k).state ≠ .starting) → s.isSet .bay = false →
          exec .supplyReadyActive s = .next { s with pumps :=
            { units := put s.pumps.units n { s.pump n with
                state := .starting, startDue := some (s.clock + (s.pumpSet n).startTime * 1000)
                holdDue := none, run := true }
              queue := rest, supplyReady := true } }))

/-! ## Gauges and stock checks (chapter 4) -/

/-- R74, R76, R77, R79, R85, R93: a gauge's second.  An invalid reading leaves the gauge HELD within 60 s of the last
good reading and FAULT after; a valid one makes it GOOD with its gauged net and variance, restarts the quiet window of
a gauge that was in FAULT or WAITING, rebases a tank that waits for it, stops the deliveries received at the high cut,
and hands TANK_LOSS on a loss in a quiet tank.  A rebase sets the tank's book, evaluates its conditions, restarts its
quiet window and runs the chain check of its product: the first eligible tank of the chain where there was no draw
tank, and a product left with none is reported to the points (none that waits has counted anything).  A stock check
counts the tanks out of tolerance, and posts STOCK_VARIANCE for each that it finds so for the third time.  The model's
readings (DEDUCED): log entry 21, a rebased tank's variance is that of its new book; log entry 48, the chain check of
a rebase keeps a draw tank that is in the chain and eligible.  Log entry 2, the model's choice: the stock check brings
the clock to its instant. -/
def Obligations.GaugesAndStockChecks : Prop :=
  (∀ (k : TankId) (report : Option GaugeReport) (s : State), s.Ready → (∀ r ∈ report, 65535 < r.level) →
    let tank := s.tank k
    let unstable (s : State) : State := s.updTank k fun x => { x with stable := false }
    let fails : State := ((unstable s).updTank k fun x =>
      { x with gauge := .fault, gauged := none, variance := none }).post (.gaugeFault k tank.lastGood)
    (tank.gauge = .fault → exec (.gaugeReading k report) s = .next (unstable s)) ∧
    (tank.gauge = .waiting → exec (.gaugeReading k report) s =
      .next (if s.seconds - s.bay.restart.seconds < 60 then unstable s else fails)) ∧
    ∀ last, tank.gauge = .good ∨ tank.gauge = .held → tank.lastGood = some last →
      exec (.gaugeReading k report) s = .next
        (if s.seconds - last < 60 then s.updTank k fun x => { x with stable := false, gauge := .held } else fails)) ∧
  (∀ (k : TankId) (r : GaugeReport) (s : State), s.Ready → r.level ≤ 65535 →
    let tank := s.tank k
    let set := s.tankSet k
    let gauged := s.gaugedNet k r.level r.temperature
    let fresh : Prop := tank.gauge = .fault ∨ tank.gauge = .waiting
    let ref := if fresh then some gauged else tank.quietRef
    let start := if fresh then s.seconds else tank.quietStart
    let lost : Prop := s.receiving k = false ∧ start + s.store.timing.quietPeriod * 60 ≤ s.seconds ∧
      ∃ x ∈ ref, (set.leakThreshold : Int) < x - gauged
    let atHigh (i : InletId) : Prop := (s.inlet i).state = .receiving ∧
      (∃ d ∈ (s.inlet i).delivery, d.tank = k) ∧ (set.highCut : Int) ≤ gauged
    let read : Tank := { tank with
      gauge := .good, gauged := some gauged, stable := r.stable, lastGood := some s.seconds
      overStrap := decide ((look set.strapping 11).level < r.level), quietStart := start, quietRef := ref
      variance := some (gauged - decilitres tank.book) }
    (tank.rebasePending = false → ¬lost → (∀ i, ¬atHigh i) →
      exec (.gaugeReading k (some r)) s = .next (s.updTank k fun _ => read)) ∧
    (tank.rebasePending = false → ∀ i, atHigh i → ¬lost →
      ∃ t, exec (.gaugeReading k (some r)) s = .next t ∧ (t.inlet i).state = .stopping ∧ t.tank k = read ∧
        (t.inlet i).delivery.bind Delivery.termination = some .highLevel ∧ (t.inlet i).valve = false) ∧
    (tank.rebasePending = false → lost →
      ∃ t, exec (.gaugeReading k (some r)) s = .next t ∧ t.isSet (.bund set.bund) = true ∧
        ((s.latch (.bund set.bund)).state = .normal → (t.latch (.bund set.bund)).causes = [.tankLoss])) ∧
    (tank.rebasePending = true → (s.draw set.product).current = none ∨ s.WaitersCountedNothing →
      let draw := s.draw set.product
      let waste := s.isWaste set.product
      let rebooked : Tank := { read with
        book := gauged * 100000, rebased := true, rebasePending := false, quietStart := s.seconds
        quietRef := some gauged, variance := some 0 }
      let rebased : Tank := { rebooked with
        low := lowAfter set waste rebooked, full := fullAfter set waste rebooked }
      let checked := chainCheck set.product false (s.updTank k fun _ => rebased)
      ∃ t, exec (.gaugeReading k (some r)) s = .next t ∧ t.tank k = rebased ∧ t.shutdown = s.shutdown ∧
        (∀ other, other ≠ k → t.tank other = s.tank other) ∧ t.stock.reports = [] ∧
        (∀ j, j ≠ set.product → t.draw j = s.draw j) ∧ t.draw set.product = checked.draw set.product ∧
        (draw.current = none →
          (t.draw set.product).current = (s.productSet set.product).chain.find? (t.eligible set.product)) ∧
        (∀ old, draw.current = some old → old ∈ (s.productSet set.product).chain →
          t.eligible set.product old = true → t.draw set.product = draw) ∧
        (∀ i,
          if atHigh i then
            (t.inlet i).state = .stopping ∧ (t.inlet i).valve = false ∧
            (t.inlet i).delivery.bind Delivery.termination = some .highLevel
          else t.inlet i = s.inlet i) ∧
        (s.stock.tripping = false → ∀ q,
          if draw.current.isSome ∧ (t.draw set.product).current = none ∧
              ∃ o ∈ (s.point q).order, o.product = set.product then
            s.ReportTaken q (s.emptyReason set.product) t
          else t.point q = s.point q))) ∧
  ∀ s : State, s.Ready →
    let now := s.reach s.stock.checkDue
    ∃ t, exec .stockCheckExpiry s = .next t ∧ t.clock = now.clock ∧
      t.stock.checkDue = now.clock + s.store.timing.checkPeriod * 60000 ∧ t.stock.draws = s.stock.draws ∧
      t = { now with stock := t.stock, links := t.links } ∧ t.stock.reports = s.stock.reports ∧
      t.links = (postAll
        (allTanks.filterMap fun k =>
          let x := s.tank k
          match x.variance with
          | none => none
          | some off =>
            if (x.gauge = .good ∨ x.gauge = .held) ∧ ((s.tankSet k).tolerance : Int) < off.natAbs ∧ x.runCount = 2 then
              some (.stockVariance k (decilitres x.book) x.gauged off)
            else none)
        now).links ∧
      ∀ k, t.tank k =
        { s.tank k with
          runCount :=
            if (s.tank k).gauge = .good ∨ (s.tank k).gauge = .held then
              match (s.tank k).variance with
              | none => (s.tank k).runCount
              | some x =>
                if ((s.tankSet k).tolerance : Int) < x.natAbs then min 3 ((s.tank k).runCount + 1) else 0
            else (s.tank k).runCount }

/-! ## Restarts (chapter 11) -/

/-- R199 to R202, R47, R62, R86, R104, R116, R126, R144, R167, R193: a supply dip stops the controller with every
valve, pump and NOTICE line released, every metering window dropped and every reply abandoned, and keeps the retained
memory (log entry 53, the model's choice: at the dip, and not first when the supply returns); RESTART_REQUEST owes its link a restart once the reply is over
(log entry 29).  A restart that finds the image valid takes a missed shift change first, closes every open operation in
the journal in ascending order of order number with cause INTERRUPTED and the causes it had taken as secondaries (log
entry 36), leaves the units, pumps, links, bypasses and gauges in their restart states and the books as they were, and
leaves LOCKED as it is and every other mode OPEN; one that finds it lost leaves the tables empty, the clock at 0 and
every tank waiting for its rebase.  Either writes the restart record and posts RESTARTED with it to every link that has
room.  When the supply fails again after some events of the sequence, those alone are kept and the controller waits
for the restart that starts again from the check and closes what remains (log entry 42).  Log entries 2, 4 and 7, the
model's choices: the clock, the levels of the lines kept through a restart, and the controller that is stopped.  Log entry 54,
the model's choice: a retained next shift start that has not been reached is kept, also when the settings store is
found blank. -/
def Obligations.Restarts : Prop :=
  (∀ (v : Via) (s : State), s.Ready → partNumber v = 0 → (s.perms v.link).configure = true →
    exec (.restartRequest v) s = .next (answered v 0x54 .ok []
      { s with links := put s.links v.link { s.link v.link with
        restartOwed := if (s.link v.link).rate.isSome then .replying else .over } })) ∧
  (∀ s : State, s.Running → ∃ t, exec .supplyDip s = .next t ∧ t.bay = { s.bay with stopped := true } ∧
    (∀ p, (t.point p).valve = false ∧ (t.point p).meter.working = none ∧
      (t.point p).order = (s.point p).order ∧ (t.point p).state = (s.point p).state) ∧
    (∀ i, (t.inlet i).valve = false ∧ (t.inlet i).meter.working = none ∧
      (t.inlet i).delivery = (s.inlet i).delivery ∧ (t.inlet i).state = (s.inlet i).state) ∧
    (∀ m, (t.pump m).run = false ∧ (t.pump m).state = (s.pump m).state) ∧
    (∀ l, (t.link l).notice = false ∧ (t.link l).service = none ∧ (t.link l).restartOwed = .none ∧
      (t.link l).queue = (s.link l).queue) ∧
    t.stock = s.stock ∧ t.accounts = s.accounts ∧ t.journal = s.journal ∧ t.shutdown = s.shutdown ∧
    t.store = s.store ∧ t.clock = s.clock) ∧
  (∀ (l : Link) (check : MemoryCheck) (s : State), s.Running → (s.link l).restartOwed ≠ .over →
    exec (.requestedRestart l check) s = .next s) ∧
  (∀ (check : MemoryCheck) (s : State), s.Running → exec (.supplyReturn check) s = .next s) ∧
  ∀ (i : Instr) (cause : RestartCause) (check : MemoryCheck) (link : Option Link) (offMs : Nat) (s : State),
    (i = .powerOn check offMs ∧ cause = .powerOn ∧ link = none) ∨
      (i = .supplyReturn check ∧ cause = .supplyDip ∧ link = none ∧ offMs = 0 ∧ s.bay.stopped = true) ∨
      (∃ l, i = .requestedRestart l check ∧ cause = .request ∧ link = some l ∧ offMs = 0 ∧ s.Running ∧
        (s.link l).restartOwed = .over) →
    let now := { s with clock := s.clock + offMs }
    let operations := sortByNumber s.openOperations
    let closed := match check.cutAfter with
      | none => operations
      | some n => operations.take (n - 1)
    let isClosed (x : OpenOperation) : Prop := ∃ y ∈ closed, y.2 = x
    let shifted : Prop := check.cutAfter ≠ some 0 ∧ s.bay.nextShift ≤ now.calendar
    ∃ t, exec i s = .next t ∧ t.store = (if check.settingsValid then s.store else .blank) ∧
      t.pending = s.pending ∧
      (∀ p, (t.point p).valve = false ∧ (t.point p).meter.working = none ∧ (t.point p).receiver = .uncoupled ∧
        (t.point p).state = (if (t.pointSet p).enabled then .idle else .disabled)) ∧
      (∀ n, (t.inlet n).state = .idle ∧ (t.inlet n).valve = false ∧ (t.inlet n).meter.working = none ∧
        (t.inlet n).coupled = (s.inlet n).coupled) ∧
      (∀ m, (t.pump m).state = .off ∧ (t.pump m).claims = [] ∧ (t.pump m).run = false ∧
        (t.pump m).faultLine = (s.pump m).faultLine) ∧ t.pumps.queue = [] ∧
      (∀ l, (t.link l).rate = none ∧ (t.link l).running = none ∧ (t.link l).result = none ∧
        (t.link l).service = none ∧ (t.link l).restartOwed = .none ∧ look t.accounts.cursors l = 0) ∧
      (∀ k, (t.tank k).gauge = .waiting ∧ (t.tank k).gauged = none ∧ (t.tank k).variance = none ∧
        (t.tank k).stable = false) ∧
      (check.imageValid = true →
        t.clock = s.clock + offMs ∧ (t.bay.mode = .locked ↔ s.bay.mode = .locked) ∧ t.bay.mode ≠ .standby ∧
        (∀ p, (t.point p).order = if isClosed (.order p) then none else (s.point p).order) ∧
        (∀ n, (t.inlet n).delivery = if isClosed (.delivery n) then none else (s.inlet n).delivery) ∧
        (∀ p o, (s.point p).order = some o → isClosed (.order p) → t.HoldsInterruptedOrder p o) ∧
        (∀ n d, (s.inlet n).delivery = some d → isClosed (.delivery n) → t.HoldsInterruptedDelivery n d) ∧
        (t.journal.held.drop (t.journal.held.length - closed.length)).map Record.number = closed.map Prod.fst ∧
        (closed.map Prod.fst).Pairwise (· ≤ ·) ∧
        t.journal.nextPosition = s.journal.nextPosition + closed.length ∧
        t.journal.uncollected = s.journal.uncollected + closed.length ∧
        t.journal.openCount = s.journal.openCount - closed.length ∧
        t.journal.nextOrder = s.journal.nextOrder ∧ t.journal.mark = s.journal.mark ∧
        (∀ k, (t.tank k).book = (s.tank k).book ∧ (t.tank k).rebasePending = (s.tank k).rebasePending) ∧
        t.bay.nextShift = (if shifted then nextShiftStart now.calendar t.store.shifts else s.bay.nextShift) ∧
        t.accounts.lastShiftChange = (if shifted then t.seconds else s.accounts.lastShiftChange) ∧
        (∀ machine a, s.account machine = some a → (∀ p, ∀ o ∈ (s.point p).order, o.machine ≠ some machine) →
          t.account machine = some { a with shiftUsed := if shifted then 0 else a.shiftUsed }) ∧
        (∀ machine a p o, s.account machine = some a → (s.point p).order = some o → o.machine = some machine →
          o.kind = .fuel → a.openSet = [o.number] → (∀ e ∈ s.accounts.deferred, e.machine ≠ machine) →
          (∀ q, q ≠ p → ∀ x ∈ (s.point q).order, x.machine ≠ some machine) → isClosed (.order p) →
          ∃ b, t.account machine = some b ∧ b.openSet = [] ∧
            b.shiftUsed =
              min 9999999 ((if shifted then 0 else a.shiftUsed) + (o.net + 50000) / 100000))) ∧
      (check.imageValid = false →
        t.clock = 0 ∧ t.bay.mode = .locked ∧ t.bay.offset = 0 ∧ t.bay.clockSet = false ∧
        t.bay.curtailed = false ∧ t.accounts.table = [] ∧ t.accounts.deferred = [] ∧
        t.journal = ⟨[], 1, 0, 0, 0, 1⟩ ∧ (∀ p, (t.point p).order = none) ∧ (∀ n, (t.inlet n).delivery = none) ∧
        (∀ k, (t.tank k).rebasePending = true ∧ (t.tank k).book = 0) ∧ (∀ k, t.draw k = ⟨none, none⟩) ∧
        ∀ y, y ≠ .bay → t.latch y = ⟨.normal, [], [], none, none⟩) ∧
      (check.cutAfter = none →
        t.bay.stopped = false ∧ t.bay.restart.cause = cause ∧ t.bay.restart.link = link ∧
        t.bay.restart.imageKept = check.imageValid ∧ t.bay.restart.settingsKept = check.settingsValid ∧
        t.bay.restart.seconds = t.seconds ∧
        t.bay.restart.interrupted = (if check.imageValid then s.openOperations.length else 0) ∧
        (∀ l, (t.link l).overflow = false →
          (t.link l).queue.getLast? = some ⟨.restarted t.bay.restart, t.seconds⟩) ∧
        (∀ x, t.bypass x = none) ∧ (∀ x, (t.debounced x).settled = .unsettled ∧
          (t.debounced x).level = (s.debounced x).level ∧
          (t.debounced x).due = some (t.clock + debounceTenths t.store.debounce x * 100)) ∧
        t.shutdown.estop =
          ⟨s.shutdown.estop.level, if s.shutdown.estop.level then .active else .clear, none⟩) ∧
      ∀ n, check.cutAfter = some n →
        t.bay.stopped = true ∧ (∀ l, (t.link l).notice = false) ∧
        t.bay.restart = (if check.imageValid then s.bay.restart else .first) ∧
        (check.imageValid = true → n ≤ operations.length + 1 → t.shutdown = s.shutdown)
end

