-- ==== Sys2Proof/Laws/State.lean ====
section
/-! SUPPORT. What each update of the state leaves alone: one lemma for each field of `State`, and for each
field of the block that the update changes a part of. -/

namespace Sys2Proof.Machine

open Sys2Proof

/-- What no step of a loop changes, the loop does not change. -/
theorem forEach_keeps {α β : Type} {g : State → β} (xs : List α) (f : α → State → State)
    (h : ∀ x s, g (f x s) = g s) (s : State) : g (forEach xs f s) = g s := by
  induction xs generalizing s with
  | nil => rfl
  | cons x xs ih => exact (ih (f x s)).trans (h x s)

variable (s : State)

/-! ### updPoint -/

@[simp] theorem State.updPoint_clock (p : PointId) (f : PointUnit → PointUnit) : (State.updPoint p f s).clock = s.clock := rfl
@[simp] theorem State.updPoint_bay (p : PointId) (f : PointUnit → PointUnit) : (State.updPoint p f s).bay = s.bay := rfl
@[simp] theorem State.updPoint_store (p : PointId) (f : PointUnit → PointUnit) : (State.updPoint p f s).store = s.store := rfl
@[simp] theorem State.updPoint_pumps (p : PointId) (f : PointUnit → PointUnit) : (State.updPoint p f s).pumps = s.pumps := rfl
@[simp] theorem State.updPoint_inlets (p : PointId) (f : PointUnit → PointUnit) : (State.updPoint p f s).inlets = s.inlets := rfl
@[simp] theorem State.updPoint_stock (p : PointId) (f : PointUnit → PointUnit) : (State.updPoint p f s).stock = s.stock := rfl
@[simp] theorem State.updPoint_accounts (p : PointId) (f : PointUnit → PointUnit) : (State.updPoint p f s).accounts = s.accounts := rfl
@[simp] theorem State.updPoint_shutdown (p : PointId) (f : PointUnit → PointUnit) : (State.updPoint p f s).shutdown = s.shutdown := rfl
@[simp] theorem State.updPoint_journal (p : PointId) (f : PointUnit → PointUnit) : (State.updPoint p f s).journal = s.journal := rfl
@[simp] theorem State.updPoint_links (p : PointId) (f : PointUnit → PointUnit) : (State.updPoint p f s).links = s.links := rfl
@[simp] theorem State.updPoint_pending (p : PointId) (f : PointUnit → PointUnit) : (State.updPoint p f s).pending = s.pending := rfl

/-! ### updInlet -/

@[simp] theorem State.updInlet_clock (i : InletId) (f : InletUnit → InletUnit) : (State.updInlet i f s).clock = s.clock := rfl
@[simp] theorem State.updInlet_bay (i : InletId) (f : InletUnit → InletUnit) : (State.updInlet i f s).bay = s.bay := rfl
@[simp] theorem State.updInlet_store (i : InletId) (f : InletUnit → InletUnit) : (State.updInlet i f s).store = s.store := rfl
@[simp] theorem State.updInlet_points (i : InletId) (f : InletUnit → InletUnit) : (State.updInlet i f s).points = s.points := rfl
@[simp] theorem State.updInlet_pumps (i : InletId) (f : InletUnit → InletUnit) : (State.updInlet i f s).pumps = s.pumps := rfl
@[simp] theorem State.updInlet_stock (i : InletId) (f : InletUnit → InletUnit) : (State.updInlet i f s).stock = s.stock := rfl
@[simp] theorem State.updInlet_accounts (i : InletId) (f : InletUnit → InletUnit) : (State.updInlet i f s).accounts = s.accounts := rfl
@[simp] theorem State.updInlet_shutdown (i : InletId) (f : InletUnit → InletUnit) : (State.updInlet i f s).shutdown = s.shutdown := rfl
@[simp] theorem State.updInlet_journal (i : InletId) (f : InletUnit → InletUnit) : (State.updInlet i f s).journal = s.journal := rfl
@[simp] theorem State.updInlet_links (i : InletId) (f : InletUnit → InletUnit) : (State.updInlet i f s).links = s.links := rfl
@[simp] theorem State.updInlet_pending (i : InletId) (f : InletUnit → InletUnit) : (State.updInlet i f s).pending = s.pending := rfl

/-! ### updPump -/

@[simp] theorem State.updPump_clock (m : PumpId) (f : PumpUnit → PumpUnit) : (State.updPump m f s).clock = s.clock := rfl
@[simp] theorem State.updPump_bay (m : PumpId) (f : PumpUnit → PumpUnit) : (State.updPump m f s).bay = s.bay := rfl
@[simp] theorem State.updPump_store (m : PumpId) (f : PumpUnit → PumpUnit) : (State.updPump m f s).store = s.store := rfl
@[simp] theorem State.updPump_points (m : PumpId) (f : PumpUnit → PumpUnit) : (State.updPump m f s).points = s.points := rfl
@[simp] theorem State.updPump_queue (m : PumpId) (f : PumpUnit → PumpUnit) : (State.updPump m f s).pumps.queue = s.pumps.queue := rfl
@[simp] theorem State.updPump_supplyReady (m : PumpId) (f : PumpUnit → PumpUnit) : (State.updPump m f s).pumps.supplyReady = s.pumps.supplyReady := rfl
@[simp] theorem State.updPump_inlets (m : PumpId) (f : PumpUnit → PumpUnit) : (State.updPump m f s).inlets = s.inlets := rfl
@[simp] theorem State.updPump_stock (m : PumpId) (f : PumpUnit → PumpUnit) : (State.updPump m f s).stock = s.stock := rfl
@[simp] theorem State.updPump_accounts (m : PumpId) (f : PumpUnit → PumpUnit) : (State.updPump m f s).accounts = s.accounts := rfl
@[simp] theorem State.updPump_shutdown (m : PumpId) (f : PumpUnit → PumpUnit) : (State.updPump m f s).shutdown = s.shutdown := rfl
@[simp] theorem State.updPump_journal (m : PumpId) (f : PumpUnit → PumpUnit) : (State.updPump m f s).journal = s.journal := rfl
@[simp] theorem State.updPump_links (m : PumpId) (f : PumpUnit → PumpUnit) : (State.updPump m f s).links = s.links := rfl
@[simp] theorem State.updPump_pending (m : PumpId) (f : PumpUnit → PumpUnit) : (State.updPump m f s).pending = s.pending := rfl

/-! ### updTank -/

@[simp] theorem State.updTank_clock (t : TankId) (f : Tank → Tank) : (State.updTank t f s).clock = s.clock := rfl
@[simp] theorem State.updTank_bay (t : TankId) (f : Tank → Tank) : (State.updTank t f s).bay = s.bay := rfl
@[simp] theorem State.updTank_store (t : TankId) (f : Tank → Tank) : (State.updTank t f s).store = s.store := rfl
@[simp] theorem State.updTank_points (t : TankId) (f : Tank → Tank) : (State.updTank t f s).points = s.points := rfl
@[simp] theorem State.updTank_pumps (t : TankId) (f : Tank → Tank) : (State.updTank t f s).pumps = s.pumps := rfl
@[simp] theorem State.updTank_inlets (t : TankId) (f : Tank → Tank) : (State.updTank t f s).inlets = s.inlets := rfl
@[simp] theorem State.updTank_draws (t : TankId) (f : Tank → Tank) : (State.updTank t f s).stock.draws = s.stock.draws := rfl
@[simp] theorem State.updTank_checkDue (t : TankId) (f : Tank → Tank) : (State.updTank t f s).stock.checkDue = s.stock.checkDue := rfl
@[simp] theorem State.updTank_reports (t : TankId) (f : Tank → Tank) : (State.updTank t f s).stock.reports = s.stock.reports := rfl
@[simp] theorem State.updTank_tripping (t : TankId) (f : Tank → Tank) : (State.updTank t f s).stock.tripping = s.stock.tripping := rfl
@[simp] theorem State.updTank_accounts (t : TankId) (f : Tank → Tank) : (State.updTank t f s).accounts = s.accounts := rfl
@[simp] theorem State.updTank_shutdown (t : TankId) (f : Tank → Tank) : (State.updTank t f s).shutdown = s.shutdown := rfl
@[simp] theorem State.updTank_journal (t : TankId) (f : Tank → Tank) : (State.updTank t f s).journal = s.journal := rfl
@[simp] theorem State.updTank_links (t : TankId) (f : Tank → Tank) : (State.updTank t f s).links = s.links := rfl
@[simp] theorem State.updTank_pending (t : TankId) (f : Tank → Tank) : (State.updTank t f s).pending = s.pending := rfl

/-! ### updDraw -/

@[simp] theorem State.updDraw_clock (k : ProductId) (f : Draw → Draw) : (State.updDraw k f s).clock = s.clock := rfl
@[simp] theorem State.updDraw_bay (k : ProductId) (f : Draw → Draw) : (State.updDraw k f s).bay = s.bay := rfl
@[simp] theorem State.updDraw_store (k : ProductId) (f : Draw → Draw) : (State.updDraw k f s).store = s.store := rfl
@[simp] theorem State.updDraw_points (k : ProductId) (f : Draw → Draw) : (State.updDraw k f s).points = s.points := rfl
@[simp] theorem State.updDraw_pumps (k : ProductId) (f : Draw → Draw) : (State.updDraw k f s).pumps = s.pumps := rfl
@[simp] theorem State.updDraw_inlets (k : ProductId) (f : Draw → Draw) : (State.updDraw k f s).inlets = s.inlets := rfl
@[simp] theorem State.updDraw_tanks (k : ProductId) (f : Draw → Draw) : (State.updDraw k f s).stock.tanks = s.stock.tanks := rfl
@[simp] theorem State.updDraw_checkDue (k : ProductId) (f : Draw → Draw) : (State.updDraw k f s).stock.checkDue = s.stock.checkDue := rfl
@[simp] theorem State.updDraw_reports (k : ProductId) (f : Draw → Draw) : (State.updDraw k f s).stock.reports = s.stock.reports := rfl
@[simp] theorem State.updDraw_tripping (k : ProductId) (f : Draw → Draw) : (State.updDraw k f s).stock.tripping = s.stock.tripping := rfl
@[simp] theorem State.updDraw_accounts (k : ProductId) (f : Draw → Draw) : (State.updDraw k f s).accounts = s.accounts := rfl
@[simp] theorem State.updDraw_shutdown (k : ProductId) (f : Draw → Draw) : (State.updDraw k f s).shutdown = s.shutdown := rfl
@[simp] theorem State.updDraw_journal (k : ProductId) (f : Draw → Draw) : (State.updDraw k f s).journal = s.journal := rfl
@[simp] theorem State.updDraw_links (k : ProductId) (f : Draw → Draw) : (State.updDraw k f s).links = s.links := rfl
@[simp] theorem State.updDraw_pending (k : ProductId) (f : Draw → Draw) : (State.updDraw k f s).pending = s.pending := rfl

/-! ### updLink -/

@[simp] theorem State.updLink_clock (l : Link) (f : LinkUnit → LinkUnit) : (State.updLink l f s).clock = s.clock := rfl
@[simp] theorem State.updLink_bay (l : Link) (f : LinkUnit → LinkUnit) : (State.updLink l f s).bay = s.bay := rfl
@[simp] theorem State.updLink_store (l : Link) (f : LinkUnit → LinkUnit) : (State.updLink l f s).store = s.store := rfl
@[simp] theorem State.updLink_points (l : Link) (f : LinkUnit → LinkUnit) : (State.updLink l f s).points = s.points := rfl
@[simp] theorem State.updLink_pumps (l : Link) (f : LinkUnit → LinkUnit) : (State.updLink l f s).pumps = s.pumps := rfl
@[simp] theorem State.updLink_inlets (l : Link) (f : LinkUnit → LinkUnit) : (State.updLink l f s).inlets = s.inlets := rfl
@[simp] theorem State.updLink_stock (l : Link) (f : LinkUnit → LinkUnit) : (State.updLink l f s).stock = s.stock := rfl
@[simp] theorem State.updLink_accounts (l : Link) (f : LinkUnit → LinkUnit) : (State.updLink l f s).accounts = s.accounts := rfl
@[simp] theorem State.updLink_shutdown (l : Link) (f : LinkUnit → LinkUnit) : (State.updLink l f s).shutdown = s.shutdown := rfl
@[simp] theorem State.updLink_journal (l : Link) (f : LinkUnit → LinkUnit) : (State.updLink l f s).journal = s.journal := rfl
@[simp] theorem State.updLink_pending (l : Link) (f : LinkUnit → LinkUnit) : (State.updLink l f s).pending = s.pending := rfl

/-! ### updOrder -/

@[simp] theorem State.updOrder_clock (p : PointId) (f : Order → Order) : (State.updOrder p f s).clock = s.clock := rfl
@[simp] theorem State.updOrder_bay (p : PointId) (f : Order → Order) : (State.updOrder p f s).bay = s.bay := rfl
@[simp] theorem State.updOrder_store (p : PointId) (f : Order → Order) : (State.updOrder p f s).store = s.store := rfl
@[simp] theorem State.updOrder_pumps (p : PointId) (f : Order → Order) : (State.updOrder p f s).pumps = s.pumps := rfl
@[simp] theorem State.updOrder_inlets (p : PointId) (f : Order → Order) : (State.updOrder p f s).inlets = s.inlets := rfl
@[simp] theorem State.updOrder_stock (p : PointId) (f : Order → Order) : (State.updOrder p f s).stock = s.stock := rfl
@[simp] theorem State.updOrder_accounts (p : PointId) (f : Order → Order) : (State.updOrder p f s).accounts = s.accounts := rfl
@[simp] theorem State.updOrder_shutdown (p : PointId) (f : Order → Order) : (State.updOrder p f s).shutdown = s.shutdown := rfl
@[simp] theorem State.updOrder_journal (p : PointId) (f : Order → Order) : (State.updOrder p f s).journal = s.journal := rfl
@[simp] theorem State.updOrder_links (p : PointId) (f : Order → Order) : (State.updOrder p f s).links = s.links := rfl
@[simp] theorem State.updOrder_pending (p : PointId) (f : Order → Order) : (State.updOrder p f s).pending = s.pending := rfl

/-! ### updDelivery -/

@[simp] theorem State.updDelivery_clock (i : InletId) (f : Delivery → Delivery) : (State.updDelivery i f s).clock = s.clock := rfl
@[simp] theorem State.updDelivery_bay (i : InletId) (f : Delivery → Delivery) : (State.updDelivery i f s).bay = s.bay := rfl
@[simp] theorem State.updDelivery_store (i : InletId) (f : Delivery → Delivery) : (State.updDelivery i f s).store = s.store := rfl
@[simp] theorem State.updDelivery_points (i : InletId) (f : Delivery → Delivery) : (State.updDelivery i f s).points = s.points := rfl
@[simp] theorem State.updDelivery_pumps (i : InletId) (f : Delivery → Delivery) : (State.updDelivery i f s).pumps = s.pumps := rfl
@[simp] theorem State.updDelivery_stock (i : InletId) (f : Delivery → Delivery) : (State.updDelivery i f s).stock = s.stock := rfl
@[simp] theorem State.updDelivery_accounts (i : InletId) (f : Delivery → Delivery) : (State.updDelivery i f s).accounts = s.accounts := rfl
@[simp] theorem State.updDelivery_shutdown (i : InletId) (f : Delivery → Delivery) : (State.updDelivery i f s).shutdown = s.shutdown := rfl
@[simp] theorem State.updDelivery_journal (i : InletId) (f : Delivery → Delivery) : (State.updDelivery i f s).journal = s.journal := rfl
@[simp] theorem State.updDelivery_links (i : InletId) (f : Delivery → Delivery) : (State.updDelivery i f s).links = s.links := rfl
@[simp] theorem State.updDelivery_pending (i : InletId) (f : Delivery → Delivery) : (State.updDelivery i f s).pending = s.pending := rfl

/-! ### setQueue -/

@[simp] theorem State.setQueue_clock (queue : List PumpId) : (State.setQueue queue s).clock = s.clock := rfl
@[simp] theorem State.setQueue_bay (queue : List PumpId) : (State.setQueue queue s).bay = s.bay := rfl
@[simp] theorem State.setQueue_store (queue : List PumpId) : (State.setQueue queue s).store = s.store := rfl
@[simp] theorem State.setQueue_points (queue : List PumpId) : (State.setQueue queue s).points = s.points := rfl
@[simp] theorem State.setQueue_units (queue : List PumpId) : (State.setQueue queue s).pumps.units = s.pumps.units := rfl
@[simp] theorem State.setQueue_supplyReady (queue : List PumpId) : (State.setQueue queue s).pumps.supplyReady = s.pumps.supplyReady := rfl
@[simp] theorem State.setQueue_inlets (queue : List PumpId) : (State.setQueue queue s).inlets = s.inlets := rfl
@[simp] theorem State.setQueue_stock (queue : List PumpId) : (State.setQueue queue s).stock = s.stock := rfl
@[simp] theorem State.setQueue_accounts (queue : List PumpId) : (State.setQueue queue s).accounts = s.accounts := rfl
@[simp] theorem State.setQueue_shutdown (queue : List PumpId) : (State.setQueue queue s).shutdown = s.shutdown := rfl
@[simp] theorem State.setQueue_journal (queue : List PumpId) : (State.setQueue queue s).journal = s.journal := rfl
@[simp] theorem State.setQueue_links (queue : List PumpId) : (State.setQueue queue s).links = s.links := rfl
@[simp] theorem State.setQueue_pending (queue : List PumpId) : (State.setQueue queue s).pending = s.pending := rfl

/-! ### setSupplyReady -/

@[simp] theorem State.setSupplyReady_clock (level : Bool) : (State.setSupplyReady level s).clock = s.clock := rfl
@[simp] theorem State.setSupplyReady_bay (level : Bool) : (State.setSupplyReady level s).bay = s.bay := rfl
@[simp] theorem State.setSupplyReady_store (level : Bool) : (State.setSupplyReady level s).store = s.store := rfl
@[simp] theorem State.setSupplyReady_points (level : Bool) : (State.setSupplyReady level s).points = s.points := rfl
@[simp] theorem State.setSupplyReady_units (level : Bool) : (State.setSupplyReady level s).pumps.units = s.pumps.units := rfl
@[simp] theorem State.setSupplyReady_queue (level : Bool) : (State.setSupplyReady level s).pumps.queue = s.pumps.queue := rfl
@[simp] theorem State.setSupplyReady_inlets (level : Bool) : (State.setSupplyReady level s).inlets = s.inlets := rfl
@[simp] theorem State.setSupplyReady_stock (level : Bool) : (State.setSupplyReady level s).stock = s.stock := rfl
@[simp] theorem State.setSupplyReady_accounts (level : Bool) : (State.setSupplyReady level s).accounts = s.accounts := rfl
@[simp] theorem State.setSupplyReady_shutdown (level : Bool) : (State.setSupplyReady level s).shutdown = s.shutdown := rfl
@[simp] theorem State.setSupplyReady_journal (level : Bool) : (State.setSupplyReady level s).journal = s.journal := rfl
@[simp] theorem State.setSupplyReady_links (level : Bool) : (State.setSupplyReady level s).links = s.links := rfl
@[simp] theorem State.setSupplyReady_pending (level : Bool) : (State.setSupplyReady level s).pending = s.pending := rfl

/-! ### setTable -/

@[simp] theorem State.setTable_clock (table : List Account) : (State.setTable table s).clock = s.clock := rfl
@[simp] theorem State.setTable_bay (table : List Account) : (State.setTable table s).bay = s.bay := rfl
@[simp] theorem State.setTable_store (table : List Account) : (State.setTable table s).store = s.store := rfl
@[simp] theorem State.setTable_points (table : List Account) : (State.setTable table s).points = s.points := rfl
@[simp] theorem State.setTable_pumps (table : List Account) : (State.setTable table s).pumps = s.pumps := rfl
@[simp] theorem State.setTable_inlets (table : List Account) : (State.setTable table s).inlets = s.inlets := rfl
@[simp] theorem State.setTable_stock (table : List Account) : (State.setTable table s).stock = s.stock := rfl
@[simp] theorem State.setTable_classes (table : List Account) : (State.setTable table s).accounts.classes = s.accounts.classes := rfl
@[simp] theorem State.setTable_deferred (table : List Account) : (State.setTable table s).accounts.deferred = s.accounts.deferred := rfl
@[simp] theorem State.setTable_cursors (table : List Account) : (State.setTable table s).accounts.cursors = s.accounts.cursors := rfl
@[simp] theorem State.setTable_lastShiftChange (table : List Account) : (State.setTable table s).accounts.lastShiftChange = s.accounts.lastShiftChange := rfl
@[simp] theorem State.setTable_shutdown (table : List Account) : (State.setTable table s).shutdown = s.shutdown := rfl
@[simp] theorem State.setTable_journal (table : List Account) : (State.setTable table s).journal = s.journal := rfl
@[simp] theorem State.setTable_links (table : List Account) : (State.setTable table s).links = s.links := rfl
@[simp] theorem State.setTable_pending (table : List Account) : (State.setTable table s).pending = s.pending := rfl

/-! ### updAccount -/

@[simp] theorem State.updAccount_clock (machine : Nat) (f : Account → Account) : (State.updAccount machine f s).clock = s.clock := rfl
@[simp] theorem State.updAccount_bay (machine : Nat) (f : Account → Account) : (State.updAccount machine f s).bay = s.bay := rfl
@[simp] theorem State.updAccount_store (machine : Nat) (f : Account → Account) : (State.updAccount machine f s).store = s.store := rfl
@[simp] theorem State.updAccount_points (machine : Nat) (f : Account → Account) : (State.updAccount machine f s).points = s.points := rfl
@[simp] theorem State.updAccount_pumps (machine : Nat) (f : Account → Account) : (State.updAccount machine f s).pumps = s.pumps := rfl
@[simp] theorem State.updAccount_inlets (machine : Nat) (f : Account → Account) : (State.updAccount machine f s).inlets = s.inlets := rfl
@[simp] theorem State.updAccount_stock (machine : Nat) (f : Account → Account) : (State.updAccount machine f s).stock = s.stock := rfl
@[simp] theorem State.updAccount_classes (machine : Nat) (f : Account → Account) : (State.updAccount machine f s).accounts.classes = s.accounts.classes := rfl
@[simp] theorem State.updAccount_deferred (machine : Nat) (f : Account → Account) : (State.updAccount machine f s).accounts.deferred = s.accounts.deferred := rfl
@[simp] theorem State.updAccount_cursors (machine : Nat) (f : Account → Account) : (State.updAccount machine f s).accounts.cursors = s.accounts.cursors := rfl
@[simp] theorem State.updAccount_lastShiftChange (machine : Nat) (f : Account → Account) : (State.updAccount machine f s).accounts.lastShiftChange = s.accounts.lastShiftChange := rfl
@[simp] theorem State.updAccount_shutdown (machine : Nat) (f : Account → Account) : (State.updAccount machine f s).shutdown = s.shutdown := rfl
@[simp] theorem State.updAccount_journal (machine : Nat) (f : Account → Account) : (State.updAccount machine f s).journal = s.journal := rfl
@[simp] theorem State.updAccount_links (machine : Nat) (f : Account → Account) : (State.updAccount machine f s).links = s.links := rfl
@[simp] theorem State.updAccount_pending (machine : Nat) (f : Account → Account) : (State.updAccount machine f s).pending = s.pending := rfl

/-! ### removeAccount -/

@[simp] theorem State.removeAccount_clock (machine : Nat) : (State.removeAccount machine s).clock = s.clock := rfl
@[simp] theorem State.removeAccount_bay (machine : Nat) : (State.removeAccount machine s).bay = s.bay := rfl
@[simp] theorem State.removeAccount_store (machine : Nat) : (State.removeAccount machine s).store = s.store := rfl
@[simp] theorem State.removeAccount_points (machine : Nat) : (State.removeAccount machine s).points = s.points := rfl
@[simp] theorem State.removeAccount_pumps (machine : Nat) : (State.removeAccount machine s).pumps = s.pumps := rfl
@[simp] theorem State.removeAccount_inlets (machine : Nat) : (State.removeAccount machine s).inlets = s.inlets := rfl
@[simp] theorem State.removeAccount_stock (machine : Nat) : (State.removeAccount machine s).stock = s.stock := rfl
@[simp] theorem State.removeAccount_classes (machine : Nat) : (State.removeAccount machine s).accounts.classes = s.accounts.classes := rfl
@[simp] theorem State.removeAccount_deferred (machine : Nat) : (State.removeAccount machine s).accounts.deferred = s.accounts.deferred := rfl
@[simp] theorem State.removeAccount_cursors (machine : Nat) : (State.removeAccount machine s).accounts.cursors = s.accounts.cursors := rfl
@[simp] theorem State.removeAccount_lastShiftChange (machine : Nat) : (State.removeAccount machine s).accounts.lastShiftChange = s.accounts.lastShiftChange := rfl
@[simp] theorem State.removeAccount_shutdown (machine : Nat) : (State.removeAccount machine s).shutdown = s.shutdown := rfl
@[simp] theorem State.removeAccount_journal (machine : Nat) : (State.removeAccount machine s).journal = s.journal := rfl
@[simp] theorem State.removeAccount_links (machine : Nat) : (State.removeAccount machine s).links = s.links := rfl
@[simp] theorem State.removeAccount_pending (machine : Nat) : (State.removeAccount machine s).pending = s.pending := rfl

/-! ### setDeferred -/

@[simp] theorem State.setDeferred_clock (queue : List DeferredEntry) : (State.setDeferred queue s).clock = s.clock := rfl
@[simp] theorem State.setDeferred_bay (queue : List DeferredEntry) : (State.setDeferred queue s).bay = s.bay := rfl
@[simp] theorem State.setDeferred_store (queue : List DeferredEntry) : (State.setDeferred queue s).store = s.store := rfl
@[simp] theorem State.setDeferred_points (queue : List DeferredEntry) : (State.setDeferred queue s).points = s.points := rfl
@[simp] theorem State.setDeferred_pumps (queue : List DeferredEntry) : (State.setDeferred queue s).pumps = s.pumps := rfl
@[simp] theorem State.setDeferred_inlets (queue : List DeferredEntry) : (State.setDeferred queue s).inlets = s.inlets := rfl
@[simp] theorem State.setDeferred_stock (queue : List DeferredEntry) : (State.setDeferred queue s).stock = s.stock := rfl
@[simp] theorem State.setDeferred_table (queue : List DeferredEntry) : (State.setDeferred queue s).accounts.table = s.accounts.table := rfl
@[simp] theorem State.setDeferred_classes (queue : List DeferredEntry) : (State.setDeferred queue s).accounts.classes = s.accounts.classes := rfl
@[simp] theorem State.setDeferred_cursors (queue : List DeferredEntry) : (State.setDeferred queue s).accounts.cursors = s.accounts.cursors := rfl
@[simp] theorem State.setDeferred_lastShiftChange (queue : List DeferredEntry) : (State.setDeferred queue s).accounts.lastShiftChange = s.accounts.lastShiftChange := rfl
@[simp] theorem State.setDeferred_shutdown (queue : List DeferredEntry) : (State.setDeferred queue s).shutdown = s.shutdown := rfl
@[simp] theorem State.setDeferred_journal (queue : List DeferredEntry) : (State.setDeferred queue s).journal = s.journal := rfl
@[simp] theorem State.setDeferred_links (queue : List DeferredEntry) : (State.setDeferred queue s).links = s.links := rfl
@[simp] theorem State.setDeferred_pending (queue : List DeferredEntry) : (State.setDeferred queue s).pending = s.pending := rfl

/-! ### setCursor -/

@[simp] theorem State.setCursor_clock (l : Link) (n : Nat) : (State.setCursor l n s).clock = s.clock := rfl
@[simp] theorem State.setCursor_bay (l : Link) (n : Nat) : (State.setCursor l n s).bay = s.bay := rfl
@[simp] theorem State.setCursor_store (l : Link) (n : Nat) : (State.setCursor l n s).store = s.store := rfl
@[simp] theorem State.setCursor_points (l : Link) (n : Nat) : (State.setCursor l n s).points = s.points := rfl
@[simp] theorem State.setCursor_pumps (l : Link) (n : Nat) : (State.setCursor l n s).pumps = s.pumps := rfl
@[simp] theorem State.setCursor_inlets (l : Link) (n : Nat) : (State.setCursor l n s).inlets = s.inlets := rfl
@[simp] theorem State.setCursor_stock (l : Link) (n : Nat) : (State.setCursor l n s).stock = s.stock := rfl
@[simp] theorem State.setCursor_table (l : Link) (n : Nat) : (State.setCursor l n s).accounts.table = s.accounts.table := rfl
@[simp] theorem State.setCursor_classes (l : Link) (n : Nat) : (State.setCursor l n s).accounts.classes = s.accounts.classes := rfl
@[simp] theorem State.setCursor_deferred (l : Link) (n : Nat) : (State.setCursor l n s).accounts.deferred = s.accounts.deferred := rfl
@[simp] theorem State.setCursor_lastShiftChange (l : Link) (n : Nat) : (State.setCursor l n s).accounts.lastShiftChange = s.accounts.lastShiftChange := rfl
@[simp] theorem State.setCursor_shutdown (l : Link) (n : Nat) : (State.setCursor l n s).shutdown = s.shutdown := rfl
@[simp] theorem State.setCursor_journal (l : Link) (n : Nat) : (State.setCursor l n s).journal = s.journal := rfl
@[simp] theorem State.setCursor_links (l : Link) (n : Nat) : (State.setCursor l n s).links = s.links := rfl
@[simp] theorem State.setCursor_pending (l : Link) (n : Nat) : (State.setCursor l n s).pending = s.pending := rfl

/-! ### setLatch -/

@[simp] theorem State.setLatch_clock (x : LatchId) (l : Latch) : (State.setLatch x l s).clock = s.clock := by cases x <;> rfl
@[simp] theorem State.setLatch_bay (x : LatchId) (l : Latch) : (State.setLatch x l s).bay = s.bay := by cases x <;> rfl
@[simp] theorem State.setLatch_store (x : LatchId) (l : Latch) : (State.setLatch x l s).store = s.store := by cases x <;> rfl
@[simp] theorem State.setLatch_points (x : LatchId) (l : Latch) : (State.setLatch x l s).points = s.points := by cases x <;> rfl
@[simp] theorem State.setLatch_pumps (x : LatchId) (l : Latch) : (State.setLatch x l s).pumps = s.pumps := by cases x <;> rfl
@[simp] theorem State.setLatch_inlets (x : LatchId) (l : Latch) : (State.setLatch x l s).inlets = s.inlets := by cases x <;> rfl
@[simp] theorem State.setLatch_stock (x : LatchId) (l : Latch) : (State.setLatch x l s).stock = s.stock := by cases x <;> rfl
@[simp] theorem State.setLatch_accounts (x : LatchId) (l : Latch) : (State.setLatch x l s).accounts = s.accounts := by cases x <;> rfl
@[simp] theorem State.setLatch_drip (x : LatchId) (l : Latch) : (State.setLatch x l s).shutdown.drip = s.shutdown.drip := by cases x <;> rfl
@[simp] theorem State.setLatch_overpress (x : LatchId) (l : Latch) : (State.setLatch x l s).shutdown.overpress = s.shutdown.overpress := by cases x <;> rfl
@[simp] theorem State.setLatch_sump (x : LatchId) (l : Latch) : (State.setLatch x l s).shutdown.sump = s.shutdown.sump := by cases x <;> rfl
@[simp] theorem State.setLatch_highhigh (x : LatchId) (l : Latch) : (State.setLatch x l s).shutdown.highhigh = s.shutdown.highhigh := by cases x <;> rfl
@[simp] theorem State.setLatch_estop (x : LatchId) (l : Latch) : (State.setLatch x l s).shutdown.estop = s.shutdown.estop := by cases x <;> rfl
@[simp] theorem State.setLatch_dripBypass (x : LatchId) (l : Latch) : (State.setLatch x l s).shutdown.dripBypass = s.shutdown.dripBypass := by cases x <;> rfl
@[simp] theorem State.setLatch_sumpBypass (x : LatchId) (l : Latch) : (State.setLatch x l s).shutdown.sumpBypass = s.shutdown.sumpBypass := by cases x <;> rfl
@[simp] theorem State.setLatch_log (x : LatchId) (l : Latch) : (State.setLatch x l s).shutdown.log = s.shutdown.log := by cases x <;> rfl
@[simp] theorem State.setLatch_nextTrip (x : LatchId) (l : Latch) : (State.setLatch x l s).shutdown.nextTrip = s.shutdown.nextTrip := by cases x <;> rfl
@[simp] theorem State.setLatch_resetKey (x : LatchId) (l : Latch) : (State.setLatch x l s).shutdown.resetKey = s.shutdown.resetKey := by cases x <;> rfl
@[simp] theorem State.setLatch_journal (x : LatchId) (l : Latch) : (State.setLatch x l s).journal = s.journal := by cases x <;> rfl
@[simp] theorem State.setLatch_links (x : LatchId) (l : Latch) : (State.setLatch x l s).links = s.links := by cases x <;> rfl
@[simp] theorem State.setLatch_pending (x : LatchId) (l : Latch) : (State.setLatch x l s).pending = s.pending := by cases x <;> rfl

/-! ### updDebounced -/

@[simp] theorem State.updDebounced_clock (x : DebouncedInput) (f : Input → Input) : (State.updDebounced x f s).clock = s.clock := by cases x <;> rfl
@[simp] theorem State.updDebounced_bay (x : DebouncedInput) (f : Input → Input) : (State.updDebounced x f s).bay = s.bay := by cases x <;> rfl
@[simp] theorem State.updDebounced_store (x : DebouncedInput) (f : Input → Input) : (State.updDebounced x f s).store = s.store := by cases x <;> rfl
@[simp] theorem State.updDebounced_points (x : DebouncedInput) (f : Input → Input) : (State.updDebounced x f s).points = s.points := by cases x <;> rfl
@[simp] theorem State.updDebounced_pumps (x : DebouncedInput) (f : Input → Input) : (State.updDebounced x f s).pumps = s.pumps := by cases x <;> rfl
@[simp] theorem State.updDebounced_inlets (x : DebouncedInput) (f : Input → Input) : (State.updDebounced x f s).inlets = s.inlets := by cases x <;> rfl
@[simp] theorem State.updDebounced_stock (x : DebouncedInput) (f : Input → Input) : (State.updDebounced x f s).stock = s.stock := by cases x <;> rfl
@[simp] theorem State.updDebounced_accounts (x : DebouncedInput) (f : Input → Input) : (State.updDebounced x f s).accounts = s.accounts := by cases x <;> rfl
@[simp] theorem State.updDebounced_pointLatches (x : DebouncedInput) (f : Input → Input) : (State.updDebounced x f s).shutdown.pointLatches = s.shutdown.pointLatches := by cases x <;> rfl
@[simp] theorem State.updDebounced_bundLatches (x : DebouncedInput) (f : Input → Input) : (State.updDebounced x f s).shutdown.bundLatches = s.shutdown.bundLatches := by cases x <;> rfl
@[simp] theorem State.updDebounced_bayLatch (x : DebouncedInput) (f : Input → Input) : (State.updDebounced x f s).shutdown.bayLatch = s.shutdown.bayLatch := by cases x <;> rfl
@[simp] theorem State.updDebounced_estop (x : DebouncedInput) (f : Input → Input) : (State.updDebounced x f s).shutdown.estop = s.shutdown.estop := by cases x <;> rfl
@[simp] theorem State.updDebounced_dripBypass (x : DebouncedInput) (f : Input → Input) : (State.updDebounced x f s).shutdown.dripBypass = s.shutdown.dripBypass := by cases x <;> rfl
@[simp] theorem State.updDebounced_sumpBypass (x : DebouncedInput) (f : Input → Input) : (State.updDebounced x f s).shutdown.sumpBypass = s.shutdown.sumpBypass := by cases x <;> rfl
@[simp] theorem State.updDebounced_log (x : DebouncedInput) (f : Input → Input) : (State.updDebounced x f s).shutdown.log = s.shutdown.log := by cases x <;> rfl
@[simp] theorem State.updDebounced_nextTrip (x : DebouncedInput) (f : Input → Input) : (State.updDebounced x f s).shutdown.nextTrip = s.shutdown.nextTrip := by cases x <;> rfl
@[simp] theorem State.updDebounced_resetKey (x : DebouncedInput) (f : Input → Input) : (State.updDebounced x f s).shutdown.resetKey = s.shutdown.resetKey := by cases x <;> rfl
@[simp] theorem State.updDebounced_journal (x : DebouncedInput) (f : Input → Input) : (State.updDebounced x f s).journal = s.journal := by cases x <;> rfl
@[simp] theorem State.updDebounced_links (x : DebouncedInput) (f : Input → Input) : (State.updDebounced x f s).links = s.links := by cases x <;> rfl
@[simp] theorem State.updDebounced_pending (x : DebouncedInput) (f : Input → Input) : (State.updDebounced x f s).pending = s.pending := by cases x <;> rfl

/-! ### setBypass -/

@[simp] theorem State.setBypass_clock (x : BypassId) (b : Option Bypass) : (State.setBypass x b s).clock = s.clock := by cases x <;> rfl
@[simp] theorem State.setBypass_bay (x : BypassId) (b : Option Bypass) : (State.setBypass x b s).bay = s.bay := by cases x <;> rfl
@[simp] theorem State.setBypass_store (x : BypassId) (b : Option Bypass) : (State.setBypass x b s).store = s.store := by cases x <;> rfl
@[simp] theorem State.setBypass_points (x : BypassId) (b : Option Bypass) : (State.setBypass x b s).points = s.points := by cases x <;> rfl
@[simp] theorem State.setBypass_pumps (x : BypassId) (b : Option Bypass) : (State.setBypass x b s).pumps = s.pumps := by cases x <;> rfl
@[simp] theorem State.setBypass_inlets (x : BypassId) (b : Option Bypass) : (State.setBypass x b s).inlets = s.inlets := by cases x <;> rfl
@[simp] theorem State.setBypass_stock (x : BypassId) (b : Option Bypass) : (State.setBypass x b s).stock = s.stock := by cases x <;> rfl
@[simp] theorem State.setBypass_accounts (x : BypassId) (b : Option Bypass) : (State.setBypass x b s).accounts = s.accounts := by cases x <;> rfl
@[simp] theorem State.setBypass_pointLatches (x : BypassId) (b : Option Bypass) : (State.setBypass x b s).shutdown.pointLatches = s.shutdown.pointLatches := by cases x <;> rfl
@[simp] theorem State.setBypass_bundLatches (x : BypassId) (b : Option Bypass) : (State.setBypass x b s).shutdown.bundLatches = s.shutdown.bundLatches := by cases x <;> rfl
@[simp] theorem State.setBypass_bayLatch (x : BypassId) (b : Option Bypass) : (State.setBypass x b s).shutdown.bayLatch = s.shutdown.bayLatch := by cases x <;> rfl
@[simp] theorem State.setBypass_drip (x : BypassId) (b : Option Bypass) : (State.setBypass x b s).shutdown.drip = s.shutdown.drip := by cases x <;> rfl
@[simp] theorem State.setBypass_overpress (x : BypassId) (b : Option Bypass) : (State.setBypass x b s).shutdown.overpress = s.shutdown.overpress := by cases x <;> rfl
@[simp] theorem State.setBypass_sump (x : BypassId) (b : Option Bypass) : (State.setBypass x b s).shutdown.sump = s.shutdown.sump := by cases x <;> rfl
@[simp] theorem State.setBypass_highhigh (x : BypassId) (b : Option Bypass) : (State.setBypass x b s).shutdown.highhigh = s.shutdown.highhigh := by cases x <;> rfl
@[simp] theorem State.setBypass_estop (x : BypassId) (b : Option Bypass) : (State.setBypass x b s).shutdown.estop = s.shutdown.estop := by cases x <;> rfl
@[simp] theorem State.setBypass_log (x : BypassId) (b : Option Bypass) : (State.setBypass x b s).shutdown.log = s.shutdown.log := by cases x <;> rfl
@[simp] theorem State.setBypass_nextTrip (x : BypassId) (b : Option Bypass) : (State.setBypass x b s).shutdown.nextTrip = s.shutdown.nextTrip := by cases x <;> rfl
@[simp] theorem State.setBypass_resetKey (x : BypassId) (b : Option Bypass) : (State.setBypass x b s).shutdown.resetKey = s.shutdown.resetKey := by cases x <;> rfl
@[simp] theorem State.setBypass_journal (x : BypassId) (b : Option Bypass) : (State.setBypass x b s).journal = s.journal := by cases x <;> rfl
@[simp] theorem State.setBypass_links (x : BypassId) (b : Option Bypass) : (State.setBypass x b s).links = s.links := by cases x <;> rfl
@[simp] theorem State.setBypass_pending (x : BypassId) (b : Option Bypass) : (State.setBypass x b s).pending = s.pending := by cases x <;> rfl

/-! ### setLog -/

@[simp] theorem State.setLog_clock (log : List TripEntry) : (State.setLog log s).clock = s.clock := rfl
@[simp] theorem State.setLog_bay (log : List TripEntry) : (State.setLog log s).bay = s.bay := rfl
@[simp] theorem State.setLog_store (log : List TripEntry) : (State.setLog log s).store = s.store := rfl
@[simp] theorem State.setLog_points (log : List TripEntry) : (State.setLog log s).points = s.points := rfl
@[simp] theorem State.setLog_pumps (log : List TripEntry) : (State.setLog log s).pumps = s.pumps := rfl
@[simp] theorem State.setLog_inlets (log : List TripEntry) : (State.setLog log s).inlets = s.inlets := rfl
@[simp] theorem State.setLog_stock (log : List TripEntry) : (State.setLog log s).stock = s.stock := rfl
@[simp] theorem State.setLog_accounts (log : List TripEntry) : (State.setLog log s).accounts = s.accounts := rfl
@[simp] theorem State.setLog_pointLatches (log : List TripEntry) : (State.setLog log s).shutdown.pointLatches = s.shutdown.pointLatches := rfl
@[simp] theorem State.setLog_bundLatches (log : List TripEntry) : (State.setLog log s).shutdown.bundLatches = s.shutdown.bundLatches := rfl
@[simp] theorem State.setLog_bayLatch (log : List TripEntry) : (State.setLog log s).shutdown.bayLatch = s.shutdown.bayLatch := rfl
@[simp] theorem State.setLog_drip (log : List TripEntry) : (State.setLog log s).shutdown.drip = s.shutdown.drip := rfl
@[simp] theorem State.setLog_overpress (log : List TripEntry) : (State.setLog log s).shutdown.overpress = s.shutdown.overpress := rfl
@[simp] theorem State.setLog_sump (log : List TripEntry) : (State.setLog log s).shutdown.sump = s.shutdown.sump := rfl
@[simp] theorem State.setLog_highhigh (log : List TripEntry) : (State.setLog log s).shutdown.highhigh = s.shutdown.highhigh := rfl
@[simp] theorem State.setLog_estop (log : List TripEntry) : (State.setLog log s).shutdown.estop = s.shutdown.estop := rfl
@[simp] theorem State.setLog_dripBypass (log : List TripEntry) : (State.setLog log s).shutdown.dripBypass = s.shutdown.dripBypass := rfl
@[simp] theorem State.setLog_sumpBypass (log : List TripEntry) : (State.setLog log s).shutdown.sumpBypass = s.shutdown.sumpBypass := rfl
@[simp] theorem State.setLog_nextTrip (log : List TripEntry) : (State.setLog log s).shutdown.nextTrip = s.shutdown.nextTrip := rfl
@[simp] theorem State.setLog_resetKey (log : List TripEntry) : (State.setLog log s).shutdown.resetKey = s.shutdown.resetKey := rfl
@[simp] theorem State.setLog_journal (log : List TripEntry) : (State.setLog log s).journal = s.journal := rfl
@[simp] theorem State.setLog_links (log : List TripEntry) : (State.setLog log s).links = s.links := rfl
@[simp] theorem State.setLog_pending (log : List TripEntry) : (State.setLog log s).pending = s.pending := rfl

/-! ### setEstop -/

@[simp] theorem State.setEstop_clock (level : Bool) : (State.setEstop level s).clock = s.clock := rfl
@[simp] theorem State.setEstop_bay (level : Bool) : (State.setEstop level s).bay = s.bay := rfl
@[simp] theorem State.setEstop_store (level : Bool) : (State.setEstop level s).store = s.store := rfl
@[simp] theorem State.setEstop_points (level : Bool) : (State.setEstop level s).points = s.points := rfl
@[simp] theorem State.setEstop_pumps (level : Bool) : (State.setEstop level s).pumps = s.pumps := rfl
@[simp] theorem State.setEstop_inlets (level : Bool) : (State.setEstop level s).inlets = s.inlets := rfl
@[simp] theorem State.setEstop_stock (level : Bool) : (State.setEstop level s).stock = s.stock := rfl
@[simp] theorem State.setEstop_accounts (level : Bool) : (State.setEstop level s).accounts = s.accounts := rfl
@[simp] theorem State.setEstop_pointLatches (level : Bool) : (State.setEstop level s).shutdown.pointLatches = s.shutdown.pointLatches := rfl
@[simp] theorem State.setEstop_bundLatches (level : Bool) : (State.setEstop level s).shutdown.bundLatches = s.shutdown.bundLatches := rfl
@[simp] theorem State.setEstop_bayLatch (level : Bool) : (State.setEstop level s).shutdown.bayLatch = s.shutdown.bayLatch := rfl
@[simp] theorem State.setEstop_drip (level : Bool) : (State.setEstop level s).shutdown.drip = s.shutdown.drip := rfl
@[simp] theorem State.setEstop_overpress (level : Bool) : (State.setEstop level s).shutdown.overpress = s.shutdown.overpress := rfl
@[simp] theorem State.setEstop_sump (level : Bool) : (State.setEstop level s).shutdown.sump = s.shutdown.sump := rfl
@[simp] theorem State.setEstop_highhigh (level : Bool) : (State.setEstop level s).shutdown.highhigh = s.shutdown.highhigh := rfl
@[simp] theorem State.setEstop_dripBypass (level : Bool) : (State.setEstop level s).shutdown.dripBypass = s.shutdown.dripBypass := rfl
@[simp] theorem State.setEstop_sumpBypass (level : Bool) : (State.setEstop level s).shutdown.sumpBypass = s.shutdown.sumpBypass := rfl
@[simp] theorem State.setEstop_log (level : Bool) : (State.setEstop level s).shutdown.log = s.shutdown.log := rfl
@[simp] theorem State.setEstop_nextTrip (level : Bool) : (State.setEstop level s).shutdown.nextTrip = s.shutdown.nextTrip := rfl
@[simp] theorem State.setEstop_resetKey (level : Bool) : (State.setEstop level s).shutdown.resetKey = s.shutdown.resetKey := rfl
@[simp] theorem State.setEstop_journal (level : Bool) : (State.setEstop level s).journal = s.journal := rfl
@[simp] theorem State.setEstop_links (level : Bool) : (State.setEstop level s).links = s.links := rfl
@[simp] theorem State.setEstop_pending (level : Bool) : (State.setEstop level s).pending = s.pending := rfl

/-! ### setKey -/

@[simp] theorem State.setKey_clock (key : Bool) : (State.setKey key s).clock = s.clock := rfl
@[simp] theorem State.setKey_bay (key : Bool) : (State.setKey key s).bay = s.bay := rfl
@[simp] theorem State.setKey_store (key : Bool) : (State.setKey key s).store = s.store := rfl
@[simp] theorem State.setKey_points (key : Bool) : (State.setKey key s).points = s.points := rfl
@[simp] theorem State.setKey_pumps (key : Bool) : (State.setKey key s).pumps = s.pumps := rfl
@[simp] theorem State.setKey_inlets (key : Bool) : (State.setKey key s).inlets = s.inlets := rfl
@[simp] theorem State.setKey_stock (key : Bool) : (State.setKey key s).stock = s.stock := rfl
@[simp] theorem State.setKey_accounts (key : Bool) : (State.setKey key s).accounts = s.accounts := rfl
@[simp] theorem State.setKey_pointLatches (key : Bool) : (State.setKey key s).shutdown.pointLatches = s.shutdown.pointLatches := rfl
@[simp] theorem State.setKey_bundLatches (key : Bool) : (State.setKey key s).shutdown.bundLatches = s.shutdown.bundLatches := rfl
@[simp] theorem State.setKey_bayLatch (key : Bool) : (State.setKey key s).shutdown.bayLatch = s.shutdown.bayLatch := rfl
@[simp] theorem State.setKey_drip (key : Bool) : (State.setKey key s).shutdown.drip = s.shutdown.drip := rfl
@[simp] theorem State.setKey_overpress (key : Bool) : (State.setKey key s).shutdown.overpress = s.shutdown.overpress := rfl
@[simp] theorem State.setKey_sump (key : Bool) : (State.setKey key s).shutdown.sump = s.shutdown.sump := rfl
@[simp] theorem State.setKey_highhigh (key : Bool) : (State.setKey key s).shutdown.highhigh = s.shutdown.highhigh := rfl
@[simp] theorem State.setKey_estop (key : Bool) : (State.setKey key s).shutdown.estop = s.shutdown.estop := rfl
@[simp] theorem State.setKey_dripBypass (key : Bool) : (State.setKey key s).shutdown.dripBypass = s.shutdown.dripBypass := rfl
@[simp] theorem State.setKey_sumpBypass (key : Bool) : (State.setKey key s).shutdown.sumpBypass = s.shutdown.sumpBypass := rfl
@[simp] theorem State.setKey_log (key : Bool) : (State.setKey key s).shutdown.log = s.shutdown.log := rfl
@[simp] theorem State.setKey_nextTrip (key : Bool) : (State.setKey key s).shutdown.nextTrip = s.shutdown.nextTrip := rfl
@[simp] theorem State.setKey_journal (key : Bool) : (State.setKey key s).journal = s.journal := rfl
@[simp] theorem State.setKey_links (key : Bool) : (State.setKey key s).links = s.links := rfl
@[simp] theorem State.setKey_pending (key : Bool) : (State.setKey key s).pending = s.pending := rfl

/-! ### setTankSettings -/

@[simp] theorem State.setTankSettings_clock (t : TankId) (x : TankSettings) : (State.setTankSettings t x s).clock = s.clock := rfl
@[simp] theorem State.setTankSettings_bay (t : TankId) (x : TankSettings) : (State.setTankSettings t x s).bay = s.bay := rfl
@[simp] theorem State.setTankSettings_points (t : TankId) (x : TankSettings) : (State.setTankSettings t x s).points = s.points := rfl
@[simp] theorem State.setTankSettings_pumps (t : TankId) (x : TankSettings) : (State.setTankSettings t x s).pumps = s.pumps := rfl
@[simp] theorem State.setTankSettings_inlets (t : TankId) (x : TankSettings) : (State.setTankSettings t x s).inlets = s.inlets := rfl
@[simp] theorem State.setTankSettings_stock (t : TankId) (x : TankSettings) : (State.setTankSettings t x s).stock = s.stock := rfl
@[simp] theorem State.setTankSettings_accounts (t : TankId) (x : TankSettings) : (State.setTankSettings t x s).accounts = s.accounts := rfl
@[simp] theorem State.setTankSettings_shutdown (t : TankId) (x : TankSettings) : (State.setTankSettings t x s).shutdown = s.shutdown := rfl
@[simp] theorem State.setTankSettings_journal (t : TankId) (x : TankSettings) : (State.setTankSettings t x s).journal = s.journal := rfl
@[simp] theorem State.setTankSettings_links (t : TankId) (x : TankSettings) : (State.setTankSettings t x s).links = s.links := rfl
@[simp] theorem State.setTankSettings_pending (t : TankId) (x : TankSettings) : (State.setTankSettings t x s).pending = s.pending := rfl

/-! ### setLinkSettings -/

@[simp] theorem State.setLinkSettings_clock (l : Link) (x : LinkSettings) : (State.setLinkSettings l x s).clock = s.clock := rfl
@[simp] theorem State.setLinkSettings_bay (l : Link) (x : LinkSettings) : (State.setLinkSettings l x s).bay = s.bay := rfl
@[simp] theorem State.setLinkSettings_points (l : Link) (x : LinkSettings) : (State.setLinkSettings l x s).points = s.points := rfl
@[simp] theorem State.setLinkSettings_pumps (l : Link) (x : LinkSettings) : (State.setLinkSettings l x s).pumps = s.pumps := rfl
@[simp] theorem State.setLinkSettings_inlets (l : Link) (x : LinkSettings) : (State.setLinkSettings l x s).inlets = s.inlets := rfl
@[simp] theorem State.setLinkSettings_stock (l : Link) (x : LinkSettings) : (State.setLinkSettings l x s).stock = s.stock := rfl
@[simp] theorem State.setLinkSettings_accounts (l : Link) (x : LinkSettings) : (State.setLinkSettings l x s).accounts = s.accounts := rfl
@[simp] theorem State.setLinkSettings_shutdown (l : Link) (x : LinkSettings) : (State.setLinkSettings l x s).shutdown = s.shutdown := rfl
@[simp] theorem State.setLinkSettings_journal (l : Link) (x : LinkSettings) : (State.setLinkSettings l x s).journal = s.journal := rfl
@[simp] theorem State.setLinkSettings_links (l : Link) (x : LinkSettings) : (State.setLinkSettings l x s).links = s.links := rfl
@[simp] theorem State.setLinkSettings_pending (l : Link) (x : LinkSettings) : (State.setLinkSettings l x s).pending = s.pending := rfl

/-! ### reply -/

@[simp] theorem State.reply_clock (l : Link) (r : Reply) : (State.reply l r s).clock = s.clock := rfl
@[simp] theorem State.reply_bay (l : Link) (r : Reply) : (State.reply l r s).bay = s.bay := rfl
@[simp] theorem State.reply_store (l : Link) (r : Reply) : (State.reply l r s).store = s.store := rfl
@[simp] theorem State.reply_points (l : Link) (r : Reply) : (State.reply l r s).points = s.points := rfl
@[simp] theorem State.reply_pumps (l : Link) (r : Reply) : (State.reply l r s).pumps = s.pumps := rfl
@[simp] theorem State.reply_inlets (l : Link) (r : Reply) : (State.reply l r s).inlets = s.inlets := rfl
@[simp] theorem State.reply_stock (l : Link) (r : Reply) : (State.reply l r s).stock = s.stock := rfl
@[simp] theorem State.reply_accounts (l : Link) (r : Reply) : (State.reply l r s).accounts = s.accounts := rfl
@[simp] theorem State.reply_shutdown (l : Link) (r : Reply) : (State.reply l r s).shutdown = s.shutdown := rfl
@[simp] theorem State.reply_journal (l : Link) (r : Reply) : (State.reply l r s).journal = s.journal := rfl
@[simp] theorem State.reply_pending (l : Link) (r : Reply) : (State.reply l r s).pending = s.pending := rfl

/-! ### postTo -/

@[simp] theorem State.postTo_clock (l : Link) (n : Notice) : (State.postTo l n s).clock = s.clock := rfl
@[simp] theorem State.postTo_bay (l : Link) (n : Notice) : (State.postTo l n s).bay = s.bay := rfl
@[simp] theorem State.postTo_store (l : Link) (n : Notice) : (State.postTo l n s).store = s.store := rfl
@[simp] theorem State.postTo_points (l : Link) (n : Notice) : (State.postTo l n s).points = s.points := rfl
@[simp] theorem State.postTo_pumps (l : Link) (n : Notice) : (State.postTo l n s).pumps = s.pumps := rfl
@[simp] theorem State.postTo_inlets (l : Link) (n : Notice) : (State.postTo l n s).inlets = s.inlets := rfl
@[simp] theorem State.postTo_stock (l : Link) (n : Notice) : (State.postTo l n s).stock = s.stock := rfl
@[simp] theorem State.postTo_accounts (l : Link) (n : Notice) : (State.postTo l n s).accounts = s.accounts := rfl
@[simp] theorem State.postTo_shutdown (l : Link) (n : Notice) : (State.postTo l n s).shutdown = s.shutdown := rfl
@[simp] theorem State.postTo_journal (l : Link) (n : Notice) : (State.postTo l n s).journal = s.journal := rfl
@[simp] theorem State.postTo_pending (l : Link) (n : Notice) : (State.postTo l n s).pending = s.pending := rfl

/-! ### reach -/

@[simp] theorem State.reach_bay (instant : Nat) : (s.reach instant).bay = s.bay := by unfold State.reach; split <;> rfl
@[simp] theorem State.reach_store (instant : Nat) : (s.reach instant).store = s.store := by unfold State.reach; split <;> rfl
@[simp] theorem State.reach_points (instant : Nat) : (s.reach instant).points = s.points := by unfold State.reach; split <;> rfl
@[simp] theorem State.reach_pumps (instant : Nat) : (s.reach instant).pumps = s.pumps := by unfold State.reach; split <;> rfl
@[simp] theorem State.reach_inlets (instant : Nat) : (s.reach instant).inlets = s.inlets := by unfold State.reach; split <;> rfl
@[simp] theorem State.reach_stock (instant : Nat) : (s.reach instant).stock = s.stock := by unfold State.reach; split <;> rfl
@[simp] theorem State.reach_accounts (instant : Nat) : (s.reach instant).accounts = s.accounts := by unfold State.reach; split <;> rfl
@[simp] theorem State.reach_shutdown (instant : Nat) : (s.reach instant).shutdown = s.shutdown := by unfold State.reach; split <;> rfl
@[simp] theorem State.reach_journal (instant : Nat) : (s.reach instant).journal = s.journal := by unfold State.reach; split <;> rfl
@[simp] theorem State.reach_links (instant : Nat) : (s.reach instant).links = s.links := by unfold State.reach; split <;> rfl
@[simp] theorem State.reach_pending (instant : Nat) : (s.reach instant).pending = s.pending := by unfold State.reach; split <;> rfl

/-! ### post -/

@[simp] theorem State.post_clock (n : Notice) : (State.post n s).clock = s.clock := by
  unfold State.post; exact forEach_keeps (g := State.clock) _ _ (fun _ _ => by split <;> rfl) s
@[simp] theorem State.post_bay (n : Notice) : (State.post n s).bay = s.bay := by
  unfold State.post; exact forEach_keeps (g := State.bay) _ _ (fun _ _ => by split <;> rfl) s
@[simp] theorem State.post_store (n : Notice) : (State.post n s).store = s.store := by
  unfold State.post; exact forEach_keeps (g := State.store) _ _ (fun _ _ => by split <;> rfl) s
@[simp] theorem State.post_points (n : Notice) : (State.post n s).points = s.points := by
  unfold State.post; exact forEach_keeps (g := State.points) _ _ (fun _ _ => by split <;> rfl) s
@[simp] theorem State.post_pumps (n : Notice) : (State.post n s).pumps = s.pumps := by
  unfold State.post; exact forEach_keeps (g := State.pumps) _ _ (fun _ _ => by split <;> rfl) s
@[simp] theorem State.post_inlets (n : Notice) : (State.post n s).inlets = s.inlets := by
  unfold State.post; exact forEach_keeps (g := State.inlets) _ _ (fun _ _ => by split <;> rfl) s
@[simp] theorem State.post_stock (n : Notice) : (State.post n s).stock = s.stock := by
  unfold State.post; exact forEach_keeps (g := State.stock) _ _ (fun _ _ => by split <;> rfl) s
@[simp] theorem State.post_accounts (n : Notice) : (State.post n s).accounts = s.accounts := by
  unfold State.post; exact forEach_keeps (g := State.accounts) _ _ (fun _ _ => by split <;> rfl) s
@[simp] theorem State.post_shutdown (n : Notice) : (State.post n s).shutdown = s.shutdown := by
  unfold State.post; exact forEach_keeps (g := State.shutdown) _ _ (fun _ _ => by split <;> rfl) s
@[simp] theorem State.post_journal (n : Notice) : (State.post n s).journal = s.journal := by
  unfold State.post; exact forEach_keeps (g := State.journal) _ _ (fun _ _ => by split <;> rfl) s
@[simp] theorem State.post_pending (n : Notice) : (State.post n s).pending = s.pending := by
  unfold State.post; exact forEach_keeps (g := State.pending) _ _ (fun _ _ => by split <;> rfl) s

end Sys2Proof.Machine
end

