-- ==== Sys2Proof/Laws/Places.lean ====
section
/-! SUPPORT. Reading a place of a table after a place of it has been written, and the same for the units, tanks,
links and latches of the state. -/

namespace Sys2Proof

@[simp] theorem look_put_self {n : Nat} {α : Type} (t : Table n α) (i : Fin n) (x : α) : look (put t i x) i = x := by
  simp [look, put]

theorem look_put_ne {n : Nat} {α : Type} (t : Table n α) {i j : Fin n} (x : α) (h : i ≠ j) :
    look (put t i x) j = look t j := by
  have : i.val ≠ j.val := fun e => h (Fin.ext e)
  simp [look, put, this]

theorem look_put {n : Nat} {α : Type} (t : Table n α) (i j : Fin n) (x : α) :
    look (put t i x) j = if i = j then x else look t j := by
  split
  · next h => subst h; simp
  · next h => exact look_put_ne t x h

@[simp] theorem look_adjust_self {n : Nat} {α : Type} (t : Table n α) (i : Fin n) (f : α → α) :
    look (adjust t i f) i = f (look t i) := look_put_self ..

theorem look_adjust {n : Nat} {α : Type} (t : Table n α) (i j : Fin n) (f : α → α) :
    look (adjust t i f) j = if i = j then f (look t i) else look t j := look_put ..

@[simp] theorem look_fill {n : Nat} {α : Type} (x : α) (i : Fin n) : look (fill n x) i = x := by
  simp [look, fill]

@[simp] theorem look_mapTable {n : Nat} {α β : Type} (t : Table n α) (f : α → β) (i : Fin n) :
    look (mapTable t f) i = f (look t i) := by
  simp [look, mapTable]

@[simp] theorem look_ofFn {n : Nat} {α : Type} (f : Fin n → α) (i : Fin n) : look (Vector.ofFn f) i = f i := by
  simp [look]

@[simp] theorem put_put {n : Nat} {α : Type} (t : Table n α) (i : Fin n) (x y : α) :
    put (put t i x) i y = put t i y := by
  simp [put]

theorem put_look {n : Nat} {α : Type} (t : Table n α) (i : Fin n) : put t i (look t i) = t := by
  simp [put, look]

@[simp] theorem adjust_adjust {n : Nat} {α : Type} (t : Table n α) (i : Fin n) (f g : α → α) :
    adjust (adjust t i f) i g = adjust t i fun x => g (f x) := by
  simp [adjust]

theorem numbered_numberOf {n : Nat} (i : Fin n) : numbered n (numberOf i) = some i := by
  unfold numbered numberOf
  rw [dif_pos ⟨by omega, by omega⟩]
  rfl

theorem numberOf_of_numbered {n k : Nat} {i : Fin n} (h : numbered n k = some i) : numberOf i = k := by
  unfold numbered at h
  split at h
  · injection h with h; subst h; simp only [numberOf]; omega
  · cases h

end Sys2Proof

namespace Sys2Proof.Machine

open Sys2Proof

variable (s : State)

@[simp] theorem point_updPoint_self (p : PointId) (f : PointUnit → PointUnit) :
    (State.updPoint p f s).point p = f (s.point p) := look_adjust_self ..

theorem point_updPoint (p q : PointId) (f : PointUnit → PointUnit) :
    (State.updPoint p f s).point q = if p = q then f (s.point p) else s.point q := look_adjust ..

@[simp] theorem inlet_updInlet_self (i : InletId) (f : InletUnit → InletUnit) :
    (State.updInlet i f s).inlet i = f (s.inlet i) := look_adjust_self ..

theorem inlet_updInlet (i j : InletId) (f : InletUnit → InletUnit) :
    (State.updInlet i f s).inlet j = if i = j then f (s.inlet i) else s.inlet j := look_adjust ..

@[simp] theorem pump_updPump_self (m : PumpId) (f : PumpUnit → PumpUnit) :
    (State.updPump m f s).pump m = f (s.pump m) := look_adjust_self ..

theorem pump_updPump (m n : PumpId) (f : PumpUnit → PumpUnit) :
    (State.updPump m f s).pump n = if m = n then f (s.pump m) else s.pump n := look_adjust ..

@[simp] theorem tank_updTank_self (t : TankId) (f : Tank → Tank) :
    (State.updTank t f s).tank t = f (s.tank t) := look_adjust_self ..

theorem tank_updTank (t u : TankId) (f : Tank → Tank) :
    (State.updTank t f s).tank u = if t = u then f (s.tank t) else s.tank u := look_adjust ..

@[simp] theorem draw_updDraw_self (k : ProductId) (f : Draw → Draw) :
    (State.updDraw k f s).draw k = f (s.draw k) := look_adjust_self ..

@[simp] theorem link_updLink_self (l : Link) (f : LinkUnit → LinkUnit) :
    (State.updLink l f s).link l = f (s.link l) := look_adjust_self ..

theorem link_updLink (l m : Link) (f : LinkUnit → LinkUnit) :
    (State.updLink l f s).link m = if l = m then f (s.link l) else s.link m := look_adjust ..

@[simp] theorem point_updOrder_self (p : PointId) (f : Order → Order) :
    (State.updOrder p f s).point p = { s.point p with order := (s.point p).order.map f } := look_adjust_self ..

@[simp] theorem inlet_updDelivery_self (i : InletId) (f : Delivery → Delivery) :
    (State.updDelivery i f s).inlet i = { s.inlet i with delivery := (s.inlet i).delivery.map f } :=
  look_adjust_self ..

@[simp] theorem latch_setLatch_self (x : LatchId) (l : Latch) : (State.setLatch x l s).latch x = l := by
  cases x with
  | point p => exact look_put_self ..
  | bund b => exact look_put_self ..
  | bay => rfl

@[simp] theorem bypass_setBypass_self (x : BypassId) (b : Option Bypass) : (State.setBypass x b s).bypass x = b := by
  cases x <;> exact look_put_self ..

@[simp] theorem debounced_updDebounced_self (x : DebouncedInput) (f : Input → Input) :
    (State.updDebounced x f s).debounced x = f (s.debounced x) := by
  cases x <;> exact look_adjust_self ..

end Sys2Proof.Machine
end

