-- ==== Sys2Proof/Laws/Shared.lean ====
section
/-! SUPPORT. What the shared operations do, one lemma for each: requests and their replies, events, exhaustion
reports, notices, and the loops over the bay. -/

namespace Sys2Proof.Machine

open Sys2Proof

/-! ## Exhaustion reports (R70) -/

/-- With no exhaustion report waiting nothing is handed. -/
@[simp] theorem handReports_none {s : State} (h : s.stock.reports = []) : handReports s = s := by
  unfold handReports handReportsAt handReportsUpTo
  rw [h]

/-- Handing the reports leaves none waiting. -/
theorem handReportsUpTo_reports (ended : Option PointId) (n : Nat) (s : State) :
    (handReportsUpTo ended n s).stock.reports = [] := by
  induction n generalizing s with
  | zero => rfl
  | succ n ih =>
    unfold handReportsUpTo
    split
    · assumption
    · exact ih _

theorem handReports_reports (s : State) : (handReports s).stock.reports = [] := handReportsUpTo_reports ..

/-! ## Requests (R182, R183) -/

/-- A request that names a part of what its reply carries, or whose reply carries nothing in parts: its effect, and
the reply on its link. -/
theorem serve_answered {v : Via} {code : Nat} {request : State → Answer} {s : State} (a : Answer)
    (h : request s = a) (hp : carriesParts a.status a.content = false ∨ hasPart v a.content) :
    serve v code request s = answered v (BitVec.ofNat 8 code) a.status a.content a.state := by
  have whole : badPart v a.status a.content = false := by
    unfold badPart
    rcases hp with none | part
    · rw [none, Bool.false_and]
    · rw [decide_eq_false (Nat.not_le.mpr part), Bool.and_false]
  simp only [serve, h, whole, answered, Bool.false_eq_true, if_false]

/-- A refusal with no content: the state its checks left, and the reply on its link. -/
theorem serve_refused {v : Via} {code : Nat} {request : State → Answer} {s : State} (a : Answer)
    (h : request s = a) (taken : a.status.taken = false) (empty : a.content = []) :
    serve v code request s = answered v (BitVec.ofNat 8 code) a.status a.content a.state :=
  serve_answered a h (.inl (by simp [carriesParts, taken, empty]))

/-- A request that names a part beyond what its reply carries: RANGE, and nothing else. -/
theorem serve_beyond {v : Via} {code : Nat} {request : State → Answer} {s : State} (a : Answer)
    (h : request s = a) (parts : carriesParts a.status a.content = true) (beyond : ¬hasPart v a.content) :
    serve v code request s = answered v (BitVec.ofNat 8 code) .range [] s := by
  have bad : badPart v a.status a.content = true := by
    simp only [badPart, parts, Bool.true_and, decide_eq_true_eq]
    exact Nat.not_lt.mp beyond
  simp only [serve, h, bad, answered, if_true]

/-- A request taken by a running controller: its wake, then its checks and effect with the exhaustion reports
handed. -/
theorem serveRequest_running {v : Via} {code : Nat} {i : Instr} {s : State} (h : s.Running) :
    serveRequest v code i s = serve v code (fun s => (requestAnswer i s).handed) (wakeBy i s) := by
  simp [serveRequest, takeRequest, whileRunning, show s.bay.stopped = false from h]

/-- Every content has a part. -/
theorem partCount_pos (content : List Item) : 0 < partCount content := by
  unfold partCount
  by_cases whole : (contentBytes content).length ≤ Config.wholeContent
  · simp only [whole, if_true]; exact Nat.one_pos
  · simp only [whole, if_false]; simp only [Config.wholeContent] at whole; omega

/-- A part number of 0 names a part of every content. -/
theorem hasPart_of_zero {v : Via} {content : List Item} (h : partNumber v = 0) : hasPart v content := by
  rw [hasPart, h]
  exact partCount_pos content

/-! ## Events -/

/-- An event taken by a running controller. -/
theorem takeEvent_running {f : State → State} {s : State} (h : s.Running) : takeEvent f s = handReports (f s) := by
  simp [takeEvent, whileRunning, show s.bay.stopped = false from h]

/-- A line's change taken by a running controller. -/
theorem takeLine_running {follow event : State → State} {s : State} (h : s.Running) :
    takeLine follow event s = handReports (event s) := by
  simp [takeLine, show s.bay.stopped = false from h]

/-! ## Notices (R189 to R191) -/

/-- A queue never passes its 16 places by a notice. -/
theorem enqueue_length (level : Nat) (e : NoticeEntry) (u : LinkUnit) (h : u.queue.length ≤ Config.maxNotices) :
    (LinkUnit.enqueue level e u).queue.length ≤ Config.maxNotices := by
  unfold LinkUnit.enqueue LinkUnit.lineAt
  split
  · simp only [List.length_append, List.length_cons, List.length_nil]; omega
  · exact h

/-- A notice changes nothing but the link units. -/
theorem post_same (n : Notice) (s : State) : SameButLinks s (s.post n) := by
  unfold SameButLinks
  have e : ∀ a b : State, a.clock = b.clock → a.bay = b.bay → a.store = b.store → a.points = b.points →
      a.pumps = b.pumps → a.inlets = b.inlets → a.stock = b.stock → a.accounts = b.accounts →
      a.shutdown = b.shutdown → a.journal = b.journal → a.links = b.links → a.pending = b.pending → a = b := by
    intro a b; cases a; cases b; simp_all
  apply e <;> simp

/-! ## Loops -/

/-- What each round of a loop keeps, the loop keeps. -/
theorem forEach_invariant {α : Type} {P : State → Prop} (xs : List α) (f : α → State → State)
    (h : ∀ x s, P s → P (f x s)) (s : State) (hs : P s) : P (forEach xs f s) := by
  induction xs generalizing s with
  | nil => exact hs
  | cons x xs ih => exact ih (f x s) (h x s hs)

/-! ## Counts and tables -/

/-- A ring of the journal never passes its 512 slots. -/
theorem ringAfter_length (held : List Record) (r : Record) (h : held.length ≤ Config.journalSlots) :
    (ringAfter held r).length ≤ Config.journalSlots := by
  unfold ringAfter
  split
  · simp only [List.length_append, List.length_cons, List.length_nil]; omega
  · simp only [List.length_append, List.length_drop, List.length_cons, List.length_nil, Config.journalSlots] at *
    omega

/-- The trip log never passes its 32 entries. -/
theorem logAfter_length (log : List TripEntry) (e : TripEntry) (h : log.length ≤ Config.maxTripLog) :
    (logAfter log e).length ≤ Config.maxTripLog := by
  unfold logAfter
  split
  · simp only [List.length_append, List.length_cons, List.length_nil]; omega
  · simp only [List.length_append, List.length_drop, List.length_cons, List.length_nil, Config.maxTripLog] at *
    omega

/-- An account's new record stands in the table with those it held. -/
theorem mem_insertAccount {a b : Account} {table : List Account} :
    b ∈ insertAccount a table ↔ b = a ∨ b ∈ table := by
  induction table with
  | nil => simp [insertAccount]
  | cons c rest ih =>
    unfold insertAccount
    split
    · simp
    · simp only [List.mem_cons, ih]; tauto

/-! ## A stopped controller (R199, log entry 53) -/

@[simp] theorem stopController_point (s : State) (p : PointId) :
    (stopController s).point p = { s.point p with valve := false, meter := .idle } := look_mapTable ..

@[simp] theorem stopController_inlet (s : State) (i : InletId) :
    (stopController s).inlet i = { s.inlet i with valve := false, meter := .idle } := look_mapTable ..

@[simp] theorem stopController_pump (s : State) (m : PumpId) :
    (stopController s).pump m = { s.pump m with run := false } := look_mapTable ..

@[simp] theorem stopController_link (s : State) (l : Link) :
    (stopController s).link l = { s.link l with
      notice := false, service := none, busyWaiting := none, inFrame := false, restartOwed := .none } :=
  look_mapTable ..

/-- A controller that stops keeps all but its outputs, its windows, what its links had in progress and its mark. -/
theorem stopController_keeps (s : State) :
    (stopController s).bay = { s.bay with stopped := true } ∧ (stopController s).clock = s.clock ∧
      (stopController s).store = s.store ∧ (stopController s).stock = s.stock ∧
      (stopController s).accounts = s.accounts ∧ (stopController s).shutdown = s.shutdown ∧
      (stopController s).journal = s.journal ∧ (stopController s).pumps.queue = s.pumps.queue ∧
      (stopController s).pumps.supplyReady = s.pumps.supplyReady ∧ (stopController s).pending = s.pending :=
  ⟨rfl, rfl, rfl, rfl, rfl, rfl, rfl, rfl, rfl, rfl⟩

/-! ## Restart sequences -/

/-- R200, step 2: a start that has been reached is one shift change, and the next start is of the table in force. -/
theorem restartShift_reached {s : State} (h : s.bay.nextShift ≤ s.calendar) :
    restartShift s = setNextShift s.calendar (shiftChange s) := if_pos h

/-- Log entry 54: a retained start still ahead stays, whatever the table in force. -/
theorem restartShift_ahead {s : State} (h : s.calendar < s.bay.nextShift) : restartShift s = s :=
  if_neg (Nat.not_le.mpr h)

/-- R200: the sequence with the supply kept is all its events and then the restart record. -/
theorem runSequence_whole (events : List SequenceStep) (cause : RestartCause) (check : MemoryCheck) (interrupted : Nat)
    (link : Option Link) (s : State) (h : check.cutAfter = none) :
    runSequence events cause check interrupted link s =
      recordRestart cause check interrupted link (forEach events sequenceStep s) := by
  simp [runSequence, h]

/-- R200: the sequence with the supply failing again after `n` events is those, and a controller that is stopped. -/
theorem runSequence_cut (events : List SequenceStep) (cause : RestartCause) (check : MemoryCheck) (interrupted n : Nat)
    (link : Option Link) (s : State) (h : check.cutAfter = some n) :
    runSequence events cause check interrupted link s = stopController (forEach (events.take n) sequenceStep s) := by
  simp [runSequence, h]

end Sys2Proof.Machine
end

