-- ==== Sys2Proof/Laws/PerInstr.lean ====
section
/-! SUPPORT. Statements made of each command, one lemma for each constructor of `Instr`. -/

/-- A command is a request with a CODE of the catalogue, whose payload has a length (section 10.4, R194), exactly
when it came on a link. -/
def Sys2Proof.Laws.Wire.Statement (i : Sys2Proof.Instr) : Prop :=
  ((Sys2Proof.Machine.viaOf i).isSome = (Sys2Proof.Machine.requestCode i).isSome) ∧
    ∀ c, Sys2Proof.Machine.requestCode i = some c → (Sys2Proof.Machine.payloadLength c).isSome = true

namespace Sys2Proof.Laws.Wire

open Sys2Proof Sys2Proof.Machine

theorem fetchResult (v : Via) : Statement (.fetchResult v) := ⟨rfl, fun _ h => by cases h; rfl⟩
theorem stopLong (v : Via) : Statement (.stopLong v) := ⟨rfl, fun _ h => by cases h; rfl⟩
theorem fetchNotices (v : Via) (count : Nat) : Statement (.fetchNotices v count) := ⟨rfl, fun _ h => by cases h; rfl⟩
theorem setSubscription (v : Via) (f : SetSubscription) : Statement (.setSubscription v f) := ⟨rfl, fun _ h => by cases h; rfl⟩
theorem linkStatus (v : Via) : Statement (.linkStatus v) := ⟨rfl, fun _ h => by cases h; rfl⟩
theorem setPermissions (v : Via) (f : SetPermissions) : Statement (.setPermissions v f) := ⟨rfl, fun _ h => by cases h; rfl⟩
theorem readSettings (v : Via) (name : Coded SettingsName) : Statement (.readSettings v name) := ⟨rfl, fun _ h => by cases h; rfl⟩
theorem openOrder (v : Via) (f : OpenOrder) : Statement (.openOrder v f) := ⟨rfl, fun _ h => by cases h; rfl⟩
theorem stopOrder (v : Via) (f : StopOrder) : Statement (.stopOrder v f) := ⟨rfl, fun _ h => by cases h; rfl⟩
theorem pointStatus (v : Via) (point : Nat) : Statement (.pointStatus v point) := ⟨rfl, fun _ h => by cases h; rfl⟩
theorem pumpStatus (v : Via) : Statement (.pumpStatus v) := ⟨rfl, fun _ h => by cases h; rfl⟩
theorem openDelivery (v : Via) (f : OpenDelivery) : Statement (.openDelivery v f) := ⟨rfl, fun _ h => by cases h; rfl⟩
theorem stopDelivery (v : Via) (f : StopDelivery) : Statement (.stopDelivery v f) := ⟨rfl, fun _ h => by cases h; rfl⟩
theorem inletStatus (v : Via) (inlet : Nat) : Statement (.inletStatus v inlet) := ⟨rfl, fun _ h => by cases h; rfl⟩
theorem stockReportNow (v : Via) (product : Nat) : Statement (.stockReportNow v product) := ⟨rfl, fun _ h => by cases h; rfl⟩
theorem stockReportSettled (v : Via) (product : Nat) : Statement (.stockReportSettled v product) := ⟨rfl, fun _ h => by cases h; rfl⟩
theorem adjustStockSetToGauge (v : Via) (tank : Nat) : Statement (.adjustStockSetToGauge v tank) := ⟨rfl, fun _ h => by cases h; rfl⟩
theorem adjustStockDelta (v : Via) (tank : Nat) (f : AdjustDelta) : Statement (.adjustStockDelta v tank f) := ⟨rfl, fun _ h => by cases h; rfl⟩
theorem setTankService (v : Via) (f : SetTankService) : Statement (.setTankService v f) := ⟨rfl, fun _ h => by cases h; rfl⟩
theorem readAccount (v : Via) (machine : Nat) : Statement (.readAccount v machine) := ⟨rfl, fun _ h => by cases h; rfl⟩
theorem readNextAccount (v : Via) : Statement (.readNextAccount v) := ⟨rfl, fun _ h => by cases h; rfl⟩
theorem setCursor (v : Via) (machine : Nat) : Statement (.setCursor v machine) := ⟨rfl, fun _ h => by cases h; rfl⟩
theorem addAccount (v : Via) (f : AddAccount) : Statement (.addAccount v f) := ⟨rfl, fun _ h => by cases h; rfl⟩
theorem writeAccount (v : Via) (f : WriteAccount) : Statement (.writeAccount v f) := ⟨rfl, fun _ h => by cases h; rfl⟩
theorem deleteAccount (v : Via) (machine : Nat) : Statement (.deleteAccount v machine) := ⟨rfl, fun _ h => by cases h; rfl⟩
theorem scanAccounts (v : Via) (f : ScanAccounts) : Statement (.scanAccounts v f) := ⟨rfl, fun _ h => by cases h; rfl⟩
theorem setRangeStatus (v : Via) (f : SetRangeStatus) : Statement (.setRangeStatus v f) := ⟨rfl, fun _ h => by cases h; rfl⟩
theorem readDeferred (v : Via) (machine : Option Nat) : Statement (.readDeferred v machine) := ⟨rfl, fun _ h => by cases h; rfl⟩
theorem readClass (v : Via) (klass : Nat) : Statement (.readClass v klass) := ⟨rfl, fun _ h => by cases h; rfl⟩
theorem setClass (v : Via) (f : SetClass) : Statement (.setClass v f) := ⟨rfl, fun _ h => by cases h; rfl⟩
theorem shutdownStatus (v : Via) (key : Bool) : Statement (.shutdownStatus v key) := ⟨rfl, fun _ h => by cases h; rfl⟩
theorem releaseTrip (v : Via) (name : Coded LatchName) (key : Bool) : Statement (.releaseTrip v name key) := ⟨rfl, fun _ h => by cases h; rfl⟩
theorem setBypass (v : Via) (f : SetBypass) : Statement (.setBypass v f) := ⟨rfl, fun _ h => by cases h; rfl⟩
theorem readTripLog (v : Via) (name : Coded TripLogName) : Statement (.readTripLog v name) := ⟨rfl, fun _ h => by cases h; rfl⟩
theorem readJournal (v : Via) (name : Coded JournalName) : Statement (.readJournal v name) := ⟨rfl, fun _ h => by cases h; rfl⟩
theorem releaseJournal (v : Via) (position : Nat) : Statement (.releaseJournal v position) := ⟨rfl, fun _ h => by cases h; rfl⟩
theorem bayStatus (v : Via) : Statement (.bayStatus v) := ⟨rfl, fun _ h => by cases h; rfl⟩
theorem setModeOpen (v : Via) : Statement (.setModeOpen v) := ⟨rfl, fun _ h => by cases h; rfl⟩
theorem setModeStandby (v : Via) : Statement (.setModeStandby v) := ⟨rfl, fun _ h => by cases h; rfl⟩
theorem setModeLock (v : Via) : Statement (.setModeLock v) := ⟨rfl, fun _ h => by cases h; rfl⟩
theorem setModeUnlock (v : Via) : Statement (.setModeUnlock v) := ⟨rfl, fun _ h => by cases h; rfl⟩
theorem setClock (v : Via) (calendar : Nat) : Statement (.setClock v calendar) := ⟨rfl, fun _ h => by cases h; rfl⟩
theorem setShiftTable (v : Via) (minutes : Coded (List Nat)) : Statement (.setShiftTable v minutes) := ⟨rfl, fun _ h => by cases h; rfl⟩
theorem restartRequest (v : Via) : Statement (.restartRequest v) := ⟨rfl, fun _ h => by cases h; rfl⟩
theorem setPoint (v : Via) (f : SetPoint) : Statement (.setPoint v f) := ⟨rfl, fun _ h => by cases h; rfl⟩
theorem setPump (v : Via) (f : SetPump) : Statement (.setPump v f) := ⟨rfl, fun _ h => by cases h; rfl⟩
theorem setInlet (v : Via) (f : SetInlet) : Statement (.setInlet v f) := ⟨rfl, fun _ h => by cases h; rfl⟩
theorem setProduct (v : Via) (f : SetProduct) : Statement (.setProduct v f) := ⟨rfl, fun _ h => by cases h; rfl⟩
theorem setTank (v : Via) (f : SetTank) : Statement (.setTank v f) := ⟨rfl, fun _ h => by cases h; rfl⟩
theorem setStockTiming (v : Via) (f : SetStockTiming) : Statement (.setStockTiming v f) := ⟨rfl, fun _ h => by cases h; rfl⟩
theorem setDebounce (v : Via) (f : SetDebounce) : Statement (.setDebounce v f) := ⟨rfl, fun _ h => by cases h; rfl⟩
theorem rateSeekCharacter (l : Link) (widthNs : Nat) (char : Byte) (stopGood : Bool) : Statement (.rateSeekCharacter l widthNs char stopGood) := ⟨rfl, fun _ h => nomatch h⟩
theorem goodFrame (l : Link) (bytes : List Byte) (key : Bool) : Statement (.goodFrame l bytes key) := ⟨rfl, fun _ h => nomatch h⟩
theorem badFrame (l : Link) : Statement (.badFrame l) := ⟨rfl, fun _ h => nomatch h⟩
theorem frameGapTimeout (l : Link) : Statement (.frameGapTimeout l) := ⟨rfl, fun _ h => nomatch h⟩
theorem breakLine (l : Link) : Statement (.breakLine l) := ⟨rfl, fun _ h => nomatch h⟩
theorem replySent (l : Link) : Statement (.replySent l) := ⟨rfl, fun _ h => nomatch h⟩
theorem meterPulse (m : MeterId) : Statement (.meterPulse m) := ⟨rfl, fun _ h => nomatch h⟩
theorem windowEnd (m : MeterId) (reading : Option Int) : Statement (.windowEnd m reading) := ⟨rfl, fun _ h => nomatch h⟩
theorem nozzleFrame (p : PointId) (f : NozzleFrame) : Statement (.nozzleFrame p f) := ⟨rfl, fun _ h => nomatch h⟩
theorem nozzleBreak (p : PointId) : Statement (.nozzleBreak p) := ⟨rfl, fun _ h => nomatch h⟩
theorem nozzleLineHigh (p : PointId) : Statement (.nozzleLineHigh p) := ⟨rfl, fun _ h => nomatch h⟩
theorem identTimerExpiry (p : PointId) : Statement (.identTimerExpiry p) := ⟨rfl, fun _ h => nomatch h⟩
theorem primeTimerExpiry (p : PointId) : Statement (.primeTimerExpiry p) := ⟨rfl, fun _ h => nomatch h⟩
theorem attendanceTimerExpiry (p : PointId) : Statement (.attendanceTimerExpiry p) := ⟨rfl, fun _ h => nomatch h⟩
theorem stopTimerExpiry (p : PointId) (reading : Option Int) : Statement (.stopTimerExpiry p reading) := ⟨rfl, fun _ h => nomatch h⟩
theorem attend (p : PointId) : Statement (.attend p) := ⟨rfl, fun _ h => nomatch h⟩
theorem stopBtn (p : PointId) : Statement (.stopBtn p) := ⟨rfl, fun _ h => nomatch h⟩
theorem startTimerExpiry (m : PumpId) : Statement (.startTimerExpiry m) := ⟨rfl, fun _ h => nomatch h⟩
theorem holdTimerExpiry (m : PumpId) : Statement (.holdTimerExpiry m) := ⟨rfl, fun _ h => nomatch h⟩
theorem pumpFaultActive (m : PumpId) : Statement (.pumpFaultActive m) := ⟨rfl, fun _ h => nomatch h⟩
theorem pumpFaultInactive (m : PumpId) : Statement (.pumpFaultInactive m) := ⟨rfl, fun _ h => nomatch h⟩
theorem supplyReadyActive : Statement (.supplyReadyActive) := ⟨rfl, fun _ h => nomatch h⟩
theorem supplyReadyInactive : Statement (.supplyReadyInactive) := ⟨rfl, fun _ h => nomatch h⟩
theorem inletCoupledActive (i : InletId) : Statement (.inletCoupledActive i) := ⟨rfl, fun _ h => nomatch h⟩
theorem inletCoupledInactive (i : InletId) : Statement (.inletCoupledInactive i) := ⟨rfl, fun _ h => nomatch h⟩
theorem inletStopTimerExpiry (i : InletId) (reading : Option Int) : Statement (.inletStopTimerExpiry i reading) := ⟨rfl, fun _ h => nomatch h⟩
theorem settleTimerExpiry (i : InletId) : Statement (.settleTimerExpiry i) := ⟨rfl, fun _ h => nomatch h⟩
theorem gaugeReading (t : TankId) (report : Option GaugeReport) : Statement (.gaugeReading t report) := ⟨rfl, fun _ h => nomatch h⟩
theorem stockCheckExpiry : Statement (.stockCheckExpiry) := ⟨rfl, fun _ h => nomatch h⟩
theorem settledReportWaitExpiry (l : Link) : Statement (.settledReportWaitExpiry l) := ⟨rfl, fun _ h => nomatch h⟩
theorem lineInputChange (x : DebouncedInput) (level : Bool) : Statement (.lineInputChange x level) := ⟨rfl, fun _ h => nomatch h⟩
theorem debounceExpiry (x : DebouncedInput) : Statement (.debounceExpiry x) := ⟨rfl, fun _ h => nomatch h⟩
theorem estopChange (level : Bool) : Statement (.estopChange level) := ⟨rfl, fun _ h => nomatch h⟩
theorem bypassExpiry (x : BypassId) : Statement (.bypassExpiry x) := ⟨rfl, fun _ h => nomatch h⟩
theorem scanVisit (l : Link) : Statement (.scanVisit l) := ⟨rfl, fun _ h => nomatch h⟩
theorem rangeVisit (l : Link) : Statement (.rangeVisit l) := ⟨rfl, fun _ h => nomatch h⟩
theorem shiftStart : Statement (.shiftStart) := ⟨rfl, fun _ h => nomatch h⟩
theorem powerOn (check : MemoryCheck) (offMs : Nat) : Statement (.powerOn check offMs) := ⟨rfl, fun _ h => nomatch h⟩
theorem supplyDip : Statement (.supplyDip) := ⟨rfl, fun _ h => nomatch h⟩
theorem requestedRestart (l : Link) (check : MemoryCheck) : Statement (.requestedRestart l check) := ⟨rfl, fun _ h => nomatch h⟩
theorem supplyReturn (check : MemoryCheck) : Statement (.supplyReturn check) := ⟨rfl, fun _ h => nomatch h⟩

end Sys2Proof.Laws.Wire
end

