-- ==== Sys2Proof/WellFormed.lean ====
section
/-! DEFINITION. Well-formed commands: each operand is one that the link's coding (R194) or the line in question
can carry.  A well-formed operand may still be out of the range its rule allows; the meanings check that. -/

namespace Sys2Proof

open Sys2Proof.Machine

/-- A number that fits in so many bytes. -/
def fits (width n : Nat) : Bool := n < 256 ^ width

/-- A signed number that fits in so many bytes. -/
def fitsSigned (width : Nat) (x : Int) : Bool := -(256 ^ width : Int) ≤ 2 * x && 2 * x < (256 ^ width : Int)

/-- An optional number whose value is not the absent value of its width. -/
def fitsOption (width : Nat) (x : Option Nat) : Bool := x.all fun n => n < 256 ^ width - 1

/-- Text of at most so many characters, each one byte and none of them trailing padding. -/
def fitsText (width : Nat) (chars : List Nat) : Bool :=
  chars.length ≤ width && chars.all (fits 1) && chars.getLast? ≠ some 0x20

def fitsMeter (m : MeterSettings) : Bool :=
  fits 4 m.pulseVolume && fits 2 m.q1 && fits 2 m.q2 && fits 2 m.q3 && fits 2 m.q4 &&
    fitsSigned 2 m.d1 && fitsSigned 2 m.d2 && fitsSigned 2 m.d3 && fitsSigned 2 m.d4

def fitsLine (l : LineFields) : Bool := fits 1 l.product && fits 2 l.interval && fits 4 l.lastService

def fitsLines (ls : Coded (List LineFields)) : Bool := ls.all fun ls => ls.length ≤ 4 && ls.all fitsLine

def fitsSettingsName : SettingsName → Bool
  | .point n | .pump n | .inlet n | .product n | .tank n | .link n => fits 1 n
  | .stockTiming | .debounce | .shiftTable => true

def fitsStrapping (t : Table 12 StrapPoint) : Bool := t.toList.all fun p => fits 2 p.level && fits 4 p.volume

/-- Whether the operands of a command are ones its carrier can bring. -/
def wellFormed : Instr → Bool
  | .fetchResult _ | .stopLong _ | .linkStatus _ | .pumpStatus _ | .readNextAccount _ | .bayStatus _
  | .setModeOpen _ | .setModeStandby _ | .setModeLock _ | .setModeUnlock _ | .restartRequest _ => true
  | .fetchNotices _ count => fits 1 count
  | .setSubscription _ f => fits 1 f.link && fits 1 f.level
  | .setPermissions _ f => fits 1 f.link
  | .readSettings _ name => name.all fitsSettingsName
  | .openOrder _ f =>
    fits 1 f.point && fitsOption 2 f.machine && fitsOption 4 f.preset && fitsOption 4 f.manualHours
  | .stopOrder _ f => fits 1 f.point && fits 4 f.number
  | .pointStatus _ point => fits 1 point
  | .openDelivery _ f =>
    fits 1 f.inlet && fits 1 f.tank && fits 1 f.product && fitsText 12 f.tanker && fitsOption 4 f.declared
  | .stopDelivery _ f => fits 1 f.inlet && fits 4 f.number
  | .inletStatus _ inlet => fits 1 inlet
  | .stockReportNow _ product => fits 1 product
  | .stockReportSettled _ product => fits 1 product
  | .adjustStockSetToGauge _ tank => fits 1 tank
  | .adjustStockDelta _ tank f => fits 1 tank && fitsSigned 4 f.amount && fits 1 f.reason
  | .setTankService _ f => fits 1 f.tank
  | .readAccount _ machine => fits 2 machine
  | .setCursor _ machine => fits 2 machine
  | .addAccount _ f =>
    fits 2 f.machine && fits 1 f.klass && fits 4 f.allowance && fitsLines f.lines && fitsOption 4 f.hourMeter
  | .writeAccount _ f =>
    fits 2 f.machine && fitsOption 1 f.klass && fitsOption 4 f.allowance && fitsOption 4 f.hourMeter &&
      f.lines.all fitsLines
  | .deleteAccount _ machine => fits 2 machine
  | .scanAccounts _ f => fits 4 f.value && fits 2 f.start && fits 1 f.limit
  | .setRangeStatus _ f => fits 2 f.first && fits 2 f.last && fitsOption 1 f.klass
  | .readDeferred _ machine => fitsOption 2 machine
  | .readClass _ klass => fits 1 klass
  | .setClass _ f => fits 1 f.klass && fits 2 f.bandMin && fits 2 f.bandMax && fits 4 f.capacity && fits 2 f.tolerance
  | .shutdownStatus _ _ => true
  | .releaseTrip _ name _ => name.all fun x => match x with
    | .point n => fits 1 n
    | .bund n => fits 1 n
    | .bay => true
  | .setBypass _ f =>
    fits 2 f.code && fits 2 f.minutes && f.input.all fun x => match x with
      | .drip n => fits 1 n
      | .sump n => fits 1 n
  | .readTripLog _ name => name.all fun x => match x with
    | .number n => fits 8 n
    | .newest => true
  | .readJournal _ name => name.all fun x => match x with
    | .position n => fits 8 n
    | .oldestUncollected => true
  | .releaseJournal _ position => fits 4 position
  | .setClock _ calendar => fits 4 calendar
  | .setShiftTable _ minutes => minutes.all fun ms => ms.length ≤ 4 && ms.all (fits 2)
  | .setPoint _ f =>
    fits 1 f.point && fits 1 f.product && fits 1 f.pump && fits 1 f.identTime && fits 2 f.maxFlow &&
      fits 1 f.noFlowThreshold && fits 1 f.noFlowTime && fits 1 f.primeTime && fits 1 f.stopAllowance &&
      fits 2 f.maxOrder && fitsMeter f.meter
  | .setPump _ f => fits 1 f.pump && fits 1 f.startTime && fits 2 f.holdTime
  | .setInlet _ f =>
    fits 1 f.inlet && fits 1 f.noFlowThreshold && fits 1 f.noFlowTime && fits 1 f.settleTime &&
      fits 1 f.settleStep && fitsMeter f.meter && f.reachable.all fun ts => ts.Nodup
  | .setProduct _ f =>
    fits 1 f.product && fits 2 f.beta && fitsText 8 f.name &&
      f.chain.all fun ts => ts.length ≤ 4 && ts.all (fits 1)
  | .setTank _ f =>
    fits 1 f.tank && fits 1 f.product && fits 1 f.bund && fits 4 f.capacity && fits 4 f.lowCut &&
      fits 4 f.lowAlarm && fits 4 f.highCut && fits 4 f.hysteresis && fits 4 f.tolerance &&
      fits 4 f.leakThreshold && fitsStrapping f.strapping
  | .setStockTiming _ f => fits 1 f.checkPeriod && fits 1 f.quietPeriod
  | .setDebounce _ f => fits 1 f.tenths
  | .rateSeekCharacter _ width _ _ => 0 < width
  | .goodFrame _ bytes _ => (readFrame bytes).isSome
  | .badFrame _ | .frameGapTimeout _ | .breakLine _ | .replySent _ | .meterPulse _ | .windowEnd _ _
  | .nozzleFrame _ _ | .nozzleBreak _ | .nozzleLineHigh _ | .identTimerExpiry _ | .primeTimerExpiry _
  | .attendanceTimerExpiry _ | .stopTimerExpiry _ _ | .attend _ | .stopBtn _ | .startTimerExpiry _
  | .holdTimerExpiry _ | .pumpFaultActive _ | .pumpFaultInactive _ | .supplyReadyActive
  | .supplyReadyInactive | .inletCoupledActive _ | .inletCoupledInactive _ | .inletStopTimerExpiry _ _
  | .settleTimerExpiry _ | .gaugeReading _ _ | .stockCheckExpiry | .settledReportWaitExpiry _
  | .lineInputChange _ _ | .debounceExpiry _ | .estopChange _ | .bypassExpiry _ | .scanVisit _
  | .rangeVisit _ | .shiftStart | .powerOn _ _ | .supplyDip | .requestedRestart _ _ | .supplyReturn _ => true

end Sys2Proof
end

