-- ==== Sys2Proof/Tests/Slice0.lean ====
section
/-! SUPPORT. Tests: the refusals of WellFormed, the manual's worked examples, single steps, and for each obligation
with hypotheses states and operands that meet them. -/

namespace Sys2Proof.Tests

open Sys2Proof Sys2Proof.Machine

-- One theorem at a time: elaborated together, the kernel evaluations below take more memory than the check allows.
set_option Elab.async false

/-! ## States for the tests -/

/-- A request on L1 with no part number. -/
def via : Via := ⟨0, 7, none⟩

/-- The linearity table of the fast-fill window in chapter 1. -/
def fastFill : MeterSettings := ⟨50000, 200, 600, 900, 1100, 15, 8, -4, -10⟩

/-- A tank of 50,000 dL with a good gauge. -/
def fullTank : Tank :=
  { Tank.lost 0 with
    book := 5000000000, rebasePending := false, gauge := .good, gauged := some 50000, lastGood := some 90
    quietRef := some 50000 }

def pointSettings : PointSettings := { PointSettings.blank with enabled := true, nozzleFitted := true }
def inletSettings : InletSettings := { InletSettings.blank with reachable := [0] }

/-- A dispense order of 3 µL × 10^5 drawn from T1. -/
def order : Order :=
  { number := 1, openTime := 90, kind := .fuel, product := 0, override := false, machine := some 4117
    preset := some 500, manualHours := none, hours := none, hourSource := .none, readingTime := none
    uncompensated := false, manualId := false, clamped := false, overrange := false, limit := some 500
    limitCause := some .preset, gross := 300000, net := 300000, lastTemp := some 150, entries := [⟨0, -300000⟩]
    termination := none, secondaries := [] }

/-- An order that has drawn nothing yet. -/
def early : Order := { order with gross := 0, net := 0, entries := [], lastTemp := none }

def delivery : Delivery :=
  { number := 6, openTime := 90, tank := 0, product := 0, tanker := [0x41], declared := some 100, link := 0
    before := some 50000, gross := 0, net := 0, lastTemp := none, uncompensated := false, overrange := false
    shared := false, holdsFlag := true, tally := 300000, extensions := 0, termination := none, secondaries := [] }

/-- A metering unit whose window began at 99.8 s. -/
def meter : Meter := enterMetering blankMeter 830 99800

/-- An account of machine 4,117 with an open order. -/
def account : Account :=
  { machine := 4117, klass := 3, status := .active, hourMeter := some ⟨123456, 0⟩, fullRef := some 123456
    fuelSinceFull := 0, burnAverage := some 1720, samplesTaken := 41, samplesRejected := 3, implausibleRun := 0
    allowance := 0, shiftUsed := 4200, fuelTotal := 18734500, action := .note
    lines := [⟨2, 500, 118500, 0, .ok⟩], openSet := [1] }

def point (state : PointState) (o : Option Order) (valve : Bool) : PointUnit :=
  { PointUnit.restarted true 0 with
    state := state, order := o, valve := valve, meter := if o.isSome then meter else .idle }

/-- A bay at 100 s in OPEN: P1 FLOWING, P2 STOPPING, P3 IDENTIFYING, P4 AWAIT_PUMP, P5 PRIMING and P6 IDLE, each on
product 1 from T1; D1 RECEIVING into T1 and D2 SETTLING; pump 1 STARTING for P4; the account of P1's order. -/
def bay : State :=
  { State.reset with
    clock := 100000
    bay := { State.reset.bay with mode := .open }
    store := { Store.blank with
      points := fill 8 pointSettings
      inlets := fill 2 inletSettings
      tanks := put Store.blank.tanks 0 { TankSettings.blank 0 with outOfService := false } }
    points := #v[
      point .flowing (some order) true,
      { point .stopping (some { early with number := 2, termination := some .stopped }) false with
        stopDue := some 105000, stoppingAt := 100000 },
      { point .identifying (some { early with number := 3 }) false with identDue := some 106000 },
      point .awaitPump (some { early with number := 4 }) false,
      { point .priming (some { early with number := 5 }) true with
        primeDue := some 110000, attendDue := some 160000 },
      point .idle none false, point .idle none false, point .disabled none false]
    pumps := { State.reset.pumps with
      units := put State.reset.pumps.units 0
        { PumpUnit.restarted false with state := .starting, claims := [3], startDue := some 105000, run := true }
      queue := [1], supplyReady := true }
    inlets := #v[
      { InletUnit.restarted true with state := .receiving, valve := true, delivery := some delivery, meter := meter },
      { InletUnit.restarted true with
        state := .settling, delivery := some { delivery with number := 7, holdsFlag := false }
        settleDue := some 700000 }]
    stock := { State.reset.stock with
      tanks := put State.reset.stock.tanks 0 fullTank
      draws := put State.reset.stock.draws 0 ⟨some 0, none⟩ }
    accounts := { State.reset.accounts with table := [account] }
    journal := { Journal.lost with openCount := 7, nextOrder := 8 } }

theorem bay_ready : bay.Ready := ⟨rfl, rfl⟩

/-- The same bay with P1 changed. -/
def bayP1 (f : PointUnit → PointUnit) : State := bay.updPoint 0 f

/-! ## WellFormed refuses what no carrier can bring -/

def meterTooWide : MeterSettings := { fastFill with d1 := 32768 }

theorem test_wf_fits : wellFormed (.fetchNotices via 256) = false := by decide
theorem test_wf_link : wellFormed (.setSubscription via ⟨256, none, 1⟩) = false := by decide
theorem test_wf_perms : wellFormed (.setPermissions via ⟨256, none⟩) = false := by decide
theorem test_wf_settings : wellFormed (.readSettings via (some (.tank 256))) = false := by decide
theorem test_wf_order : wellFormed (.openOrder via ⟨1, none, some 65535, none, none, none⟩) = false := by decide
theorem test_wf_stopOrder : wellFormed (.stopOrder via ⟨1, 4294967296⟩) = false := by decide
theorem test_wf_status : wellFormed (.pointStatus via 256) = false ∧ wellFormed (.inletStatus via 256) = false := by
  decide
theorem test_wf_tanker : wellFormed (.openDelivery via ⟨1, 1, 1, [0x41, 0x20], none⟩) = false := by decide
theorem test_wf_stopDelivery : wellFormed (.stopDelivery via ⟨256, 1⟩) = false := by decide
theorem test_wf_reports :
    wellFormed (.stockReportNow via 256) = false ∧ wellFormed (.stockReportSettled via 256) = false := by decide
theorem test_wf_adjust :
    wellFormed (.adjustStockSetToGauge via 256) = false ∧
    wellFormed (.adjustStockDelta via 1 ⟨2147483648, 1⟩) = false ∧
    wellFormed (.adjustStockDelta via 1 ⟨-2147483648, 1⟩) = true := by decide
theorem test_wf_service : wellFormed (.setTankService via ⟨256, none⟩) = false := by decide
theorem test_wf_machines :
    wellFormed (.readAccount via 65536) = false ∧ wellFormed (.setCursor via 65536) = false ∧
    wellFormed (.deleteAccount via 65536) = false ∧ wellFormed (.readDeferred via (some 65535)) = false := by decide
theorem test_wf_addAccount :
    wellFormed (.addAccount via ⟨1, 0, none, 0, none, some [⟨1, 65536, 0⟩], none⟩) = false := by decide
theorem test_wf_writeAccount :
    wellFormed (.writeAccount via ⟨1, none, none, some 4294967295, none, none, none⟩) = false := by decide
theorem test_wf_scan : wellFormed (.scanAccounts via ⟨none, none, 4294967296, 0, 1⟩) = false := by decide
theorem test_wf_range : wellFormed (.setRangeStatus via ⟨1, 2, some 255, none⟩) = false := by decide
theorem test_wf_class :
    wellFormed (.readClass via 256) = false ∧ wellFormed (.setClass via ⟨1, 65536, 1, 1, 1⟩) = false := by decide
theorem test_wf_trip :
    wellFormed (.releaseTrip via (some (.bund 256)) true) = false ∧
    wellFormed (.setBypass via ⟨some (.drip 256), 0, 0⟩) = false ∧
    wellFormed (.readTripLog via (some (.number (256 ^ 8)))) = false := by decide
theorem test_wf_journal :
    wellFormed (.readJournal via (some (.position (256 ^ 8)))) = false ∧
    wellFormed (.releaseJournal via 4294967296) = false := by decide
theorem test_wf_clock :
    wellFormed (.setClock via 4294967296) = false ∧
    wellFormed (.setShiftTable via (some [1, 2, 3, 4, 5])) = false := by decide
theorem test_wf_setPoint :
    wellFormed (.setPoint via ⟨1, none, 1, 1, none, 1, none, 1, 1, 1, 1, 1, 1, meterTooWide⟩) = false := by decide
theorem test_wf_setPump : wellFormed (.setPump via ⟨1, 1, 65536⟩) = false := by decide
theorem test_wf_setInlet : wellFormed (.setInlet via ⟨1, some [3, 3], 1, 1, 1, 1, fastFill⟩) = false := by decide
theorem test_wf_setProduct : wellFormed (.setProduct via ⟨1, none, 0, [], some [1, 2, 3, 4, 5]⟩) = false := by decide
theorem test_wf_setTank :
    wellFormed (.setTank via ⟨1, 1, 1, 0, 0, 0, 0, 0, 0, 0, fill 12 ⟨65536, 0⟩⟩) = false := by decide
theorem test_wf_times :
    wellFormed (.setStockTiming via ⟨256, 1⟩) = false ∧ wellFormed (.setDebounce via ⟨none, 256⟩) = false := by decide
theorem test_wf_lines :
    wellFormed (.rateSeekCharacter 0 0 0xA5 true) = false ∧ wellFormed (.goodFrame 0 [2, 1, 5, 0, 0] false) = false := by
  decide +kernel

/-! ## The manual's worked examples -/

/-- Chapter 1, a fast-fill window. -/
theorem test_fast_fill_window :
    let m := { enterMetering fastFill 830 0 with pulses := 60 }
    let r := windowResult m ⟨fastFill, 830⟩ (some 312) false
    (r.flow, r.deviation, r.gross, r.net, r.temperature) = (900, -4, 2998800, 2958478, 312) ∧
    (nextWindow m ⟨fastFill, 830⟩ (some 312)).netRem = 1352000 := by decide +kernel

/-- Chapter 1, deviation across the table. -/
theorem test_deviations :
    [150, 200, 450, 610, 750, 1000, 1250].map (deviationAt fastFill) = [15, 15, 11, 8, 2, -7, -10] := by decide +kernel

/-- Chapter 1, a lube reel: the second window, with the reading held. -/
theorem test_lube_window :
    let t : MeterSettings := ⟨2537, 5, 20, 40, 60, 40, 12, -6, -25⟩
    let m := { enterMetering t 700 0 with pulses := 31, grossRem := 7775, netRem := 3930200, lastValid := some 268 }
    let r := windowResult m ⟨t, 700⟩ none false
    (r.flow, r.deviation, r.gross, r.net, r.temperature, r.tempState) = (23, 10, 78726, 78076, 268, .held) ∧
    (nextWindow m ⟨t, 700⟩ none).grossRem = 4245 ∧ (nextWindow m ⟨t, 700⟩ none).netRem = 1162600 := by decide +kernel

/-- Chapter 1, decilitre rounding. -/
theorem test_decilitres :
    [321521, 2196049999, 2196050000, -2958478, -250000, -249999].map decilitres =
      [3, 21960, 21961, -30, -3, -2] := by decide +kernel

/-- Chapter 4, strapping a reading: the points the example gives. -/
theorem test_strapping :
    strapBetween ⟨15000, 320000⟩ ⟨20000, 440000⟩ 18250 = 398000 ∧
    (398000 : Int) * factor 830 240 / 10000000 = 395026 ∧
    strapVolume (put blankStrapping 0 ⟨400, 2600⟩) 250 = 1625 := by decide +kernel

/-- Section 10.7: the identity message of machine 4,117 at 123,578 dh. -/
theorem test_identity : identityOf [0x10, 0x15, 0x01, 0xE2, 0xBA, 0x3E] 5 = some ⟨4117, 123578, 5⟩ := by decide +kernel

/-- Chapter 6, a burn-rate update: the close of order 70,215 with cause FULL. -/
theorem test_burn_update :
    let o := { order with
      number := 70215, hours := some 123578, hourSource := .ident, readingTime := some 48000, net := 2196049999 }
    let a := { account with openSet := [70215] }
    let c : ClassRecord := ⟨600, 3000, 45000, 5⟩
    plausible a c.tolerance 123578 48000 = true ∧
    let b := (updateAtClose c o 21960 .full (some true) a).1
    (b.hourMeter, b.fullRef, b.fuelSinceFull) = (some ⟨123578, 48000⟩, some 123578, 0) ∧
    (b.burnAverage, b.samplesTaken, b.samplesRejected) = (some 1740, 42, 3) ∧
    (b.shiftUsed, b.fuelTotal, b.status) = (26160, 18756460, .active) ∧
    b.lines.map ServiceLine.state = [.due] := by decide +kernel

/-- R181: the CRC's check value over the digits 1 to 9, that of its polynomial and initial value. -/
theorem test_crc : crc16 [0x31, 0x32, 0x33, 0x34, 0x35, 0x36, 0x37, 0x38, 0x39] = 0x29B1 := by decide +kernel

/-- Section 10.7: the bytes of a BAY_STATUS request frame with TAG 7 are read as that request. -/
theorem test_frame :
    (readFrame ([2, 7, 0x50] ++ bigEndian 2 (crc16 [2, 7, 0x50]).toNat)).map (frameContent 0 · false) =
      some (.request (.bayStatus ⟨0, 7, none⟩)) := by decide +kernel

/-- R182, R194: the bytes of a refusal: START, LEN 3, TAG, CODE, STATUS, CHECK. -/
theorem test_reply_frame : (Reply.frame ⟨7, 0x12, .range, 0, []⟩).take 5 = [0xA5, 3, 7, 0x12, 0x13] := by decide +kernel

/-- R194 to R196: the source of a BAY_MODE notice: the requesting link, or a wake source with a link field of its own. -/
theorem test_mode_source :
    contentBytes (modeSourceItems (.request 0)) = [1, 1, 0xFF, 0xFF, 0xFF, 0xFF] ∧
    contentBytes (modeSourceItems (.openOrder 0)) = [2, 0xFF, 1, 0xFF, 0xFF, 1] ∧
    contentBytes (modeSourceItems (.coupled 1)) = [2, 0xFF, 5, 0xFF, 2, 0xFF] := by decide +kernel

/-- R194: the numbers at the ends of their fields. -/
theorem test_coding :
    contentBytes [item2 0x1234, .nat 2 none, .int 2 (some (-2)), .int 2 none, .text 3 [0x41]] =
      [0x12, 0x34, 0xFF, 0xFF, 0xFF, 0xFE, 0x80, 0x00, 0x41, 0x20, 0x20] := by decide +kernel

/-- R198: the next shift start over the blank table (360, 1,080) at a start, and the day after the last. -/
theorem test_next_shift :
    nextShiftStart 21600 [360, 1080] = 64800 ∧ nextShiftStart 64800 [360, 1080] = 86400 + 21600 := by decide +kernel

/-! ## Reset and single steps -/

/-- R199, R201: the state after reset is what a POWER_ON with nothing in memory makes of itself. -/
theorem test_reset : powerOnEvent ⟨false, false, none⟩ 0 State.reset = State.reset := by decide +kernel

/-- The next state of an outcome. -/
def next : Host.Outcome State Fault Refusal → State
  | .next t => t
  | .fault _ | .refused _ => State.reset

/-- R48: SET_PUMP at the ends of its ranges. -/
theorem test_setPump :
    (next (exec (.setPump via ⟨6, 30, 600⟩) bay)).pumpSet 5 = ⟨30, 600⟩ ∧
    (next (exec (.setPump via ⟨6, 31, 600⟩) bay)).pumpSet 5 = ⟨5, 120⟩ := by decide +kernel

/-- R5: a pulse is counted, and the 65,536th sets the overrange flag. -/
theorem test_meterPulse :
    ((next (exec (.meterPulse (.point 0)) bay)).point 0).meter.pulses = 1 ∧
    ((next (exec (.meterPulse (.point 0)) (bayP1 fun u => { u with meter := { meter with pulses := 65535 } }))).point
      0).meter.overrange = true := by decide +kernel

/-- R13, R71: ten pulses of 10,000 µL at 15 °C: T1's book, the order's net and the tally of D1's delivery. -/
theorem test_windowEnd :
    let t := next (exec (.windowEnd (.point 0) (some 150)) (bayP1 fun u => { u with meter := { meter with pulses := 10 } }))
    (t.tank 0).book = 4999900000 ∧ (t.point 0).order.map Order.net = some 400000 ∧
    (t.inlet 0).delivery.map Delivery.tally = some 400000 ∧ (t.point 0).state = .flowing := by decide +kernel

/-- R24: the window that brings the net to limit less allowance, 48,000,000 µL, stops the order with PRESET. -/
theorem test_threshold :
    let s := (bay.updOrder 0 fun o => { o with net := 47900000 }).updPoint 0 fun u =>
      { u with meter := { meter with pulses := 10 } }
    let t := next (exec (.windowEnd (.point 0) (some 150)) s)
    (t.point 0).state = .stopping ∧ (t.point 0).valve = false ∧
    (t.point 0).order.bind Order.termination = some .preset := by decide +kernel

/-- R38, R40: STOP_BTN in FLOWING: STOPPING, the stop timer 5 s. -/
theorem test_stopBtn :
    let t := next (exec (.stopBtn 0) bay)
    (t.point 0).state = .stopping ∧ (t.point 0).stopDue = some 105000 := by decide +kernel

/-- R41, R44: the stop timer closes the order into position 1; a pulse in the last second is a leak. -/
theorem test_stopTimer :
    let t := next (exec (.stopTimerExpiry 1 (some 150)) bay)
    (t.point 1).state = .idle ∧ t.journal.nextPosition = 2 ∧ t.journal.openCount = 6 ∧
    t.isSet (.point 1) = false ∧
    (next (exec (.stopTimerExpiry 1 (some 150)) (bay.updPoint 1 fun u =>
      { u with meter := { meter with lastPulse := some 104001 } }))).isSet (.point 1) = true := by decide +kernel

/-- R54: a start that completes reports to the point that waits. -/
theorem test_startTimer :
    let t := next (exec (.startTimerExpiry 0) bay)
    (t.pump 0).state = .running ∧ (t.point 3).state = .priming ∧ (t.point 3).valve = true ∧
    (t.pump 1).state = .starting := by decide +kernel

/-- R59, R148: ESTOP trips the BAY latch, turns the pumps off and stops what flows. -/
theorem test_estop :
    let s := (bay.updPoint 2 fun _ => point .idle none false).updPoint 3 fun _ => point .idle none false
    let t := next (exec (.estopChange true) s)
    (t.latch .bay).state = .tripped ∧ (t.pump 0).state = .off ∧ (t.point 0).state = .stopping ∧
    (t.inlet 0).state = .stopping ∧ t.shutdown.nextTrip = 2 := by decide +kernel

/-- R161, R162: a bad code is answered BAD_CODE and sets the latch. -/
theorem test_badCode :
    let t := next (exec (.setBypass via ⟨some (.drip 1), 1, 0⟩) bay)
    (t.link 0).lastReply.map Reply.status = some .badCode ∧ t.isSet (.point 0) = true := by decide +kernel

/-- R182: a good frame on a LOCKED link is answered with its TAG; R181: one whose CRC fails is not. -/
theorem test_goodFrame :
    let s := bay.updLink 1 fun u => { u with rate := some .r9600 }
    let frame := [2, 9, 0x13] ++ bigEndian 2 (crc16 [2, 9, 0x13]).toNat
    ((next (exec (.goodFrame 1 frame false) s)).link 1).lastReply.map (fun r => (r.tag, r.status)) = some (9, .ok) ∧
    ((next (exec (.goodFrame 1 (frame.dropLast ++ [0]) false) s)).link 1).lastReply = none := by decide +kernel

/-- R179: the bit time of 9,600 bit/s, 104,167 ns, locks the link at that rate. -/
theorem test_rateSeek :
    ((next (exec (.rateSeekCharacter 2 104167 0xA5 true) bay)).link 2).rate = some .r9600 := by decide +kernel

/-- R83, R194: OPEN_ORDER at a DISABLED point is POINT_DISABLED. -/
theorem test_openOrder_disabled :
    ((next (exec (.openOrder via ⟨8, some .fuel, some 4117, none, none, some false⟩) bay)).link 0).lastReply.map
      Reply.status = some .pointDisabled := by decide +kernel

/-- R22: OPEN_ORDER at P6 is accepted as order 8, and the point identifies. -/
theorem test_openOrder :
    let t := next (exec (.openOrder via ⟨6, some .fuel, none, some 100, none, some false⟩) bay)
    (t.link 0).lastReply.map Reply.status = some .ok ∧ (t.point 5).order.map Order.number = some 8 ∧
    (t.point 5).state = .identifying := by decide +kernel

/-- R199, R200: a power-on with both memories valid closes the seven open operations INTERRUPTED; cut short after
its first event and two closes, it leaves five, and the restart that follows closes those. -/
theorem test_powerOn :
    let t := next (exec (.powerOn ⟨true, true, none⟩ 1000) bay)
    let cut := next (exec (.powerOn ⟨true, true, some 3⟩ 1000) bay)
    let again := next (exec (.supplyReturn ⟨true, true, none⟩) cut)
    (t.journal.nextPosition, t.journal.openCount, t.bay.restart.interrupted, (t.tank 0).book) =
      (8, 0, 7, 5000000000) ∧
    (cut.journal.nextPosition, cut.journal.openCount, cut.bay.stopped) = (3, 5, true) ∧
    (again.journal.nextPosition, again.bay.restart.interrupted, again.bay.stopped) = (8, 5, false) := by
  decide +kernel

/-- R199, R200 (log entry 54): with the image kept and the store blank a retained start still ahead stays; one that is
reached gives way to 06:00 of the blank table. -/
theorem test_powerOn_blank :
    let start (due : Nat) := { bay with bay := { bay.bay with nextShift := due } }
    let after (due : Nat) := (next (exec (.powerOn ⟨true, false, none⟩ 0) (start due))).bay.nextShift
    (after 101, after 100) = (101, 21600) := by decide +kernel

/-- R199 (log entry 53): a supply dip closes the valve of a point that flows and leaves its order in the image. -/
theorem test_supplyDip :
    let t := next (exec .supplyDip bay)
    allPoints.all (fun p => !(t.point p).valve && (t.point p).order == (bay.point p).order) = true ∧
    t.bay.stopped = true := by decide +kernel

/-- Log entry 2: with no command waiting one millisecond passes. -/
theorem test_idle : (next (step bay)).clock = 100001 := by decide +kernel

/-! ## States and operands that meet the hypotheses of the obligations

Each theorem below is named after its obligation, and shows that what its clauses suppose can be met together, at
the ends of the ranges where a clause has a range. -/

/-- A metering unit of the fast-fill table with both remainders at their top, and a reading held for 150 ends. -/
def topMeter : Meter :=
  { enterMetering fastFill 2000 0 with grossRem := 9999, netRem := 9999999, lastValid := some 850, holdAge := 149 }

theorem test_hyps_LinearityDeviation :
    meterInRange fastFill = true ∧ 200 ≤ fastFill.q1 ∧ fastFill.q4 ≤ 1100 ∧
    (200 ≤ 200 ∧ 200 < fastFill.q2) ∧ (fastFill.q1 ≤ 599 ∧ 599 < fastFill.q2) ∧
    meterInRange { fastFill with d1 := 300, d2 := 300, d3 := 300, d4 := 300 } = true ∧
    meterInRange { fastFill with d1 := -300, d2 := -300, d3 := -300, d4 := -300 } = true ∧
    (⟨fastFill, 830⟩ : Working).meter = fastFill ∧ topMeter.pulses = 0 ∧
    { topMeter with pulses := 65535 }.pulses ≤ 65535 := by decide

theorem test_hyps_GrossVolume :
    ((-300 : Int) ≤ -300 ∧ (300 : Int) ≤ 300) ∧
    meterInRange fastFill = true ∧ topMeter.grossRem < 10000 ∧ topMeter.pulses = 0 ∧
    10000 ∣ fastFill.pulseVolume ∧ (enterMetering fastFill 2000 0).grossRem = 0 := by decide

theorem test_hyps_TemperatureHold :
    ((-401 : Int) < -400 ∧ (850 : Int) < 851) ∧ (-400 : Int) ≤ -400 ∧ (-400 : Int) ≤ 850 ∧
    topMeter.lastValid = some 850 ∧ topMeter.holdAge + 1 ≤ 150 ∧
    150 < { topMeter with holdAge := 150 }.holdAge + 1 ∧ (enterMetering fastFill 2000 0).lastValid = none := by decide

theorem test_hyps_CompensationAndNet :
    let w : Working := ⟨fastFill, 2000⟩
    ((8600000 : Int) ≤ factor 2000 850 ∧ factor 2000 (-400) ≤ 11100000) ∧
    w.beta ≤ 2000 ∧ (∀ x ∈ topMeter.lastValid, -400 ≤ x ∧ x ≤ 850) ∧ topMeter.netRem ≤ 9999999 ∧
    (windowResult { topMeter with grossRem := 0 } w (some 850) false).gross = 0 ∧
    (windowResult topMeter w (some 150) false).temperature = 150 ∧
    (windowResult { topMeter with holdAge := 150 } w none true).tempState = .default := by decide +kernel

theorem test_hyps_OrderLimitTerms :
    (limitOf (some 1) none 1).cause = .preset ∧ (limitOf none (some 0) 1).cause = .allowance ∧
    (limitOf (some 2) none 1).clamped = true ∧ (limitOf none (some 2) 1).cause = .capacity ∧
    OrderKind.waste ≠ .fuel := by decide

theorem test_hyps_StrappingVolume :
    validStrapping blankStrapping = true ∧ 4999 < (look blankStrapping 0).level ∧
    5000 = (look blankStrapping 0).level ∧
    ((look blankStrapping 0).level < 5001 ∧ 5001 < (look blankStrapping 1).level) ∧
    (look blankStrapping 11).level < 60001 := by decide

theorem test_hyps_StepTakesFrontCommand : bay.pending = [] := rfl

theorem test_hyps_EveryCommandCompletes :
    let s := { bay with bay := { bay.bay with stopped := true } }
    s.bay.stopped = true ∧ takenWhileStopped (.stopBtn 0) = false := ⟨rfl, rfl⟩

/-! The laws, each on the bay with a command in its queue that the step takes. -/

/-- The bay with STOP_BTN of P1 waiting. -/
def queued : State := { bay with pending := [.stopBtn 0] }

theorem test_hyps_step : ∃ t, step queued = .next t := ⟨_, rfl⟩

theorem queued_unitsFit : queued.UnitsFit := by
  intro _
  constructor
  · intro p
    fin_cases p <;> exact ⟨rfl, rfl, rfl⟩
  · intro i
    fin_cases i <;> exact ⟨rfl, rfl, rfl⟩

/-- P1 identifies with its ident timer running; no other ident timer runs. -/
def timed : State := queued.updPoint 0 fun _ => { point .identifying (some order) false with identDue := some 6000 }

theorem timed_identTimersFit : timed.IdentTimersFit := by
  unfold State.IdentTimersFit
  decide +kernel

theorem test_hyps_UnitsFitKept :
    (timed.UnitsFit ∧ timed.IdentTimersFit) ∧ (timed.point 0).identDue.isSome ∧ ∃ t, step timed = .next t := by
  refine ⟨⟨fun _ => ⟨fun p => ?_, fun i => ?_⟩, timed_identTimersFit⟩, rfl, _, rfl⟩
  · fin_cases p <;> exact ⟨rfl, rfl, rfl⟩
  · fin_cases i <;> exact ⟨rfl, rfl, rfl⟩

theorem test_hyps_EntriesKeptByStep : queued.EntriesKept ∧ ∃ t, step queued = .next t := by
  refine ⟨⟨by decide +kernel, ?_, by simp [queued, bay, Journal.lost]⟩, _, rfl⟩
  unfold EntriesSum State.Running
  decide +kernel

theorem test_hyps_DrawsServeKept : queued.DrawsServe ∧ queued.UnitsFit ∧ ∃ t, step queued = .next t := by
  refine ⟨⟨?_, by decide +kernel, by decide +kernel⟩, queued_unitsFit, _, rfl⟩
  unfold State.conditionsCurrent
  decide +kernel

/-- The same with the latch of P1, which stops, and the latch of BUND 2, under T4, CLEARABLE; D2 settles T4. -/
def tripped : State :=
  let s := queued.updPoint 0 fun _ => point .stopping (some order) false
  let s := s.updDelivery 1 fun d => { d with tank := 3, product := 3 }
  let s := s.setLatch (.point 0) ⟨.clearable, [.hoseBreak], [], some 1, some 90⟩
  s.setLatch (.bund 1) ⟨.clearable, [.tankLoss], [], some 2, some 91⟩

theorem test_hyps_TripsStopKept :
    (tripped.TripsStop ∧ tripped.FlagsHeld ∧ tripped.IdentTimersFit) ∧ tripped.UnitsFit ∧ (∃ t, step tripped = .next t) ∧
    tripped.isSet (.point 0) = true ∧ tripped.tankTripped 3 = true := by
  refine ⟨⟨?_, ?_, ?_⟩, ?_, ⟨_, rfl⟩, by decide +kernel, by decide +kernel⟩
  · unfold State.TripsStop
    decide +kernel
  · unfold State.FlagsHeld
    decide +kernel
  · unfold State.IdentTimersFit
    decide +kernel
  · intro _
    constructor
    · intro p
      fin_cases p <;> exact ⟨rfl, rfl, rfl⟩
    · intro i
      fin_cases i <;> exact ⟨rfl, rfl, rfl⟩

theorem test_hyps_OneStartingKept : queued.OneStarting ∧ ∃ t, step queued = .next t := by
  refine ⟨?_, _, rfl⟩
  unfold State.OneStarting
  decide +kernel

theorem test_hyps_ReserveKept : queued.ReserveHeld ∧ queued.UnitsFit ∧ ∃ t, step queued = .next t := by
  refine ⟨?_, queued_unitsFit, _, rfl⟩
  unfold State.ReserveHeld
  decide +kernel

/-- The same with its one account's status write waiting in the deferred queue. -/
def deferring : State :=
  { queued with accounts := { queued.accounts with deferred := [⟨4117, .write (.status .barred), 0⟩] } }

theorem deferring_ordered : deferring.AccountsOrdered := by
  unfold State.AccountsOrdered
  decide +kernel

theorem test_hyps_AccountsOrderedKept : deferring.AccountsOrdered ∧ ∃ t, step deferring = .next t :=
  ⟨deferring_ordered, _, rfl⟩

theorem test_hyps_DeferredNamedKept :
    deferring.DeferredNamed ∧ deferring.AccountsOrdered ∧ ∃ t, step deferring = .next t := by
  refine ⟨?_, deferring_ordered, _, rfl⟩
  unfold State.DeferredNamed
  decide +kernel

theorem test_hyps_ConfigureKept : queued.ConfigureHeld ∧ ∃ t, step queued = .next t :=
  ⟨⟨0, by decide +kernel⟩, _, rfl⟩

theorem test_hyps_QueuesBoundedKept : queued.QueuesBounded ∧ ∃ t, step queued = .next t := by
  refine ⟨?_, _, rfl⟩
  unfold State.QueuesBounded
  decide +kernel

theorem test_hyps_HourMeterNeverFalls :
    let i := Instr.stopTimerExpiry 1 (some 150)
    ∃ t b, deferring.AccountsOrdered ∧ exec i deferring = .next t ∧ account ∈ deferring.accounts.table ∧
      b ∈ t.accounts.table ∧ account.machine = b.machine ∧ ¬deferring.hourWriteAt i account.machine ∧
      (⟨123456, 0⟩ : HourMeter) ∈ account.hourMeter := by
  refine ⟨next (exec (.stopTimerExpiry 1 (some 150)) deferring), account, deferring_ordered, by rfl, by decide +kernel,
    by decide +kernel, rfl, ?_, rfl⟩
  rintro (⟨v, f, h, _⟩ | ⟨l, bytes, key, g, v, f, h, _⟩ | ⟨e, he, _, hc⟩)
  · cases h
  · cases h
  · simp only [deferring, List.mem_singleton] at he
    subst he
    cases hc

/-! The requests. -/

/-- The bay with the record of P2's order at position 2, the only one held and uncollected; one trip in the log; an
old result and a notice on L1; and a tank list of the trip. -/
def kept : State :=
  let s := next (exec (.stopTimerExpiry 1 (some 150)) bay)
  { s with
    journal := { s.journal with nextPosition := 3, mark := 1 }
    shutdown := { s.shutdown with log := [⟨1, 90, .point 0, [.hoseBreak], 1, none, none⟩], nextTrip := 2 }
    links := put s.links 0 { s.link 0 with result := some ⟨.scan .notSatisfied [] 65534, 3⟩ } }

theorem kept_ready : kept.Ready := ⟨by rfl, by rfl⟩

/-- The settings, requests and answers of L1 name their first part. -/
theorem via_part (content : List Item) : hasPart via content := hasPart_of_zero rfl

/-- A request on L1 that names part 1. -/
def part1 : Via := { via with part := some 1 }

/-- A content of one part has no part 1. -/
theorem one_part (content : List Item) (h : partCount content ≤ 1) : ¬hasPart part1 content := Nat.not_lt.mpr h

theorem test_hyps_StatusRequestsOnlyReply :
    bay.Ready ∧ (∀ items, hasPart via items) ∧ ¬hasPart part1 [item1 1] ∧
    ((0 = 0 ∨ 8 < 0) ∧ (9 = 0 ∨ 8 < 9)) ∧ ((0 = 0 ∨ 2 < 0) ∧ (3 = 0 ∨ 2 < 3)) ∧
    ((bay.point 0).order.isSome ∧ (bay.point 5).order = none ∧ (bay.point 4).attendDue = some 160000) ∧
    (bay.inlet 0).delivery.isSome :=
  ⟨bay_ready, via_part, one_part _ (by decide +kernel), by decide +kernel⟩

theorem test_hyps_RecordReadsAnswered :
    kept.Ready ∧ (∀ items, hasPart via items) ∧ ¬hasPart part1 (tripLogBounds kept) ∧
    ((0 = 0 ∨ 8 < 0) ∧ (9 = 0 ∨ 8 < 9) ∧ 6 < 7 ∧ 2 < 3 ∧ 12 < 13 ∧ 3 < 4 ∧ 65534 < 65535) ∧
    (kept.account 4117 = some account ∧ kept.account 1 = none ∧ kept.account 65534 = none) ∧
    ((kept.tripEntry (.number 1)).isSome ∧ kept.tripEntry .newest = kept.tripEntry (.number 1) ∧
      kept.tripEntry (.number 4294967295) = none) ∧
    (kept.shutdown.log.map TripEntry.number = [1] ∧ bay.shutdown.log = [] ∧ 4294967295 < 4294967296) ∧
    (kept.link 0).result.isSome ∧ (kept.link 1).result = none :=
  ⟨kept_ready, via_part, one_part _ (by decide +kernel), by decide +kernel⟩

/-- R165: NEWEST is the entry of the highest number held, and the bounds are the lowest and the highest. -/
theorem test_newestTrip :
    let trip (n : Nat) : TripEntry := ⟨n, 90, .point 0, [.hoseBreak], 1, none, none⟩
    let s := kept.setLog [trip 2, trip 7, trip 5]
    s.tripEntry .newest = some (trip 7) ∧ tripLogBounds s = [.nat 8 (some 2), .nat 8 (some 7)] := by decide +kernel

theorem test_hyps_JournalReadAndReleased :
    kept.Ready ∧ (∀ items, hasPart via items) ∧ ¬hasPart part1 (item1 3 :: journalFigures kept) ∧
    partNumber via = 0 ∧ (kept.perms via.link).collect = true ∧
    ((kept.journal.at? 2).isSome ∧ kept.journal.oldest = 2) ∧ (kept.journal.held ≠ [] ∧ 1 < kept.journal.oldest) ∧
    (bay.journal.held = [] ∧ kept.journal.oldest + kept.journal.held.length ≤ 3) ∧
    (kept.journal.uncollected ≠ 0 ∧ (kept.journal.at? (kept.journal.mark + 1)).isSome ∧
      bay.journal.uncollected = 0) ∧
    (1 ≤ kept.journal.mark ∧ kept.journal.mark < 2 ∧ 2 ≤ kept.journal.nextPosition - 1 ∧
      kept.journal.nextPosition - 1 < 3) :=
  ⟨kept_ready, via_part, one_part _ (by decide +kernel), by decide +kernel⟩

/-- The bay with L1 of no permission. -/
def lacking : State :=
  { bay with store := { bay.store with
      links := put bay.store.links 0 ⟨⟨false, false, false, false, false, false, false⟩, allClasses, 1⟩ } }

theorem test_hyps_LackingPermissionRefused :
    let i := Instr.releaseTrip via (some .bay) true
    lacking.Ready ∧ viaOf i = some via ∧ requestCode i = some 0x41 ∧ lacksPermission i lacking = true ∧
    lacksPermission (.setSubscription via ⟨2, some allClasses, 1⟩) lacking = true ∧
    lacksPermission (.releaseJournal via 0) lacking = true :=
  ⟨⟨rfl, rfl⟩, by decide +kernel⟩

theorem test_hyps_SettingsWritten :
    bay.Ready ∧ partNumber via = 0 ∧ (bay.perms via.link).configure = true ∧ numbered 6 6 = some 5 ∧
    (bay.perms via.link).accounts = true ∧ (15 : ClassId).val = 15 ∧ (0 : Link) = via.link ∧
    (lacking.perms 0).configure = false ∧ (lacking.perms 1).configure = true :=
  ⟨bay_ready, by decide +kernel⟩

/-- The settings of P6 and P8 as a request writes them, and those of D2. -/
def setP (n ident : Nat) : SetPoint := ⟨n, some true, 1, 1, some true, ident, some .s60, 1000, 15, 4, 10, 20, 2000, fastFill⟩
def setD (settle : Nat) : SetInlet := ⟨2, some [0, 11], 15, 4, settle, 2, fastFill⟩

theorem test_hyps_PointAndInletWritten :
    let idle := bay.updInlet 1 fun _ => InletUnit.restarted true
    bay.Ready ∧ idle.Ready ∧ partNumber via = 0 ∧ (bay.perms via.link).configure = true ∧
    (numbered 8 6 = some 5 ∧ (bay.point 5).order = none ∧ (readPoint (setP 6 1)).isSome ∧
      (readPoint (setP 6 20)).isSome ∧ readPoint (setP 6 21) = none) ∧
    (numbered 8 1 = some 0 ∧ (bay.point 0).order.isSome) ∧
    (numbered 2 2 = some 1 ∧ (idle.inlet 1).delivery = none ∧ (readInlet (setD 30)).isSome ∧
      readInlet (setD 31) = none ∧ (bay.inlet 1).delivery.isSome) :=
  ⟨bay_ready, ⟨by rfl, by rfl⟩, by decide +kernel⟩

/-- Product 1 drawn from T1, with T9 after it in the chain, and no delivery. -/
def chained : State :=
  { bay with
    store := { bay.store with
      products := put bay.store.products 0 ⟨.fuel, 0, [], [0, 8]⟩
      tanks := put bay.store.tanks 8 { TankSettings.blank 8 with outOfService := false } }
    inlets := fill 2 (.restarted false)
    stock := { bay.stock with tanks := put bay.stock.tanks 8 fullTank } }

/-- The same with T1 low. -/
def drawnLow : State := chained.updTank 0 fun x => { x with low := true }

theorem test_hyps_ChainCheckMovesDraw :
    (chained.draw 0).current = some 0 ∧ (0 : TankId) ∈ (chained.productSet 0).chain ∧ chained.eligible 0 0 = true ∧
    (drawnLow.draw 0).current = some 0 ∧ drawnLow.eligible 0 0 = false ∧
    ((chainCheck 0 false drawnLow).draw 0).current = some 8 ∧
    (bay.draw 1).current = none ∧
    ((chainCheck 0 false (chained.updDraw 0 fun _ => ⟨none, none⟩)).draw 0).current = some 0 ∧
    ((chainCheck 0 false (bay.updTank 0 fun x => { x with low := true })).draw 0).current = none := by decide +kernel

def setT (tank product : Nat) : SetTank := ⟨tank, product, 1, 100000, 5000, 10000, 95000, 1000, 500, 200, blankStrapping⟩

theorem test_hyps_ProductAndTankWritten :
    let f (chain : List Nat) : SetProduct := ⟨1, some .fuel, 2000, [0x44], some chain⟩
    let g (kind : ProductKind) (beta : Nat) : SetProduct := ⟨2, some kind, beta, [], some [2]⟩
    chained.Ready ∧ partNumber via = 0 ∧ (chained.perms via.link).configure = true ∧
    (chained.perms via.link).stock = true ∧ numbered 8 1 = some 0 ∧ numbered 12 12 = some 11 ∧
    (readProduct 0 (f [1, 9]) chained).isSome ∧ readProduct 1 (g .waste 2001) chained = none ∧
    ((readProduct 0 (f [1, 9]) chained).map fun x => x.chain) = some (chained.productSet 0).chain ∧
    ((readProduct 0 (f [1]) chained).map fun x => x.chain) = some [0] ∧ chained.openOnProduct 0 = true ∧
    ((readProduct 1 (g .waste 2000) chained).map fun x => x.kind) = some .waste ∧ chained.openOnProduct 1 = false ∧
    (readTankSettings (setT 12 4) true).isSome ∧ readTankSettings (setT 12 9) true = none ∧
    (0 : TankId) ∈ (chained.productSet (chained.tankSet 0).product).chain ∧
    chained.tankBusy 0 = true ∧ chained.tankBusy 11 = false ∧
    (chained.tankSet 11).outOfService = true ∧ (chained.tankSet 8).outOfService = false :=
  ⟨⟨by rfl, by rfl⟩, by decide +kernel⟩

theorem test_hyps_ClockAndShifts :
    bay.Ready ∧ (bay.perms via.link).configure = true ∧ partNumber via = 0 ∧ hasPart via [item4 0, item4 4294967295] ∧
    bay.bay.nextShift ≤ 4294967295 ∧ [0, 1439] ≠ [] ∧ ∀ m ∈ [0, 1439], m ≤ 1439 :=
  ⟨bay_ready, by decide +kernel, rfl, via_part _, by decide +kernel⟩

/-- The bay with no operation open and every pump OFF, in a mode. -/
def quiet (mode : Mode) : State :=
  { bay with
    bay := { bay.bay with mode := mode }
    points := fill 8 (point .idle none false)
    pumps := { bay.pumps with units := fill 6 (.restarted false), queue := [] }
    inlets := fill 2 (.restarted false)
    accounts := { bay.accounts with table := [{ account with openSet := [] }] }
    journal := { bay.journal with openCount := 0 } }

theorem quiet_ready (mode : Mode) : (quiet mode).Ready := ⟨rfl, rfl⟩

theorem bay_unitsFit : bay.UnitsFit := queued_unitsFit

theorem test_hyps_BayModes :
    bay.Ready ∧ bay.UnitsFit ∧ partNumber via = 0 ∧ (bay.perms via.link).dispense = true ∧
    (bay.perms via.link).configure = true ∧ bay.bay.mode = .open ∧ bay.anyOpen = true ∧
    (quiet .open).anyOpen = false ∧ (quiet .open).pumpsBusy = false ∧ (quiet .standby).bay.mode = .standby ∧
    (quiet .locked).bay.mode = .locked ∧ (bay.point 4).state = .priming ∧ (bay.inlet 0).state = .receiving ∧
    ((bay.point 1).state = .stopping ∧ (bay.point 2).state = .identifying ∧ (bay.point 3).state = .awaitPump ∧
      ∀ p ∈ [1, 2, 3], (bay.point p).order.isSome) ∧
    ((bay.inlet 1).state = .settling ∧ (bay.inlet 1).delivery.isSome) ∧
    (∃ l, (look bay.store.links l).classes.bay = true ∧ (bay.link l).queue.length < 16) :=
  ⟨bay_ready, bay_unitsFit, by decide +kernel⟩

/-- The quiet bay in STANDBY with a nozzle fitted at P1. -/
def asleep : State :=
  { quiet .standby with store := { bay.store with
      points := put bay.store.points 0 { pointSettings with nozzleFitted := true, enabled := true } } }

theorem test_hyps_WakeSources :
    asleep.Ready ∧ asleep.bay.mode = .standby ∧ (asleep.pointSet 0).nozzleFitted = true ∧
    (asleep.point 0).receiver = .uncoupled ∧ (asleep.inlet 0).coupled = false ∧ bay.bay.mode ≠ .standby :=
  ⟨⟨rfl, rfl⟩, by decide +kernel⟩

/-! Orders and deliveries. -/

/-- An order at P1 of the quiet bay, by the machine or by none. -/
def opening (machine : Option Nat) : OpenOrder := ⟨1, some .fuel, machine, some 1, none, some false⟩

/-- The quiet bay with no nozzle at P1. -/
def bare : State :=
  { quiet .open with store := { bay.store with
      points := put bay.store.points 0 { pointSettings with nozzleFitted := false } } }

theorem test_hyps_OrderOpens :
    let r (machine : Option Nat) : OrderRequest := ⟨0, .fuel, machine, some 1, none, false⟩
    let w := wake (.openOrder via.link) (quiet .standby)
    (quiet .standby).Ready ∧ bare.Ready ∧ readOrder (opening none) = some (r none) ∧
    readOrder (opening (some 4117)) = some (r (some 4117)) ∧ partNumber via = 0 ∧
    firstFailure (orderChecks via (r none) w) = none ∧
    firstFailure (orderChecks via (r (some 4117)) bare) = none ∧ (bare.account 4117).isSome ∧
    (w.pointSet 0).nozzleFitted = true ∧ (bare.pointSet 0).nozzleFitted = false ∧
    (bare.pump (bare.pointSet 0).pump).state = .off :=
  ⟨⟨rfl, rfl⟩, ⟨rfl, rfl⟩, rfl, rfl, by decide +kernel⟩

/-- The bay with no nozzle at P1, its pump in a state, a start queue and the two lines of the pump manager. -/
def bareAt (state : PumpState) (fault : Bool) (queue : List PumpId) (supply : Bool) : State :=
  let s := bare.updPump (bare.pointSet 0).pump fun u => { u with state := state, faultLine := fault }
  { s with pumps := { s.pumps with queue := queue, supplyReady := supply } }

/-- Each case of the claim that opens an order, and a reserve that reaches 480 or stays one below it. -/
theorem test_hyps_OrderOpens_claim :
    let r : OrderRequest := ⟨0, .fuel, some 4117, some 1, none, false⟩
    let m := (bare.pointSet 0).pump
    let passes (s : State) : Bool := (firstFailure (orderChecks via r s)).isNone
    let starting := (bareAt .off false [2] true).updPump 2 fun u => { u with state := .starting }
    let reserve (n : Nat) : State := { bare with journal := { bare.journal with uncollected := n } }
    (∀ state fault queue supply, (bareAt state fault queue supply).Ready) ∧
    (∀ state ∈ [PumpState.off, .queued, .starting, .running, .holding, .faulted],
      passes (bareAt state false [] true) = true ∧ ((bareAt state false [] true).pump m).state = state) ∧
    (passes (bareAt .off true [] true) = true ∧ ((bareAt .off true [] true).pump m).faultLine = true) ∧
    (passes (bareAt .off false [2] false) = true ∧ (bareAt .off false [2] false).pumps.supplyReady = false) ∧
    (passes starting = true ∧ (starting.pump m).state = .off ∧ (starting.pump 2).state = .starting) ∧
    (passes (bareAt .off false [2] true) = true ∧ (bareAt .off false [2] true).pumps.queue ++ [m] = [2, m] ∧
      ∀ k, ((bareAt .off false [2] true).pump k).state ≠ .starting) ∧
    (passes (reserve 479) = true ∧ passes (reserve 478) = true ∧
      (reserve 479).journal.uncollected + ((reserve 479).journal.openCount + 1) = 480) :=
  ⟨fun _ _ _ _ => ⟨rfl, rfl⟩, by decide +kernel⟩

/-- The quiet bay with the account changed. -/
def withAccount (f : Account → Account) : State :=
  let s := quiet .open
  { s with accounts := { s.accounts with table := [f { account with openSet := [] }] } }

/-- Each refusal of OPEN_ORDER is met by a state: the order at P1 and what it fails. -/
theorem test_hyps_OrderRefused :
    let r (m : Option Nat) : OrderRequest := ⟨0, .fuel, m, some 1, none, false⟩
    let fails (s : State) (m : Option Nat) : Option Status := firstFailure (orderChecks via (r m) s)
    let s := quiet .open
    s.Ready ∧ readOrder ⟨9, some .fuel, none, none, none, some false⟩ = none ∧
    (readOrder (opening (some 65534))).isSome ∧ readOrder (opening (some 65535)) = none ∧
    [fails lacking none, fails (quiet .locked) none, fails { s with bay := { s.bay with curtailed := true } } none,
      fails (s.updPoint 0 fun _ => point .disabled none false) none, fails bay none,
      fails (s.setLatch .bay ⟨.clearable, [.estop], [], some 1, some 90⟩) none,
      fails { s with store := { s.store with products := put s.store.products 0 ⟨.lube, 0, [], [0]⟩ } } none,
      fails (s.updDraw 0 fun _ => ⟨none, some 0⟩) none, fails bare none, fails s (some 1),
      fails (withAccount fun a => { a with status := .barred }) (some 4117),
      fails (withAccount fun a => { a with status := .held .link }) (some 4117),
      fails (withAccount fun a => { a with openSet := [1, 2, 3] }) (some 4117),
      fails (withAccount fun a => { a with allowance := 4200 }) (some 4117)] =
      [.notPermitted, .bayLocked, .journalFull, .pointDisabled, .pointBusy, .tripped, .kindMismatch, .productEmpty,
        .unknownMachine, .unknownMachine, .accountBarred, .accountHeld, .machineInUse, .allowanceSpent].map some :=
  ⟨⟨rfl, rfl⟩, by decide +kernel⟩

theorem test_hyps_StopEventsAtPoints :
    let coupled := bayP1 fun u => { u with receiver := .sleeping }
    let stopping := bay.updPoint 1 fun u => { u with receiver := .sleeping }
    bay.Ready ∧ coupled.Ready ∧ stopping.Ready ∧ partNumber via = 0 ∧ (bay.perms via.link).dispense = true ∧
    (bay.point 4).state = .priming ∧ (bay.point 4).primeDue = some 110000 ∧ (bay.point 4).attendDue = some 160000 ∧
    (bay.point 0).state = .flowing ∧ (bay.point 0).order = some order ∧
    (coupled.pointSet 0).nozzleFitted = true ∧ (coupled.point 0).receiver ≠ .uncoupled ∧
    (coupled.point 0).state = .flowing ∧ (stopping.point 1).state = .stopping ∧
    (stopping.point 1).receiver ≠ .uncoupled ∧ (stopping.point 1).order.isSome ∧
    (bay.point 5).state = .idle ∧ (bay.point 7).state = .disabled ∧ (bay.point 0).receiver = .uncoupled ∧
    (∀ o ∈ (bay.point 0).order, o.number ≠ 2) ∧
    [Cause.stopped, .idleStop].length < 3 ∧ 3 ≤ [Cause.stopped, .idleStop, .uncoupled].length ∧
    [Cause.stopped, .idleStop, .uncoupled].Nodup ∧ Cause.full ∉ [Cause.stopped, .idleStop, .uncoupled] :=
  ⟨bay_ready, ⟨rfl, rfl⟩, ⟨rfl, rfl⟩, by decide +kernel⟩

/-- A metering unit that has counted nothing, as a Bool. -/
def nothing (m : Meter) : Bool :=
  m.working.isSome && decide (m.pulses = 0) && decide (m.grossRem < 10000) && decide (m.netRem < 10000000)

theorem countedNothing_of_nothing (m : Meter) (h : nothing m = true) : m.CountedNothing := by
  simpa [nothing, Meter.CountedNothing, and_assoc] using h

/-- A state all of whose waiting orders have counted nothing. -/
theorem waiters_of_nothing (s : State)
    (h : ∀ p, (s.point p).state = .identifying ∨ (s.point p).state = .awaitPump → nothing (s.point p).meter = true) :
    s.WaitersCountedNothing := fun p hp => countedNothing_of_nothing _ (h p hp)

theorem bay_waiters : bay.WaitersCountedNothing := waiters_of_nothing _ (by decide +kernel)

/-- P3 identifying an order of no machine. -/
def nameless : State := bay.updOrder 2 fun o => { o with machine := none }

theorem test_hyps_OrdersCloseAtOnce :
    let coupled := nameless.updPoint 2 fun u => { u with receiver := .sleeping }
    let dripping := nameless.updDebounced (.drip 2) fun _ => ⟨true, .clear, some 100500⟩
    nameless.Ready ∧ coupled.Ready ∧ dripping.Ready ∧ nameless.stock.tripping = false ∧ partNumber via = 0 ∧
    (nameless.perms via.link).dispense = true ∧
    (nameless.point 2).order = some { early with number := 3, machine := none } ∧
    nothing (nameless.point 2).meter = true ∧ (nameless.point 2).state = .identifying ∧ early.kind ≠ .waste ∧
    (nameless.point 2).identDue = some 106000 ∧
    (nameless.point 3).state = .awaitPump ∧ (nameless.point 3).order.isSome ∧ nothing (nameless.point 3).meter = true ∧
    (coupled.pointSet 2).nozzleFitted = true ∧ (coupled.point 2).receiver ≠ .uncoupled ∧
    (dripping.debounced (.drip 2)).due = some 100500 ∧ (dripping.debounced (.drip 2)).settled ≠ .active ∧
    (dripping.debounced (.drip 2)).level = true ∧ dripping.isBypassed (.drip 2) = false ∧
    nameless.shutdown.estop.level = false :=
  ⟨⟨rfl, rfl⟩, ⟨rfl, rfl⟩, ⟨rfl, rfl⟩, by decide +kernel⟩

/-- The frames of a nozzle: a start byte, and a data byte with a right parity bit. -/
def startFrame : NozzleFrame := ⟨0x31, true, false, true⟩
def dataFrame : NozzleFrame := ⟨0x3E, false, true, true⟩

/-- The bay with P3 one byte short of the identity message of machine 4,117. -/
def identifying : State :=
  bay.updPoint 2 fun u => { u with receiver := .collecting [0x10, 0x15, 0x01, 0xE2, 0xBA] }

theorem test_hyps_Identification :
    let x : Identity := ⟨4117, 123578, 100⟩
    let other := identifying.updOrder 2 fun o => { o with machine := some 1 }
    let none' := identifying.updOrder 2 fun o => { o with machine := none }
    let waste := identifying.updOrder 2 fun o => { o with machine := none, kind := .waste }
    let table (as : List Account) : State := none'.setTable as
    identifying.Ready ∧ other.Ready ∧ waste.Ready ∧ (∀ as, (table as).Ready) ∧
    receive .sleeping startFrame = (.collecting [], none) ∧
    receive (.collecting [0x10, 0x15, 0x01, 0xE2]) dataFrame = (.collecting [0x10, 0x15, 0x01, 0xE2, 0x3E], none) ∧
    receive (identifying.point 2).receiver dataFrame = (.sleeping, some [0x10, 0x15, 0x01, 0xE2, 0xBA, 0x3E]) ∧
    identityOf [0x10, 0x15, 0x01, 0xE2, 0xBA, 0x3E] identifying.seconds = some x ∧
    identityOf [0, 0, 0, 0, 0, 0] identifying.seconds = none ∧
    (identifying.point 2).state = .identifying ∧ (identifying.point 2).order = some { early with number := 3 } ∧
    early.machine = some x.machine ∧ (identifying.point 2).identDue = some 106000 ∧
    (other.point 2).order = some { early with number := 3, machine := some 1 } ∧ 1 ≠ x.machine ∧
    nothing (other.point 2).meter = true ∧ nothing (none'.point 2).meter = true ∧
    ((table []).account 4117 = none ∧
      [some ({ account with status := .barred } : Account), some { account with status := .held .link },
        some { account with openSet := [5, 6, 7] }, some account, some { account with openSet := [] },
        some { account with openSet := [], allowance := 4200 }].map
          (fun a => a.bind fun a => (table [a]).account 4117) =
      [some { account with status := .barred }, some { account with status := .held .link },
        some { account with openSet := [5, 6, 7] }, some account, some { account with openSet := [] },
        some { account with openSet := [], allowance := 4200 }] ∧
      none'.productOfOrder 1 = some early.product ∧ early.override = false ∧ early.kind = .fuel) ∧
    (waste.point 2).identDue = some 106000 ∧ ((waste.point 2).order.map Order.kind = some .waste) ∧
    (identifying.point 5).state ≠ .identifying ∧ (identifying.point 5).order = none ∧
    identifying.bay.mode ≠ .standby ∧ attendanceSeconds (identifying.pointSet 0).attendance = some 60 ∧
    (identifying.point 0).state = .flowing ∧ (identifying.point 4).state = .priming ∧
    (identifying.pointSet 0).nozzleFitted = true ∧ (identifying.point 0).receiver = .uncoupled :=
  ⟨⟨rfl, rfl⟩, ⟨rfl, rfl⟩, ⟨rfl, rfl⟩, fun _ => ⟨rfl, rfl⟩, by decide +kernel⟩

theorem test_hyps_NozzleReceiver :
    isGoodNozzleFrame startFrame = true ∧ startFrame.mark = true ∧ isGoodNozzleFrame dataFrame = true ∧
    dataFrame.mark = false ∧ isGoodNozzleFrame { dataFrame with stop := false } = false ∧
    ([0, 0, 0, 0] : List Byte).length < 5 ∧ 5 ≤ ([0, 0, 0, 0, 0] : List Byte).length := by decide +kernel

/-- A delivery into T1 at an inlet, and what it reads as. -/
def opensDelivery (inlet : Nat) : OpenDelivery := ⟨inlet, 1, 1, [0x41], some 9999999⟩
def deliveryRequest (i : InletId) : DeliveryRequest := ⟨i, 0, 0, [0x41], some 9999999⟩

/-- The quiet bay with room in T1. -/
def roomy (mode : Mode) : State := (quiet mode).updTank 0 fun _ => fullTank

theorem test_hyps_DeliveryOpens :
    let w := wake (.openDelivery via.link) (roomy .standby)
    let b := bay.updInlet 1 fun _ => InletUnit.restarted true
    (roomy .standby).Ready ∧ b.Ready ∧
    readDelivery (opensDelivery 1) = some (deliveryRequest 0) ∧
    readDelivery (opensDelivery 2) = some (deliveryRequest 1) ∧
    (partNumber via = 0 ∧ firstFailure (deliveryChecks via (deliveryRequest 0) w) = none ∧
      (w.inlet 0).coupled = false ∧ ∀ p, ∀ o ∈ (w.point p).order, o.product ≠ 0) ∧
    firstFailure (deliveryChecks via (deliveryRequest 1) b) = none ∧ (b.inlet 1).coupled = true ∧
    (b.inlet 0).delivery.map Delivery.tank = some 0 ∧
    (let high := { b with journal := { b.journal with uncollected := 479 - b.journal.openCount } }
     firstFailure (deliveryChecks via (deliveryRequest 1) high) = none ∧
     480 ≤ high.journal.uncollected + (high.journal.openCount + 1) ∧
     ¬480 ≤ b.journal.uncollected + (b.journal.openCount + 1)) :=
  ⟨⟨rfl, rfl⟩, ⟨rfl, rfl⟩, rfl, rfl, by decide +kernel⟩

/-- Each refusal of OPEN_DELIVERY is met by a state: a delivery into T1 at D1 and what it fails. -/
theorem test_hyps_DeliveryRefused :
    let fails (s : State) : Option Status := firstFailure (deliveryChecks via (deliveryRequest 0) s)
    let s := roomy .open
    s.Ready ∧ readDelivery (opensDelivery 3) = none ∧ (readDelivery (opensDelivery 2)).isSome ∧
    [fails lacking, fails (roomy .locked), fails { s with bay := { s.bay with curtailed := true } }, fails bay,
      fails { s with store := { s.store with inlets := fill 2 InletSettings.blank } },
      fails { s with store := { s.store with products := put s.store.products 0 ⟨.waste, 0, [], [0]⟩ } },
      fails (s.updTank 0 fun x => { x with book := microlitres 95000 }),
      fails (s.setLatch .bay ⟨.clearable, [.estop], [], some 1, some 90⟩)] =
      [.notPermitted, .bayLocked, .journalFull, .inletBusy, .notReachable, .productMismatch, .tankUnavailable,
        .tripped].map some :=
  ⟨⟨rfl, rfl⟩, by decide +kernel⟩

/-- D1 waiting for its hose, or with its hose coupled, in a state. -/
def inlet1 (state : InletState) (coupled : Bool) : State :=
  bay.updInlet 0 fun u => { u with state := state, valve := state = .receiving, coupled := coupled }

theorem test_hyps_DeliveryStopsAndCouples :
    (∀ state coupled, (inlet1 state coupled).Ready ∧ ((inlet1 state coupled).inlet 0).delivery = some delivery ∧
      ((inlet1 state coupled).inlet 0).state = state ∧ ((inlet1 state coupled).inlet 0).coupled = coupled) ∧
    partNumber via = 0 ∧ (bay.perms via.link).stock = true ∧ (bay.inlet 1).state = .settling ∧
    (∃ d, (bay.inlet 1).delivery = some d ∧ d.holdsFlag = false) ∧
    (let u := (inlet1 .awaitCoupling false).inlet 0
     u.meter.working.isSome ∧ u.meter.pulses = 0 ∧ u.meter.grossRem < 10000 ∧ u.meter.netRem < 10000000) ∧
    7 ≠ delivery.number ∧ bay.bay.mode ≠ .standby ∧
    (bay.tank delivery.tank).book < microlitres (bay.tankSet delivery.tank).highCut ∧
    (∀ g ∈ (bay.tank delivery.tank).gauged, g < (bay.tankSet delivery.tank).highCut) ∧
    (let full := (inlet1 .awaitCoupling false).updTank 0 fun x => { x with book := 9500000000 }
     (full.inlet 0).state = .awaitCoupling ∧ (full.tank 0).book = microlitres (full.tankSet 0).highCut) ∧
    (let seen := (inlet1 .awaitCoupling false).updTank 0 fun x => { x with gauged := some 95000 }
     (seen.inlet 0).state = .awaitCoupling ∧ (seen.tank 0).gauged = some ((seen.tankSet 0).highCut : Int)) :=
  ⟨fun _ _ => ⟨⟨rfl, rfl⟩, rfl, rfl, rfl⟩, rfl, rfl, rfl, ⟨_, rfl, rfl⟩, by decide +kernel⟩

/-! Stock, accounts, long operations and notices. -/

/-- The bay with a good gauge on T2, which no operation touches. -/
def adjustable : State := bay.updTank 1 fun _ => fullTank

/-- The bay with no delivery and with an order at P1 that has drawn nothing from T1. -/
def draining : State := { bay.updOrder 0 fun _ => early with inlets := fill 2 (.restarted false) }

theorem test_hyps_AdjustmentTaken :
    let amount : Int := -5000000000
    adjustable.Ready ∧ draining.Ready ∧ adjustable.WaitersCountedNothing ∧ draining.WaitersCountedNothing ∧
    partNumber via = 0 ∧ (adjustable.perms via.link).stock = true ∧
    (adjustable.bay.curtailed = false ∧ adjustable.tankBusy 1 = false ∧ (adjustable.tank 1).rebasePending = false ∧
      adjustable.stock.tripping = false ∧ adjustable.exhausts 1 999999900000 = false) ∧
    (adjustable.tank 1).gauge = .good ∧ (adjustable.tank 1).gauged = some 50000 ∧
    (draining.bay.curtailed = false ∧ draining.tankBusy 0 = false ∧ (draining.tank 0).rebasePending = false ∧
      draining.stock.tripping = false ∧ draining.exhausts 0 amount = true ∧
      (draining.point 0).order.map Order.product = some (draining.tankSet 0).product ∧
      (draining.point 5).order = none) ∧
    ((-9999999 : Int).natAbs ≤ 9999999 ∧ 9999999 < (10000000 : Int).natAbs ∧ 15 ≤ 15 ∧ 15 < 16) ∧
    { adjustable with bay := { adjustable.bay with curtailed := true } }.bay.curtailed = true ∧
    adjustable.tankBusy 0 = true ∧ adjustable.tankBusy 2 = false ∧ (adjustable.tank 2).gauge = .waiting ∧
    (adjustable.tank 2).rebasePending = true :=
  ⟨⟨rfl, rfl⟩, ⟨rfl, rfl⟩, bay_waiters, waiters_of_nothing _ (by decide +kernel), by decide +kernel⟩

/-- ADD_ACCOUNT of a machine in a class. -/
def adding (machine klass : Nat) : AddAccount :=
  ⟨machine, klass, some .held, 200000, some .hold, some [⟨1, 5000, 0⟩], some 9999999⟩

/-- The bay with an account of no open order beside its own. -/
def twoAccounts : State :=
  { bay with accounts := { bay.accounts with table := [account, { account with machine := 65534, openSet := [] }] } }

/-- A full deferred change queue, none of it of machine 4,117. -/
def fullQueue : List DeferredEntry := (List.range 16).map fun n => ⟨n + 1, .delete, 0⟩

theorem test_hyps_AccountsAddedAndDeleted :
    let full := { bay with accounts := { bay.accounts with table := List.replicate 1024 account } }
    let queueFull := { bay with accounts := { bay.accounts with deferred := fullQueue } }
    let last := { bay with accounts := { bay.accounts with cursors := fill 3 65534 } }
    let deleting := { bay with accounts := { bay.accounts with deferred := fullQueue.drop 1 ++ [(⟨4117, .delete, 2⟩ : DeferredEntry)] } }
    (deleting.Ready ∧ deleting.deleteWaits 4117 = true ∧ deleting.accounts.deferred.length = 16 ∧
      (deleting.account 4117).map Account.openSet = some [1]) ∧
    twoAccounts.Ready ∧ full.Ready ∧ queueFull.Ready ∧ State.reset.Ready ∧
    (partNumber via = 0 ∧ (bay.perms via.link).accounts = true ∧
      (newAccount (adding 1 15) 100).isSome ∧ newAccount (adding 1 16) 100 = none ∧
      newAccount (adding 65535 1) 100 = none) ∧
    (twoAccounts.account 4117).isSome ∧ twoAccounts.account 1 = none ∧ 1024 ≤ full.accounts.table.length ∧
    full.account 1 = none ∧ account.openSet ≠ [] ∧ twoAccounts.deleteWaits 4117 = false ∧
    (∃ a ∈ twoAccounts.account 65534, a.openSet = []) ∧
    twoAccounts.accounts.deferred.length < 16 ∧ 16 ≤ queueFull.accounts.deferred.length ∧
    queueFull.deleteWaits 4117 = false ∧ (queueFull.account 4117).isSome ∧
    (twoAccounts.accountAbove (look twoAccounts.accounts.cursors via.link)).isSome ∧
    last.accountAbove (look last.accounts.cursors via.link) = none ∧ last.accounts.table.getLast? = some account ∧
    State.reset.accounts.table = [] :=
  ⟨⟨⟨rfl, rfl⟩, by decide +kernel⟩, ⟨rfl, rfl⟩, ⟨rfl, rfl⟩, ⟨rfl, rfl⟩, ⟨rfl, rfl⟩, by decide +kernel⟩

/-- R105, R108: the bounds of a service line and of their number, an allowance and an hour meter one above theirs, and
a line whose product is 0. -/
theorem test_addRanges :
    let lines (n : Nat) (l : LineFields) : AddAccount := { adding 65534 0 with lines := some (List.replicate n l) }
    (newAccount (lines 4 ⟨8, 10000, 9999999⟩) 100).isSome ∧ newAccount (lines 5 ⟨8, 1, 0⟩) 100 = none ∧
    newAccount (lines 1 ⟨8, 10001, 0⟩) 100 = none ∧ newAccount (lines 1 ⟨0, 1, 0⟩) 100 = none ∧
    newAccount (lines 1 ⟨1, 0, 0⟩) 100 = none ∧ newAccount { adding 1 0 with allowance := 200001 } 100 = none ∧
    newAccount { adding 1 0 with hourMeter := some 10000000 } 100 = none := by decide +kernel

/-- WRITE_ACCOUNT of the status and the allowance of a machine. -/
def writing (machine : Nat) : WriteAccount := ⟨machine, some (some .barred), none, some 0, none, none, none⟩

theorem test_hyps_WritesAppliedOrDeferred :
    let deleting := { bay with accounts := { bay.accounts with deferred := [⟨4117, .delete, 0⟩] } }
    let queueFull := { bay with accounts := { bay.accounts with deferred := fullQueue } }
    let ws : List AccountWrite := [.status .barred, .allowance 0]
    let all : WriteAccount := ⟨1, none, some 15, none, some 5, some (some .hold), some (some [⟨1, 5000, 0⟩])⟩
    (writesOf { writing 1 with klass := some 16 } = none ∧ (writesOf { writing 1 with klass := some 15 }).isSome ∧
      writesOf { writing 1 with lines := some (some [⟨8, 10001, 0⟩]) } = none ∧
      (writesOf { writing 1 with lines := some (some [⟨8, 10000, 9999999⟩]) }).isSome) ∧
    (writesOf { writing 1 with status := some none } = none ∧ writesOf { writing 1 with status := none, allowance := none } = some [] ∧
      writesOf all = some [.klass 15, .hourMeter 5, .action .hold, .lines [⟨0, 5000, 0, 0, .ok⟩]]) ∧
    twoAccounts.Ready ∧ deleting.Ready ∧ queueFull.Ready ∧ partNumber via = 0 ∧
    (bay.perms via.link).accounts = true ∧ writesOf (writing 0) = some ws ∧ writesOf (writing 65535) = some ws ∧
    writesOf (writing 65534) = some ws ∧ ws ≠ [] ∧ twoAccounts.account 1 = none ∧
    deleting.deleteWaits 4117 = true ∧ (deleting.account 4117).isSome ∧
    twoAccounts.deleteWaits 65534 = false ∧ (∃ a ∈ twoAccounts.account 65534, a.openSet = []) ∧
    twoAccounts.deleteWaits 4117 = false ∧ (∃ a ∈ twoAccounts.account 4117, a.openSet ≠ []) ∧
    twoAccounts.accounts.deferred.length + 2 ≤ 16 ∧ queueFull.deleteWaits 4117 = false ∧
    16 < queueFull.accounts.deferred.length + 2 :=
  ⟨by decide +kernel, by decide +kernel, ⟨rfl, rfl⟩, ⟨rfl, rfl⟩, ⟨rfl, rfl⟩, by decide +kernel⟩

/-- R112, R121, R123, R124: HOLD written over lines of 500 h, 1 h and 100 h that are 4,956, 10 and 1,100 dh past their
service: OK, DUE and OVERDUE, and the account is HELD, reason SERVICE; and NOTE written over it lifts the hold. -/
theorem test_writeAction :
    let lines : List ServiceLine := [⟨2, 500, 118500, 0, .ok⟩, ⟨3, 1, 123446, 0, .ok⟩, ⟨4, 100, 122356, 0, .due⟩]
    let hold := applyWrite 100 (.action .hold) { account with lines := lines }
    (hold.1.status, hold.1.lines.map ServiceLine.state) = (.held .service, [.ok, .due, .overdue]) ∧
    hold.2 = [.serviceDue 4117 2 3 .due 10, .serviceDue 4117 3 4 .overdue 1100] ∧
    applyWrite 100 (.action .note) hold.1 = ({ hold.1 with status := .active, action := .note }, []) := by decide +kernel

/-- The close of an order, by its kind, of machine 4,117 with an hour reading at 123,578 dh and 48,000 s. -/
def closing (kind : OrderKind) (number : Nat) : Order :=
  { order with
    kind := kind, number := number, product := 1, hours := some 123578, hourSource := .ident
    readingTime := some 48000 }

theorem test_hyps_CloseTimeUpdates :
    let s (entries : List DeferredEntry) : State :=
      { bay with accounts := { bay.accounts with table := [account], deferred := entries } }
    let line : ServiceLine := ⟨1, 500, 118500, 0, .ok⟩
    let sample := (20 * (account.fuelSinceFull + 21960) + 122) / (2 * 122)
    (∀ entries, (s entries).Ready) ∧
    ((closing .fuel 1).machine = some account.machine ∧ (s []).account 4117 = some account ∧
      1 ∈ account.openSet ∧ 2 ∉ account.openSet ∧ (closing .fuel 1).hours.isSome ∧
      (closing .fuel 1).readingTime.isSome ∧ order.hours = none) ∧
    (123456 + 10 ≤ 123578 ∧ 123456 ≤ 123456 + 9 ∧ account.fullRef = some 123456 ∧
      (600 ≤ sample ∧ sample ≤ 3000) ∧ sample < 3001) ∧
    (line.product = (closing .service 1).product ∧ line.product = (closing .topup 1).product) ∧
    (account.status = .active ∧ ({ account with status := .held .service } : Account).status = .held .service ∧
      AccountStatus.barred ≠ .active ∧ AccountStatus.barred ≠ .held .service) ∧
    (({ account with openSet := [1, 2] } : Account).openSet.filter (fun n => n ≠ 1) ≠ [] ∧
      account.openSet.filter (fun n => n ≠ 1) = []) ∧
    (∃ e ∈ (s [⟨4117, .write (.allowance 5), 0⟩, ⟨4117, .delete, 0⟩]).accounts.deferred, e.change = .delete) ∧
    (∀ e ∈ (s [⟨4117, .write (.allowance 5), 0⟩]).accounts.deferred, e.change ≠ .delete) ∧
    ((bay.point 1).state = .stopping ∧
      (bay.point 1).order = some { early with number := 2, termination := some .stopped } ∧
      nothing (bay.point 1).meter = true ∧ (bay.point 1).stopDue = some 105000 ∧
      (bay.point 1).meter.lastPulse = none ∧ 104000 + 1000 ≤ (bay.reach 105000).clock) :=
  ⟨fun _ => ⟨rfl, rfl⟩, by decide +kernel⟩

/-- A scan and a range operation in progress. -/
def scan (position : Nat) : ScanWork := ⟨.hourMeter, .atLeast, 123456, 1, position, []⟩
def range (position last : Nat) : RangeWork := ⟨last, none, .held, position, 0, 0, 0⟩

/-- A state with an operation in the slot of L1. -/
def running (work : LongWork) (s : State) : State := s.updLink 0 fun u => { u with running := some ⟨work, 9⟩ }

/-- The same with the order of P3, or D2's delivery, its only open operation. -/
def lastOrder : State := running (.settled 0 220000) ((quiet .open).updPoint 2 fun _ => bay.point 2)
def lastDelivery : State :=
  running (.settled 3 220000) ((quiet .open).updInlet 1 fun _ => (tripped.inlet 1))

theorem test_hyps_LongOperations_close :
    (lastOrder.Ready ∧ lastDelivery.Ready ∧ partNumber via = 0 ∧ (lastDelivery.perms via.link).stock = true) ∧
    (∀ s ∈ [lastOrder, running (.settled 0 220000) bay],
      (s.link 0).running = some ⟨.settled 0 220000, 9⟩ ∧ (s.point 2).state = .identifying ∧
      (s.point 2).order.map Order.product = some 0 ∧ nothing (s.point 2).meter = true) ∧
    ((lastDelivery.link 0).running = some ⟨.settled 3 220000, 9⟩ ∧ (lastDelivery.inlet 1).state = .settling ∧
      (lastDelivery.inlet 1).delivery.map (fun d => (d.product, d.holdsFlag)) = some (3, false)) ∧
    (running (.settled 0 220000) (bay.updOrder 2 fun o => { o with product := 1 })).openOnProduct 0 = true :=
  ⟨⟨⟨rfl, rfl⟩, ⟨rfl, rfl⟩, rfl, rfl⟩, by decide +kernel⟩

theorem test_hyps_LongOperations :
    let s := running (.settled 0 220000) bay
    bay.Ready ∧ s.Ready ∧ partNumber via = 0 ∧ (bay.perms via.link).accounts = true ∧
    (bay.link via.link).running = none ∧ (s.link via.link).running = some ⟨.settled 0 220000, 9⟩ ∧
    (∀ f ∈ [(⟨none, some .equal, 0, 0, 1⟩ : ScanAccounts), ⟨some .status, none, 0, 0, 1⟩,
        ⟨some .status, some .equal, 4294967296, 0, 1⟩, ⟨some .status, some .equal, 0, 65535, 1⟩,
        ⟨some .status, some .equal, 0, 0, 0⟩, ⟨some .status, some .equal, 0, 0, 9⟩],
      f.field = none ∨ f.condition = none ∨ 4294967295 < f.value ∨ 65534 < f.start ∨ f.limit = 0 ∨ 8 < f.limit) ∧
    (∀ f ∈ [(⟨0, 1, none, some .held⟩ : SetRangeStatus), ⟨65535, 65535, none, some .held⟩, ⟨2, 1, none, some .held⟩,
        ⟨1, 65535, none, some .held⟩, ⟨1, 2, none, none⟩],
      f.first = 0 ∨ 65534 < f.first ∨ f.last < f.first ∨ 65534 < f.last ∨ f.status = none) ∧
    (none : Option Nat) = (none : Option ClassId).map Fin.val ∧ some 15 = (some 15 : Option ClassId).map Fin.val ∧
    bay.openOnProduct 0 = true ∧ bay.openOnProduct 1 = false :=
  ⟨bay_ready, ⟨rfl, rfl⟩, by decide +kernel⟩

/-- R137: the first not done of ranges over the machines 4,117 and 65,534. -/
theorem test_firstNotDone :
    twoAccounts.AccountsOrdered ∧ firstNotDone (range 4116 65534) twoAccounts = some 4117 ∧
    firstNotDone (range 4117 65534) twoAccounts = some 65534 ∧ firstNotDone (range 4117 65533) twoAccounts = none :=
  ⟨by unfold State.AccountsOrdered; decide +kernel, by decide +kernel⟩

theorem test_hyps_LongOperationVisits :
    let deleting := { bay with accounts := { bay.accounts with deferred := [⟨4117, .delete, 0⟩] } }
    let queueFull := { bay with accounts := { bay.accounts with deferred := fullQueue } }
    let free := quiet .open
    (running (.scan (scan 4116)) bay).Ready ∧
    ((running (.scan (scan 4116)) bay).link 0).running = some ⟨.scan (scan 4116), 9⟩ ∧
    bay.accountAbove 4117 = none ∧ bay.accountAbove 4116 = some account ∧
    (scan 4116).limit ≤ (scan 4116).hits.length + 1 ∧
    ({ scan 4116 with limit := 2 }).hits.length + 1 < 2 ∧
    ((running (.range (range 4116 4117)) bay).link 0).running = some ⟨.range (range 4116 4117), 9⟩ ∧
    (range 0 4116).last < account.machine ∧ account.machine ≤ (range 4116 4117).last ∧
    (¬∀ c ∈ ({ range 0 4117 with filter := some 15 }).filter, account.klass = c) ∧
    (∀ c ∈ (range 0 4117).filter, account.klass = c) ∧ deleting.deleteWaits 4117 = true ∧
    bay.deleteWaits 4117 = false ∧ (∃ a ∈ free.accountAbove 4116, a.openSet = []) ∧
    account.openSet ≠ [] ∧
    ((¬∃ e ∈ bay.accounts.deferred, e.machine = 4117 ∧ e.change.code = 1) ∧ bay.accounts.deferred.length < 16 ∧
      (DeferredChange.write (.status .held)).code = 1) ∧
    (queueFull.deleteWaits 4117 = false ∧ 16 ≤ queueFull.accounts.deferred.length ∧
      ¬∃ e ∈ queueFull.accounts.deferred, e.machine = 4117 ∧ e.change.code = 1) ∧
    (let named := fullQueue.drop 1 ++ [(⟨4117, .write (.status .barred), 2⟩ : DeferredEntry)]
     (∃ e ∈ named, e.machine = 4117 ∧ e.change.code = 1) ∧ named.length ≤ 16) :=
  ⟨⟨rfl, rfl⟩, by decide +kernel⟩

/-- An account's hour meter of 123,456 dh meets AT_LEAST 123,456 and not AT_LEAST 123,457; the least remaining-to-due of
lines with 42 dh and 10 dh left is 10; and an account with no line has none. -/
theorem test_hyps_LongOperationVisits_match :
    (∃ n, (∃ h ∈ account.hourMeter, n = h.value) ∧ (scan 4116).value ≤ n) ∧
    (¬((123457 : Nat) = 4294967295 ∨ ∃ n, (∃ h ∈ account.hourMeter, n = h.value) ∧ 123457 ≤ n)) ∧
    (let a := { account with lines := [⟨2, 500, 118498, 0, .ok⟩, ⟨3, 1, 123456, 0, .ok⟩] }
     scanMatches ⟨.serviceRemaining, .equal, 10, 1, 0, []⟩ a = true ∧
     scanMatches ⟨.serviceRemaining, .atMost, 9, 1, 0, []⟩ a = false ∧
     scanMatches ⟨.serviceRemaining, .atMost, 42, 1, 0, []⟩ { a with lines := [] } = false) := by
  refine ⟨⟨123456, ⟨_, rfl, rfl⟩, by decide⟩, ?_, by decide +kernel⟩
  rintro (h | ⟨n, ⟨h, hm, rfl⟩, hn⟩)
  · exact absurd h (by decide)
  · cases hm
    exact absurd hn (by decide)

theorem test_hyps_NoticesFetched :
    bay.Ready ∧ ∀ content, hasPart via content := ⟨bay_ready, via_part⟩

/-! Shutdown. -/

/-- The bay with DRIP of P1 in a debounced state, its line at a level and its timer running. -/
def drip (settled : Settled) (level : Bool) : State := bay.updDebounced (.drip 0) fun _ => ⟨level, settled, some 100500⟩

/-- The same with the bypass of that input ON. -/
def bypassed (settled : Settled) (level : Bool) : State := (drip settled level).setBypass (.drip 0) (some ⟨400, 0⟩)

/-- The bay with a latch to be released and with a draw tank of product 1. -/
def releasing (x : LatchId) (draw : Draw) : State :=
  { bay.setLatch x ⟨.clearable, [.estop], [], some 1, some 90⟩ with
    stock := { bay.stock with draws := put bay.stock.draws 0 draw } }

theorem test_hyps_TripReleased :
    let tripped := bay.setLatch .bay ⟨.tripped, [.estop], [], some 1, some 90⟩
    let cleared (x : LatchId) (draw : Draw) := (releasing x draw).setLatch x .clear
    let standing := (releasing .bay ⟨none, none⟩).updPump 0 fun u => { u with state := .running }
    ((∀ x draw, (releasing x draw).Ready) ∧ tripped.Ready ∧ standing.Ready ∧ partNumber via = 0 ∧
      (bay.perms via.link).release = true) ∧
    (readLatch (some .bay) = some .bay ∧ readLatch (some (.bund 4)) = some (.bund 3) ∧
      readLatch (some (.bund 5)) = none ∧ readLatch (some (.point 0)) = none ∧ readLatch none = none) ∧
    (((releasing .bay ⟨none, none⟩).latch .bay).state = .clearable ∧ (tripped.latch .bay).state = .tripped ∧
      (bay.latch .bay).state = .normal ∧ LatchId.bund 0 ≠ .bay ∧ (bay.tankSet 0).bund = 0 ∧
      (bay.tankSet 0).product = 0) ∧
    (∀ draw ∈ [(⟨none, some 0⟩ : Draw), ⟨some 0, none⟩], ∀ x ∈ [LatchId.bund 0, .bay],
      ((chainCheck 0 false (cleared x draw)).draw 0).current = some 0 ∧ (cleared x draw).eligible 0 0 = true ∧
      ∀ j, j ≠ 0 → ((releasing x draw).draw j).current = none) ∧
    (standing.pumps.queue = [1] ∧ standing.pumps.supplyReady = true ∧ (∀ m, (standing.pump m).state ≠ .starting) ∧
      (bay.pump 0).state = .starting) ∧
    ∀ l : Link, (bay.link l).queue.length ≤ 7 ∧ (look bay.store.links l).classes.shutdown = true ∧
      (look bay.store.links l).classes.stock = true :=
  ⟨⟨fun x _ => by cases x <;> exact ⟨rfl, rfl⟩, ⟨rfl, rfl⟩, ⟨rfl, rfl⟩, rfl, rfl⟩, by decide +kernel⟩

theorem test_hyps_CauseTripsLatch :
    let long : State := tripped.setLog ((List.range 32).map fun n => ⟨n + 1, 90, .point 0, [.hoseBreak], 1, none, none⟩)
    (bay.latch .bay).state = .normal ∧ (∀ e ∈ bay.shutdown.log, e.number ≠ bay.shutdown.nextTrip) ∧
    (tripped.latch (.point 0)).state ≠ .normal ∧ long.shutdown.log.length = 32 ∧
    (∃ e ∈ long.shutdown.log, (long.latch (.point 0)).trip = some e.number) ∧
    (let next : State := { long with shutdown := { long.shutdown with nextTrip := 33 } }
     (next.latch .bay).state = .normal ∧ ∀ e ∈ next.shutdown.log, e.number ≠ next.shutdown.nextTrip) := by
  decide +kernel

theorem test_hyps_LineInputs :
    let down := { bay with shutdown := { bay.shutdown with estop := ⟨true, .active, none⟩ } }
    bay.Ready ∧ (drip .clear true).Ready ∧ (drip .active false).Ready ∧ (bypassed .clear true).Ready ∧ down.Ready ∧
    (bay.debounced (.drip 0)).level ≠ true ∧ (bay.debounced (.drip 0)).level = false ∧
    ((drip .clear true).debounced (.drip 0)).due = some 100500 ∧
    ((drip .clear true).debounced (.drip 0)).settled ≠ .active ∧
    ((drip .clear true).debounced (.drip 0)).level = true ∧ (drip .clear true).isBypassed (.drip 0) = false ∧
    (bypassed .clear true).isBypassed (.drip 0) = true ∧
    ((drip .active false).debounced (.drip 0)).settled ≠ .clear ∧
    ((drip .active false).debounced (.drip 0)).level = false ∧ ((drip .active true).debounced (.drip 0)).settled = .active ∧
    bay.shutdown.estop.level = false ∧ down.shutdown.estop.level = true ∧ (bay.latch .bay).state = .normal :=
  ⟨bay_ready, ⟨rfl, rfl⟩, ⟨rfl, rfl⟩, ⟨rfl, rfl⟩, ⟨rfl, rfl⟩, by decide +kernel⟩

theorem test_hyps_Bypasses :
    bay.Ready ∧ (bypassed .active true).Ready ∧ partNumber via = 0 ∧ (bay.perms via.link).configure = true ∧
    (readBypass (some (.drip 1)) = some (.drip 0) ∧ readBypass (some (.sump 4)) = some (.sump 3) ∧
      readBypass (some (.sump 5)) = none ∧ readBypass (some (.drip 0)) = none ∧ readBypass none = none) ∧
    (bay.bypass (.drip 0)).isSome = false ∧ (bypassed .clear false).bypass (.drip 0) = some ⟨400, 0⟩ ∧
    ((bypassed .clear false).debounced (bypassInput (.drip 0))).settled ≠ .active ∧
    ((bypassed .active true).bypass (.drip 0)).isSome = true ∧
    ((bypassed .active true).debounced (bypassInput (.drip 0))).settled = .active ∧
    (0x5AC2 ≠ 0x5AC3 ∧ 0x5AC2 ≠ 0xA53C ∧ 0x5AC2 ≤ 65535 ∧ 65535 ≠ 0x5AC3 ∧ 65535 ≠ 0xA53C) ∧
    ((bay.latch (bay.latchOf (bypassInput (.drip 0)))).state = .normal) :=
  ⟨bay_ready, ⟨rfl, rfl⟩, by decide +kernel⟩

/-! Links. -/

/-- L2 LOCKED at 9,600 bit/s, sending a reply, with a BUSY that waits or none. -/
def sending (busy : Option (Byte × Byte)) : State :=
  bay.updLink 1 fun u => { u with rate := some .r9600, service := some ⟨1, 2, .ok, 0, []⟩, busyWaiting := busy }

theorem test_hyps_LinkLine :
    (∀ busy, (sending busy).Ready) ∧ bay.Ready ∧ (bay.link 1).rate = none ∧ (bay.link 1).service = none ∧
    ((sending none).link 1).rate.isSome ∧ ((sending none).link 1).service.isSome ∧
    ((sending none).link 1).busyWaiting = none ∧ ((sending (some (3, 4))).link 1).busyWaiting = some (3, 4) :=
  ⟨fun _ => ⟨rfl, rfl⟩, bay_ready, by decide +kernel⟩

/-- A frame of the characters LEN to CHECK around a code and payload. -/
def frame (code : Byte) (payload : List Byte) : List Byte :=
  let body := BitVec.ofNat 8 (payload.length + 2) :: 7 :: code :: payload
  body ++ bigEndian 2 (crc16 body).toNat

theorem test_hyps_GoodFrames :
    let free := bay.updLink 1 fun u => { u with rate := some .r9600 }
    free.Running ∧ (sending none).Running ∧ readFrame (frame 0x12 [8]) = some ⟨7, 0x12, [8]⟩ ∧
    readFrame (frame 0xFF []) = some ⟨7, 0xFF, []⟩ ∧ readFrame (frame 0x12 []) = some ⟨7, 0x12, []⟩ ∧
    (bay.link 1).rate = none ∧ (free.link 1).rate.isSome ∧ (free.link 1).inService = false ∧
    ((sending none).link 1).inService = true ∧
    frameContent 1 ⟨7, 0x12, [8]⟩ true = .request (.pointStatus ⟨1, 7, none⟩ 8) ∧
    payloadLength 0xFF = none ∧ payloadLength 0x12 = some 1 ∧ ([] : List Byte).length ≠ 1 ∧
    ([] : List Byte).length ≠ 2 ∧
    (readFrame (frame 0x51 [5]) = some ⟨7, 0x51, [5]⟩ ∧ frameContent 1 ⟨7, 0x51, [5]⟩ true = .outOfRange) ∧
    payloadLength 0x20 = some ([1, 3] : List Byte).length ∧ (3 : Byte) ≠ 1 ∧ (3 : Byte) ≠ 2 ∧
    (List.replicate 12 (0x41 : Byte)).length = 12 :=
  ⟨rfl, rfl, by decide +kernel⟩

/-- R80, R194: the bytes of an ADJUST_STOCK of T5 by −3 dL for the reason 7, form DELTA numbered 2. -/
theorem test_adjustFrame :
    frameContent 0 ⟨1, 0x21, [5, 2, 0xFF, 0xFF, 0xFF, 0xFD, 7]⟩ true =
      .request (.adjustStockDelta ⟨0, 1, none⟩ 5 ⟨-3, 7⟩) := by decide +kernel

/-! Windows, timers and restarts. -/

/-- P1 with so many pulses in its window, and its order at a net. -/
def window (pulses net : Nat) : State :=
  (bay.updOrder 0 fun o => { o with net := net }).updPoint 0 fun u => { u with meter := { meter with pulses := pulses } }

theorem test_hyps_PointWindows :
    let w : Working := ⟨blankMeter, 830⟩
    let metered := window 10 300000
    let full := window 65535 300000
    let atLimit := window 10 47900000
    let idle := (window 0 300000).updPoint 0 fun u => { u with lowFlow := 19 }
    let gushing := (window 417 300000).updPoint 0 fun u => { u with hoseBreak := 1 }
    let gushed (last : Nat) := bay.updPoint 1 fun u =>
      { u with hoseBreak := 1, meter := { meter with pulses := 417, lastPulse := some last } }
    let emptying := (window 10 300000).updTank 0 fun x => { x with book := 500000001 }
    let still (since : Nat) := bay.updPoint 1 fun u => { u with stoppingAt := since }
    let result (s : State) := windowResult (s.point 0).meter w (some 150) false
    (metered.Ready ∧ full.Ready ∧ gushing.Ready ∧ (∀ n, (gushed n).Ready) ∧ emptying.Ready ∧ ∀ n, (still n).Ready) ∧
    bay.WaitersCountedNothing ∧
    ((bay.point 5).meter.working = none ∧ (metered.point 0).meter.working = some w ∧
      (metered.point 0).meter.pulses < 65535 ∧ 65535 ≤ (full.point 0).meter.pulses) ∧
    ((gushing.point 0).state = .flowing ∧ (gushing.point 0).order.isSome ∧ (gushing.point 0).hoseBreak = 1 ∧
      (gushing.point 0).meter.working = some w ∧ (gushing.pointSet 0).maxFlow * 5 < (result gushing).flow * 4 ∧
      (gushing.latch (.point 0)).state = .normal ∧
      ((gushed 99001).point 1).state = .stopping ∧ ((gushed 99001).point 1).order.isSome ∧
      ((gushed 99001).reach 100000).clock < max 100000 99001 + 1000) ∧
    ((metered.point 0).order = some order ∧ metered.postingTank order.product = some 0 ∧
      (metered.tankSet 0).product = order.product ∧ order.limitCause.isSome ∧ metered.stock.tripping = false ∧
      (metered.point 0).state = .flowing ∧ (metered.point 4).state = .priming ∧
      (metered.point 2).state = .identifying ∧ (metered.point 3).state = .awaitPump) ∧
    (∀ s ∈ [metered, atLimit, idle, emptying],
      (result s).flow * 4 ≤ (s.pointSet 0).maxFlow * 5 ∧ 2 ≤ (s.pointSet 0).noFlowTime) ∧
    (∀ s ∈ [metered, atLimit, idle], s.exhausts 0 (signedNet order.kind (result s).net) = false) ∧
    ((result metered).net ≠ 0 ∧ (result emptying).net ≠ 0 ∧
      emptying.exhausts 0 (signedNet order.kind (result emptying).net) = true) ∧
    (500 - (bay.pointSet 0).stopAllowance) * 100000 = 47900000 + (result atLimit).net ∧
    (result idle).flow < (idle.pointSet 0).noFlowThreshold ∧
    (idle.pointSet 0).noFlowTime * 5 ≤ (idle.point 0).lowFlow + 1 ∧
    (((still 99000).point 1).state = .stopping ∧ 99000 + 1000 ≤ ((still 99000).reach 100000).clock ∧
      ¬99001 + 1000 ≤ ((still 99001).reach 100000).clock) :=
  ⟨⟨⟨rfl, rfl⟩, ⟨rfl, rfl⟩, ⟨rfl, rfl⟩, fun _ => ⟨rfl, rfl⟩, ⟨rfl, rfl⟩, fun _ => ⟨rfl, rfl⟩⟩, bay_waiters,
    by decide +kernel⟩

/-- P3 with pulses counted while it waits, and T1 just above its low cut. -/
def waitingP3 : State :=
  (bay.updPoint 2 fun u => { u with meter := { meter with pulses := 10 } }).updTank 0 fun x => { x with book := 500000001 }

/-- P1 STOPPING with HOSE_BREAK, its latch set by it, in the second window of another run. -/
def regushing : State :=
  let s := (window 417 300000).updOrder 0 fun o => { o with termination := some .hoseBreak }
  let s := s.updPoint 0 fun u => { u with state := .stopping, valve := false, hoseBreak := 1, stoppingAt := 100000 }
  s.setLatch (.point 0) ⟨.tripped, [.hoseBreak], [], some 1, some 90⟩

/-- P3, which waits with a closed valve, has counted pulses that exhaust product 1, while no other point that waits has
counted anything; a window above 125% of the maximum flow that is the first or the third of its run; and the second of
one that ends in quiet. -/
theorem test_hyps_PointWindows_more :
    let w : Working := ⟨blankMeter, 830⟩
    let gushing (count : Nat) := (window 417 300000).updPoint 0 fun u => { u with hoseBreak := count }
    let late := bay.updPoint 1 fun u =>
      { u with hoseBreak := 1, stoppingAt := 98000, meter := { meter with pulses := 417, lastPulse := some 99000 } }
    let result (s : State) (p : PointId) := windowResult (s.point p).meter w (some 150) false
    (waitingP3.Ready ∧ (∀ n, (gushing n).Ready) ∧ late.Ready ∧ regushing.Ready) ∧
    (∀ q, q ≠ 2 → (waitingP3.point q).state = .identifying ∨ (waitingP3.point q).state = .awaitPump →
      (waitingP3.point q).meter.CountedNothing) ∧
    ((waitingP3.point 2).state = .identifying ∧ (waitingP3.point 2).order.isSome ∧ (result waitingP3 2).net ≠ 0 ∧
      waitingP3.exhausts 0 (signedNet .fuel (result waitingP3 2).net) = true) ∧
    (∀ n ∈ [0, 2], (gushing n).point 0 = { (window 417 300000).point 0 with hoseBreak := n } ∧
      ((gushing n).pointSet 0).maxFlow * 5 < (result (gushing n) 0).flow * 4) ∧
    ((late.point 1).state = .stopping ∧ (late.pointSet 1).maxFlow * 5 < (result late 1).flow * 4 ∧
      max 98000 99000 + 1000 ≤ (late.reach 100000).clock) ∧
    ((regushing.point 0).state = .stopping ∧ (regushing.point 0).hoseBreak = 1 ∧
      (regushing.point 0).order.isSome ∧ (regushing.pointSet 0).maxFlow * 5 < (result regushing 0).flow * 4 ∧
      (regushing.latch (.point 0)).state ≠ .normal) :=
  ⟨⟨⟨rfl, rfl⟩, fun _ => ⟨rfl, rfl⟩, ⟨rfl, rfl⟩, ⟨rfl, rfl⟩⟩,
    fun q hq h => countedNothing_of_nothing _ ((by decide +kernel : ∀ q : PointId, q ≠ 2 →
      (waitingP3.point q).state = .identifying ∨ (waitingP3.point q).state = .awaitPump →
      nothing (waitingP3.point q).meter = true) q hq h), by decide +kernel⟩

/-- R39, R156: the second window of a run sets the latch with HOSE_BREAK and stops with it alone; that of a later run, in
STOPPING under the set latch, is a further cause and adds TRIP. -/
theorem test_hoseBreak_again :
    let causes (s : State) := ((next (exec (.windowEnd (.point 0) (some 150)) s)).point 0).order.map
      fun o => (o.termination, o.secondaries)
    causes ((window 417 300000).updPoint 0 fun u => { u with hoseBreak := 1 }) = some (some .hoseBreak, []) ∧
    causes regushing = some (some .hoseBreak, [.trip]) := by decide +kernel

/-- D1 with so many pulses in its window, and T1 at a book. -/
def inletWindow (pulses : Nat) (book : Int) : State :=
  (bay.updTank 0 fun x => { x with book := book }).updInlet 0 fun u => { u with meter := { meter with pulses := pulses } }

theorem test_hyps_InletWindows :
    let w : Working := ⟨blankMeter, 830⟩
    let metered := inletWindow 10 5000000000
    let high := inletWindow 10 9499900000
    let idle := (inletWindow 0 5000000000).updInlet 0 fun u => { u with flowBegun := true, lowFlow := 19 }
    let still (since : Nat) := (inletWindow 0 5000000000).updInlet 0 fun u =>
      { u with state := .stopping, valve := false, stoppingAt := since, stopRequestAt := some 100000 }
    let waste := { high with store := { high.store with
      products := put high.store.products 0 ⟨.waste, 0, [], [0]⟩ } }
    let result (s : State) := windowResult (s.inlet 0).meter w (some 150) false
    (metered.Ready ∧ (inletWindow 65535 0).Ready ∧ (∀ n, (still n).Ready) ∧ waste.Ready) ∧
    bay.WaitersCountedNothing ∧
    (metered.stock.tripping = false ∧ (bay.inlet 1).meter.working = none ∧
      (metered.inlet 0).meter.pulses < 65535 ∧ 65535 ≤ ((inletWindow 65535 0).inlet 0).meter.pulses ∧
      (metered.inlet 0).state = .receiving ∧ (metered.inlet 0).delivery = some delivery ∧
      (metered.inlet 0).meter.working = some w) ∧
    (∀ s ∈ [metered, high, idle], s.exhausts 0 (result s).net = false) ∧
    ((result waste).net ≠ 0 ∧ waste.exhausts 0 (result waste).net = true ∧
      (waste.point 0).order.map Order.product = some (waste.tankSet 0).product) ∧
    ((high.tankSet 0).highCut : Int) * 100000 = (high.tank 0).book + (result high).net ∧
    (idle.inlet 0).flowBegun = true ∧ (result idle).flow < (idle.inletSet 0).noFlowThreshold ∧
    (idle.inletSet 0).noFlowTime * 5 ≤ (idle.inlet 0).lowFlow + 1 ∧
    (((inlet1 .awaitCoupling false).inlet 0).state = .awaitCoupling ∧
      ((inlet1 .awaitCoupling false).inlet 0).delivery = some delivery ∧
      ((inlet1 .awaitCoupling false).inlet 0).meter.working = some w) ∧
    (((still 99000).inlet 0).state = .stopping ∧ ((still 99000).inlet 0).delivery = some delivery ∧
      99000 + 1000 ≤ ((still 99000).reach 100000).clock ∧ ¬99001 + 1000 ≤ ((still 99001).reach 100000).clock ∧
      ((still 99001).inlet 0).stopRequestAt = some ((still 99001).reach 100000).clock) :=
  ⟨⟨⟨rfl, rfl⟩, ⟨rfl, rfl⟩, fun _ => ⟨rfl, rfl⟩, ⟨rfl, rfl⟩⟩, bay_waiters, by decide +kernel⟩

/-- The bay with D1 STOPPING, and a pulse at an instant of the last second on P2 and on D1. -/
def ending (last : Nat) : State :=
  (bay.updPoint 1 fun u => { u with meter := { meter with lastPulse := some last } }).updInlet 0 fun u => { u with
    state := .stopping, valve := false, stopDue := some 105000, meter := { meter with lastPulse := some last } }

theorem test_hyps_StopTimers :
    let w : Working := ⟨blankMeter, 830⟩
    (∀ last, (ending last).Ready ∧ ((ending last).point 1).state = .stopping ∧
      ((ending last).point 1).order = some { early with number := 2, termination := some .stopped } ∧
      ((ending last).point 1).meter.working = some w ∧ ((ending last).point 1).stopDue = some 105000 ∧
      ((ending last).inlet 0).state = .stopping ∧ ((ending last).inlet 0).delivery = some delivery ∧
      ((ending last).inlet 0).meter.working = some w ∧ ((ending last).inlet 0).stopDue = some 105000) ∧
    ((ending 104001).reach 105000).clock < 104001 + 1000 ∧ ¬((ending 104000).reach 105000).clock < 104000 + 1000 ∧
    Cause.stopped ≠ .valveLeak ∧ delivery.termination ≠ some .valveLeak ∧ early.secondaries.length < 3 ∧
    (bay.point 0).stopDue = none ∧ (bay.inlet 0).stopDue = none ∧
    ((ending 104001).latch (.bund ((ending 104001).tankSet 0).bund)).state = .normal :=
  ⟨fun _ => ⟨⟨rfl, rfl⟩, rfl, rfl, rfl, rfl, rfl, rfl, rfl, rfl⟩, by decide +kernel⟩

/-- D2 settling into T1 with its gauge in a state, stable or not, after so many extensions. -/
def settling (gauge : GaugeState) (stable : Bool) (extensions : Nat) : State :=
  (bay.updTank 0 fun x => { x with gauge := gauge, stable := stable }).updDelivery 1 fun d =>
    { d with extensions := extensions }

theorem test_hyps_SettleTimer :
    (∀ gauge stable extensions,
      let s := settling gauge stable extensions
      s.Ready ∧ (s.inlet 1).settleDue = some 700000 ∧ (s.tank 0).gauge = gauge ∧ (s.tank 0).stable = stable ∧
      ∃ d, (s.inlet 1).delivery = some d ∧ d.holdsFlag = false ∧ d.tank = 0 ∧ d.extensions = extensions ∧
        d.before = some 50000) ∧
    (bay.inlet 0).settleDue = none :=
  ⟨fun _ _ _ => ⟨⟨rfl, rfl⟩, rfl, rfl, rfl, _, rfl, rfl, rfl, rfl, rfl⟩, rfl⟩

/-- The bay with pump 1 changed and a start queue. -/
def pumping (f : PumpUnit → PumpUnit) (queue : List PumpId) : State :=
  let s := bay.updPump 0 f
  { s with pumps := { s.pumps with queue := queue } }

theorem pumping_ready (f : PumpUnit → PumpUnit) (queue : List PumpId) : (pumping f queue).Ready := ⟨rfl, rfl⟩

theorem test_hyps_PumpEvents :
    let bare := pumping (fun u => { u with claims := [] }) []
    let holding := pumping (fun u => { u with state := .holding, claims := [], startDue := none, holdDue := some 110000 }) []
    let faulty := pumping (fun u => { u with state := .faulted, claims := [3], startDue := none, faultLine := true }) []
    let idleFault := pumping (fun u => { u with state := .faulted, claims := [], startDue := none, faultLine := true }) [1]
    let running := pumping (fun u => { u with state := .running, startDue := none }) [1]
    let noSupply := { running with pumps := { running.pumps with supplyReady := false } }
    bay.Ready ∧ noSupply.Ready ∧ bay.UnitsFit ∧ (bay.pump 1).startDue = none ∧ (bay.pump 1).holdDue = none ∧
    ((bay.pump 0).startDue = some 105000 ∧ 0 ∉ bay.pumps.queue ∧ (bay.pump 0).claims ≠ [] ∧
      (bare.pump 0).startDue = some 105000 ∧ (bare.pump 0).claims = []) ∧
    (bay.pumps.queue = [1] ∧ bay.pumps.supplyReady = true ∧ bay.isSet .bay = false ∧
      ∀ k, k ≠ 0 → (bay.pump k).state ≠ .starting) ∧
    (holding.pump 0).holdDue = some 110000 ∧
    ((faulty.pump 0).faultLine = true ∧ (faulty.pump 0).state = .faulted ∧ (faulty.pump 0).claims ≠ [] ∧
      0 ∉ faulty.pumps.queue ∧ faulty.pumps.queue = [] ∧ ∀ k, (faulty.pump k).state ≠ .starting) ∧
    ((idleFault.pump 0).faultLine = true ∧ (idleFault.pump 0).claims = []) ∧
    (bay.pump 1).state = .off ∧ (bay.pump 0).faultLine = false ∧ (bay.pump 0).state = .starting ∧
    ((bay.point 3).state = .awaitPump ∧ (3 : PointId) ∈ (bay.pump 0).claims) ∧
    (noSupply.pumps.supplyReady = false ∧ noSupply.pumps.queue = [1] ∧ noSupply.isSet .bay = false ∧
      ∀ k, (noSupply.pump k).state ≠ .starting) :=
  ⟨bay_ready, ⟨rfl, rfl⟩, bay_unitsFit, by decide +kernel⟩

/-- A level that the blank strapping table and 15 °C make so many decilitres of. -/
def report (level : Nat) : GaugeReport := ⟨level, 150, true⟩

theorem test_hyps_GaugesAndStockChecks :
    let held := bay.updTank 0 fun x => { x with gauge := .held, lastGood := some 40 }
    let faulty := bay.updTank 0 fun x => { x with gauge := .fault }
    let quietT2 := (bay.updTank 1 fun _ => { fullTank with quietRef := some 8201 }).reach 3700000
    let pending := bay.updTank 1 fun _ => { fullTank with rebasePending := true }
    bay.Ready ∧ quietT2.Ready ∧ pending.Ready ∧ (∀ r ∈ (some ⟨65536, 0, false⟩ : Option GaugeReport), 65535 < r.level) ∧
    (held.tank 0).gauge = .held ∧ (held.tank 0).lastGood = some 40 ∧ (bay.tank 0).gauge = .good ∧
    (bay.tank 0).lastGood = some 90 ∧ (faulty.tank 0).gauge = .fault ∧ (bay.tank 11).gauge = .waiting ∧
    (report 65535).level ≤ 65535 ∧ (bay.tank 0).rebasePending = false ∧
    bay.receiving 0 = true ∧ (bay.inlet 0).state = .receiving ∧ (∃ d ∈ (bay.inlet 0).delivery, d.tank = 0) ∧
    ((bay.tankSet 0).highCut : Int) ≤ bay.gaugedNet 0 60000 150 ∧ bay.gaugedNet 0 59000 150 < (bay.tankSet 0).highCut ∧
    (quietT2.receiving 1 = false ∧ (quietT2.tank 1).quietStart + quietT2.store.timing.quietPeriod * 60 ≤ quietT2.seconds ∧
      (quietT2.tank 1).quietRef = some 8201 ∧ (quietT2.tank 1).gauge = .good ∧ (quietT2.tank 1).rebasePending = false ∧
      ((quietT2.tankSet 1).leakThreshold : Int) < 8201 - quietT2.gaugedNet 1 5000 150) ∧
    (pending.tank 1).rebasePending = true ∧ (pending.draw (pending.tankSet 1).product).current = none :=
  ⟨bay_ready, ⟨rfl, rfl⟩, ⟨rfl, rfl⟩, by decide +kernel⟩

/-- A draw tank that waits for its rebase serves again after it at 5,000 mm, and is below its low cut at 0 mm, with its
product then exhausted; and a tank that the next stock check finds out of tolerance for the third time. -/
theorem test_hyps_GaugesAndStockChecks_rebase :
    let pending := bay.updTank 0 fun _ => { fullTank with rebasePending := true }
    let after (level : Nat) : State := next (exec (.gaugeReading 0 (some (report level))) pending)
    let off := bay.updTank 0 fun x => { x with variance := some ((bay.tankSet 0).tolerance + 1 : Nat), runCount := 2 }
    pending.Ready ∧ off.Ready ∧ pending.WaitersCountedNothing ∧
    (pending.tank 0).rebasePending = true ∧ (pending.draw 0).current = some 0 ∧
    (0 : TankId) ∈ (pending.productSet 0).chain ∧ (after 5000).eligible 0 0 = true ∧
    pending.gaugedNet 0 0 150 ≤ (pending.tankSet 0).lowCut ∧ (pending.productSet 0).chain = [0] ∧ (pending.point 0).order.map Order.product = some 0 ∧
    (off.tank 0).gauge = .good ∧ (off.tank 0).variance = some (((off.tankSet 0).tolerance + 1 : Nat) : Int) :=
  ⟨⟨rfl, rfl⟩, ⟨rfl, rfl⟩, waiters_of_nothing _ (by decide +kernel), by decide +kernel⟩

/-- The only order of the bay is that of P1, whose machine has an account. -/
def sole : State :=
  { quiet .open with points := put (quiet .open).points 0 (point .flowing (some order) true), accounts := bay.accounts }

theorem test_hyps_Restarts :
    let owed := bay.updLink 2 fun u => { u with restartOwed := .over }
    let down := { bay with bay := { bay.bay with stopped := true } }
    let due (shift : Nat) : State := { bay with bay := { bay.bay with nextShift := shift } }
    (bay.Ready ∧ owed.Running ∧ sole.Running ∧ down.bay.stopped = true) ∧
    (partNumber via = 0 ∧ (bay.perms via.link).configure = true ∧ (bay.link 2).restartOwed ≠ .over ∧
      (owed.link 2).restartOwed = .over) ∧
    (sortByNumber bay.openOperations).map Prod.fst = [1, 2, 3, 4, 5, 6, 7] ∧
    ((sortByNumber bay.openOperations).take (3 - 1)).map Prod.fst = [1, 2] ∧
    ((due 100).bay.nextShift ≤ (due 100).calendar ∧ ¬(due 101).bay.nextShift ≤ (due 101).calendar) ∧
    (twoAccounts.account 65534).isSome ∧ (∀ p, ∀ o ∈ (twoAccounts.point p).order, o.machine ≠ some 65534) ∧
    (sole.account 4117 = some account ∧ (sole.point 0).order = some order ∧ order.machine = some 4117 ∧
      order.kind = .fuel ∧ account.openSet = [order.number] ∧ sole.accounts.deferred = [] ∧
      (∀ q, q ≠ 0 → ∀ x ∈ (sole.point q).order, x.machine ≠ some 4117) ∧
      sortByNumber sole.openOperations = [(1, .order 0)]) ∧
    (bay.link 0).overflow = false ∧ 8 ≤ (sortByNumber bay.openOperations).length + 1 :=
  ⟨⟨bay_ready, rfl, rfl, rfl⟩, by decide +kernel⟩

end Sys2Proof.Tests
end

/-! # Metering and volume arithmetic (chapter 1): proofs

The laws of the metering unit's functions, in the order of the model, then the statements of the chapter. -/

namespace Sys2Proof.Machine

open Sys2Proof

/-! ## The linearity table (R7) -/

/-- R2: what a meter in range has, as inequalities. -/
theorem meterInRange_iff (m : MeterSettings) :
    meterInRange m = true ↔
      (1000 ≤ m.pulseVolume ∧ m.pulseVolume ≤ 1000000) ∧
      (m.q1 < m.q2 ∧ m.q2 < m.q3 ∧ m.q3 < m.q4 ∧ m.q4 ≤ 2000) ∧
      (-300 ≤ m.d1 ∧ m.d1 ≤ 300) ∧ (-300 ≤ m.d2 ∧ m.d2 ≤ 300) ∧
      (-300 ≤ m.d3 ∧ m.d3 ≤ 300) ∧ (-300 ≤ m.d4 ∧ m.d4 ≤ 300) := by
  simp only [meterInRange, Bool.and_eq_true, decide_eq_true_eq]
  omega

@[simp] theorem between_left (qa qb : Nat) (da db : Int) : between qa qa qb da db = da := by
  simp [between]

/-- R7: truncation toward zero keeps the added term no larger in magnitude than the step. -/
theorem natAbs_between_sub_le {q qa qb : Nat} (da db : Int) (ha : qa ≤ q) (hb : q ≤ qb) :
    (between q qa qb da db - da).natAbs ≤ (db - da).natAbs := by
  have hden : ((qb : Int) - qa).natAbs = qb - qa := by omega
  have hnum : ((q : Int) - qa).natAbs ≤ qb - qa := by omega
  rw [between, add_sub_cancel_left, Int.natAbs_tdiv, Int.natAbs_mul, hden]
  exact Nat.div_le_of_le_mul (by rw [Nat.mul_comm]; exact Nat.mul_le_mul_right _ hnum)

theorem tdiv_nonpos_of_nonpos_of_nonneg {a b : Int} (ha : a ≤ 0) (hb : 0 ≤ b) : a.tdiv b ≤ 0 := by
  have h := Int.tdiv_nonneg (Int.neg_nonneg_of_nonpos ha) hb
  rw [Int.neg_tdiv] at h
  omega

/-- R7: between two table points the deviation stays between their deviations: the added term has the sign of the
step, and no larger magnitude. -/
theorem between_bounds {q qa qb : Nat} {da db lo hi : Int} (hq : qa ≤ q ∧ q ≤ qb)
    (ha : lo ≤ da ∧ da ≤ hi) (hb : lo ≤ db ∧ db ≤ hi) :
    lo ≤ between q qa qb da db ∧ between q qa qb da db ≤ hi := by
  have hsize := natAbs_between_sub_le da db hq.1 hq.2
  have hnum : (0 : Int) ≤ (q : Int) - qa := by omega
  have hden : (0 : Int) ≤ (qb : Int) - qa := by omega
  rcases le_total da db with hup | hdown
  · have hsign : 0 ≤ between q qa qb da db - da := by
      rw [between, add_sub_cancel_left]
      exact Int.tdiv_nonneg (Int.mul_nonneg (by omega) hnum) hden
    omega
  · have hsign : between q qa qb da db - da ≤ 0 := by
      rw [between, add_sub_cancel_left]
      exact tdiv_nonpos_of_nonpos_of_nonneg (Int.mul_nonpos_of_nonpos_of_nonneg (by omega) hnum) hden
    omega

/-- R7: the three stretches of a linearity table, each from a point to the next. -/
def stretches (m : MeterSettings) : List ((Nat × Int) × (Nat × Int)) :=
  [((m.q1, m.d1), (m.q2, m.d2)), ((m.q2, m.d2), (m.q3, m.d3)), ((m.q3, m.d3), (m.q4, m.d4))]

theorem deviationAt_of_le {m : MeterSettings} {q : Nat} (h : q ≤ m.q1) : deviationAt m q = m.d1 := if_pos h

section
variable {m : MeterSettings} (hm : meterInRange m = true)
include hm

theorem deviationAt_of_ge {q : Nat} (h : m.q4 ≤ q) : deviationAt m q = m.d4 := by
  obtain ⟨-, ⟨h12, h23, h34, -⟩, -⟩ := (meterInRange_iff m).1 hm
  rw [deviationAt, if_neg (by omega), if_pos h]

/-- R7: on each stretch, its lower point included, the deviation is the interpolated one. -/
theorem deviationAt_of_stretch {q : Nat} {a b : Nat × Int} (hab : (a, b) ∈ stretches m)
    (ha : a.1 ≤ q) (hb : q < b.1) : deviationAt m q = between q a.1 b.1 a.2 b.2 := by
  obtain ⟨-, ⟨h12, h23, h34, -⟩, -⟩ := (meterInRange_iff m).1 hm
  simp only [stretches, List.mem_cons, Prod.mk.injEq, List.not_mem_nil, or_false] at hab
  rcases hab with ⟨rfl, rfl⟩ | ⟨rfl, rfl⟩ | ⟨rfl, rfl⟩ <;> dsimp only at ha hb ⊢
  · rcases Nat.eq_or_lt_of_le ha with rfl | hlt
    · rw [deviationAt_of_le le_rfl, between_left]
    · rw [deviationAt, if_neg (by omega), if_neg (by omega), if_pos hb]
  · rw [deviationAt, if_neg (by omega), if_neg (by omega), if_neg (by omega), if_pos hb]
  · rw [deviationAt, if_neg (by omega), if_neg (by omega), if_neg (by omega), if_neg (by omega)]

/-- R7: at the lower point of each stretch the deviation is that point's. -/
theorem deviationAt_of_stretch_start {a b : Nat × Int} (hab : (a, b) ∈ stretches m) (hlt : a.1 < b.1) :
    deviationAt m a.1 = a.2 := by
  rw [deviationAt_of_stretch hm hab le_rfl hlt, between_left]

/-- R7: at a flow equal to a table point's flow, the deviation is that point's deviation. -/
theorem deviationAt_points :
    deviationAt m m.q1 = m.d1 ∧ deviationAt m m.q2 = m.d2 ∧ deviationAt m m.q3 = m.d3 ∧
      deviationAt m m.q4 = m.d4 := by
  obtain ⟨-, ⟨-, h23, h34, -⟩, -⟩ := (meterInRange_iff m).1 hm
  exact ⟨deviationAt_of_le le_rfl,
    deviationAt_of_stretch_start hm (a := (m.q2, m.d2)) (b := (m.q3, m.d3)) (by simp [stretches]) h23,
    deviationAt_of_stretch_start hm (a := (m.q3, m.d3)) (b := (m.q4, m.d4)) (by simp [stretches]) h34,
    deviationAt_of_ge hm le_rfl⟩

end

/-- R7: whatever bounds the four deviations of a table bounds the deviation at every flow. -/
theorem deviationAt_bounds {m : MeterSettings} {lo hi : Int} (h1 : lo ≤ m.d1 ∧ m.d1 ≤ hi)
    (h2 : lo ≤ m.d2 ∧ m.d2 ≤ hi) (h3 : lo ≤ m.d3 ∧ m.d3 ≤ hi) (h4 : lo ≤ m.d4 ∧ m.d4 ≤ hi) (q : Nat) :
    lo ≤ deviationAt m q ∧ deviationAt m q ≤ hi := by
  unfold deviationAt
  split_ifs with hq1 hq4 hq2 hq3
  · exact h1
  · exact h4
  · exact between_bounds (by omega) h1 h2
  · exact between_bounds (by omega) h2 h3
  · exact between_bounds (by omega) h3 h4

theorem deviationAt_inRange {m : MeterSettings} (hm : meterInRange m = true) (q : Nat) :
    -300 ≤ deviationAt m q ∧ deviationAt m q ≤ 300 := by
  obtain ⟨-, -, h1, h2, h3, h4⟩ := (meterInRange_iff m).1 hm
  exact deviationAt_bounds h1 h2 h3 h4 q

/-- R7: on a table of equal deviations the deviation is that value at every flow. -/
theorem deviationAt_of_equal {m : MeterSettings} (h12 : m.d1 = m.d2) (h23 : m.d2 = m.d3) (h34 : m.d3 = m.d4)
    (q : Nat) : deviationAt m q = m.d1 := by
  have h := deviationAt_bounds (m := m) (lo := m.d1) (hi := m.d1)
    (by omega) (by omega) (by omega) (by omega) q
  omega

/-! ## The temperature hold (R9, R10) -/

theorem clampTemperature_eq_ite (x : Int) :
    clampTemperature x = if x < -400 then -400 else if 850 < x then 850 else x := by
  unfold clampTemperature
  split_ifs <;> omega

theorem clampTemperature_bounds (x : Int) : -400 ≤ clampTemperature x ∧ clampTemperature x ≤ 850 := by
  unfold clampTemperature
  omega

theorem clampTemperature_of_inRange {x : Int} (hlo : -400 ≤ x) (hhi : x ≤ 850) : clampTemperature x = x := by
  unfold clampTemperature
  omega

theorem holdStep_valid (lastValid : Option Int) (age : Nat) (x : Int) :
    holdStep lastValid age (some x) = ⟨clampTemperature x, some (clampTemperature x), 0, .live⟩ := rfl

theorem holdStep_held (x : Int) {age : Nat} (h : age + 1 ≤ 150) :
    holdStep (some x) age none = ⟨x, some x, age + 1, .held⟩ := if_pos h

theorem holdStep_default {lastValid : Option Int} {age : Nat} (h : lastValid = none ∨ 150 < age + 1) :
    holdStep lastValid age none = ⟨150, none, 0, .default⟩ := by
  cases lastValid with
  | none => rfl
  | some x => exact if_neg (by simpa [Config.holdWindows] using h)

/-- R10: an invalid reading either continues the hold of a last valid temperature or answers DEFAULT. -/
theorem holdStep_invalid_cases (lastValid : Option Int) (age : Nat) :
    (∃ x, lastValid = some x ∧ holdStep lastValid age none = ⟨x, some x, age + 1, .held⟩) ∨
      holdStep lastValid age none = ⟨150, none, 0, .default⟩ := by
  cases lastValid with
  | none => exact .inr rfl
  | some x =>
    rcases Nat.lt_or_ge 150 (age + 1) with hover | hwithin
    · exact .inr (holdStep_default (.inr hover))
    · exact .inl ⟨x, rfl, holdStep_held x hwithin⟩

/-- R9, R10: the temperature used is in the range of a clamped one when the last valid temperature is. -/
theorem holdStep_t10_bounds {lastValid : Option Int} (h : ∀ x ∈ lastValid, -400 ≤ x ∧ x ≤ 850) (age : Nat)
    (reading : Option Int) :
    -400 ≤ (holdStep lastValid age reading).t10 ∧ (holdStep lastValid age reading).t10 ≤ 850 := by
  cases reading with
  | some x => exact clampTemperature_bounds x
  | none =>
    rcases holdStep_invalid_cases lastValid age with ⟨x, hlast, heq⟩ | heq
    · rw [heq]; exact h x hlast
    · rw [heq]; decide

/-- R10: in DEFAULT the temperature used is 15 °C. -/
theorem holdStep_t10_of_default {lastValid : Option Int} {age : Nat} {reading : Option Int}
    (h : (holdStep lastValid age reading).state = .default) : (holdStep lastValid age reading).t10 = 150 := by
  cases reading with
  | some x => cases h
  | none =>
    rcases holdStep_invalid_cases lastValid age with ⟨x, -, heq⟩ | heq
    · rw [heq] at h; cases h
    · rw [heq]

/-! ## The compensation factor (R11) -/

@[simp] theorem factor_at_150 (beta : Nat) : factor beta 150 = 10000000 := by simp [factor]

/-- R11: the product of the coefficient and the temperature's distance from 15 °C, over the whole of both ranges. -/
theorem beta_mul_bounds {beta : Nat} {t10 : Int} (hbeta : beta ≤ 2000) (ht : -400 ≤ t10 ∧ t10 ≤ 850) :
    -1100000 ≤ (beta : Int) * (t10 - 150) ∧ (beta : Int) * (t10 - 150) ≤ 1400000 := by
  have hb : (beta : Int) ≤ 2000 := by exact_mod_cast hbeta
  have hlow : (beta : Int) * (-550) ≤ beta * (t10 - 150) := Int.mul_le_mul_of_nonneg_left (by omega) (by omega)
  have hhigh : (beta : Int) * (t10 - 150) ≤ beta * 700 := Int.mul_le_mul_of_nonneg_left (by omega) (by omega)
  omega

theorem factor_bounds {beta : Nat} {t10 : Int} (hbeta : beta ≤ 2000) (ht : -400 ≤ t10 ∧ t10 ≤ 850) :
    8600000 ≤ factor beta t10 ∧ factor beta t10 ≤ 11100000 := by
  have h := beta_mul_bounds hbeta ht
  unfold factor
  omega

/-! ## Division with a carried remainder (R8, R12)

Gross and net volume are one operation at two bases: the quotient is booked, the remainder carried. -/

/-- What is booked of `x` in units of `base`, and what is carried. -/
def carry (base : Nat) (x : Int) : Nat × Nat := ((x / base).toNat, (x % base).toNat)

/-- The amount booked, and the last remainder, of windows of the given volumes at one rate. -/
def carryRun (base : Nat) (rate : Int) : List Nat → Nat → Nat × Nat
  | [], rem => (0, rem)
  | n :: rest, rem =>
    let w := carry base (n * rate + rem)
    let r := carryRun base rate rest w.2
    (w.1 + r.1, r.2)

theorem grossOf_eq_carry (nominal : Nat) (d : Int) (rem : Nat) :
    grossOf nominal d rem = carry 10000 (nominal * (10000 + d) + rem) := rfl

theorem netOf_eq_carry (gross : Nat) (f : Int) (rem : Nat) :
    netOf gross f rem = carry 10000000 (gross * f + rem) := rfl

theorem grossRun_eq_carryRun (d : Int) (nominals : List Nat) (rem : Nat) :
    grossRun d nominals rem = carryRun 10000 (10000 + d) nominals rem := by
  induction nominals generalizing rem with
  | nil => rfl
  | cons n rest ih => simp only [grossRun, carryRun, ih, grossOf_eq_carry]

theorem netRun_eq_carryRun (f : Int) (grosses : List Nat) (rem : Nat) :
    netRun f grosses rem = carryRun 10000000 f grosses rem := by
  induction grosses generalizing rem with
  | nil => rfl
  | cons n rest ih => simp only [netRun, carryRun, ih, netOf_eq_carry]

section
variable {base : Nat}

theorem cast_carry_fst {x : Int} (hx : 0 ≤ x) : ((carry base x).1 : Int) = x / base :=
  Int.toNat_of_nonneg (Int.ediv_nonneg hx (Int.natCast_nonneg base))

variable (hbase : 0 < base)
include hbase

theorem cast_carry_snd (x : Int) : ((carry base x).2 : Int) = x % base :=
  Int.toNat_of_nonneg (Int.emod_nonneg x (by omega))

theorem carry_snd_lt (x : Int) : (carry base x).2 < base := by
  have hmod : x % base < base := Int.emod_lt_of_pos x (by omega)
  have hcast := cast_carry_snd hbase x
  omega

omit hbase in
/-- Whole units and a remainder below one are booked and carried as they are. -/
theorem carry_mul_add (n : Nat) {rem : Nat} (h : rem < base) : carry base (n * base + rem) = (n, rem) := by
  have hcast : (n : Int) * base + rem = ((rem + n * base : Nat) : Int) := by push_cast; ring
  rw [carry, hcast, ← Int.natCast_ediv, ← Int.natCast_emod, Int.toNat_natCast, Int.toNat_natCast,
    Nat.add_mul_div_right _ _ (by omega), Nat.div_eq_of_lt h, Nat.zero_add, Nat.add_mul_mod_self_right,
    Nat.mod_eq_of_lt h]

omit hbase in
/-- A remainder below a unit alone books nothing and is carried on unchanged. -/
theorem carry_of_lt {rem : Nat} (h : rem < base) : carry base rem = (0, rem) := by
  simpa using carry_mul_add 0 h

/-- Two windows book and carry what one window of both does: the first one's remainder makes good what its quotient
left out. -/
theorem carry_add {x y : Int} (hx : 0 ≤ x) (hy : 0 ≤ y) :
    ((carry base x).1 + (carry base (y + (carry base x).2)).1, (carry base (y + (carry base x).2)).2) =
      carry base (x + y) := by
  have hrem := cast_carry_snd hbase x
  have hsplit : x + y = y + x % base + base * (x / base) := by
    have := Int.emod_add_mul_ediv x base
    omega
  have hrest : 0 ≤ y + x % base := by omega
  rw [hrem, hsplit]
  refine Prod.ext ?_ ?_
  · have hquot : (y + x % base + base * (x / base)) / base = (y + x % base) / base + x / base :=
      Int.add_mul_ediv_left _ _ (by omega)
    simp only [carry, hquot]
    rw [Int.toNat_add (Int.ediv_nonneg hrest (by omega)) (Int.ediv_nonneg hx (by omega)), Nat.add_comm]
  · simp only [carry, Int.add_mul_emod_self_left]

/-- Chapter 1: over many windows at one rate the amount booked, and the remainder carried, are those of one window
of the whole volume. -/
theorem carryRun_eq_carry {rate : Int} (hrate : 0 ≤ rate) (volumes : List Nat) {rem : Nat} (h : rem < base) :
    carryRun base rate volumes rem = carry base (volumes.sum * rate + rem) := by
  induction volumes generalizing rem with
  | nil => simpa [carryRun] using (carry_of_lt h).symm
  | cons n rest ih =>
    have hx : (0 : Int) ≤ n * rate + rem := by positivity
    have hy : (0 : Int) ≤ rest.sum * rate := by positivity
    have hsum : (((n :: rest).sum : Nat) : Int) * rate + rem = (n * rate + rem) + rest.sum * rate := by
      rw [List.sum_cons]; push_cast; ring
    rw [hsum, ← carry_add hbase hx hy, ← ih (carry_snd_lt hbase _), carryRun]

end

/-! ## The result of a window (R6 to R13) -/

section
variable (u : Meter) (w : Working) (reading : Option Int) (last : Bool)

theorem windowResult_flow :
    (windowResult u w reading last).flow = flowOf (u.pulses * w.meter.pulseVolume) := rfl

theorem windowResult_deviation :
    (windowResult u w reading last).deviation = deviationAt w.meter (windowResult u w reading last).flow := rfl

/-- R10: the temperature, state and mark of a window, and the hold state after it, by its row of R10's table. -/
theorem window_of_holdStep {h : HoldStep} (hstep : holdStep u.lastValid u.holdAge reading = h) :
    let r := windowResult u w reading last
    let next := nextWindow u w reading
    r.temperature = h.t10 ∧ r.tempState = h.state ∧ r.uncompensated = decide (h.state = .default) ∧
      next.lastValid = h.lastValid ∧ next.holdAge = h.holdAge ∧ next.tempState = h.state := by
  subst hstep
  exact ⟨rfl, rfl, rfl, rfl, rfl, rfl⟩

theorem nextWindow_lastValid :
    (nextWindow u w reading).lastValid = (holdStep u.lastValid u.holdAge reading).lastValid := rfl

theorem nextWindow_holdAge :
    (nextWindow u w reading).holdAge = (holdStep u.lastValid u.holdAge reading).holdAge := rfl

/-- R8: the gross volume of a window and the gross remainder after it, by R8's `t`. -/
theorem window_gross :
    let r := windowResult u w reading last
    let t : Int := u.pulses * w.meter.pulseVolume * (10000 + r.deviation) + u.grossRem
    r.gross = (carry 10000 t).1 ∧ (nextWindow u w reading).grossRem = (carry 10000 t).2 := by
  rw [← Nat.cast_mul]
  exact ⟨rfl, rfl⟩

/-- R12: the net volume of a window and the net remainder after it, by R12's `u`. -/
theorem window_net :
    let r := windowResult u w reading last
    let x : Int := r.gross * factor w.beta r.temperature + u.netRem
    r.net = (carry 10000000 x).1 ∧ (nextWindow u w reading).netRem = (carry 10000000 x).2 := ⟨rfl, rfl⟩

end

/-- R6: the flow of a window of no more pulses than are counted. -/
theorem flowOf_le {nominal : Nat} (h : nominal ≤ 65535000000) : flowOf nominal ≤ 19660500 := by
  unfold flowOf
  omega

/-! ## Windows without a valid reading (R10) -/

/-- The metering unit after `n` windows that each end with an invalid reading. -/
def afterMisses (w : Working) (n : Nat) (u : Meter) : Meter := Nat.repeat (fun m => nextWindow m w none) n u

theorem afterMisses_succ (w : Working) (n : Nat) (u : Meter) :
    afterMisses w (n + 1) u = nextWindow (afterMisses w n u) w none := rfl

/-- R10: without a last valid temperature there is none until a valid reading. -/
theorem afterMisses_lastValid_of_none (w : Working) {u : Meter} (h : u.lastValid = none) (n : Nat) :
    (afterMisses w n u).lastValid = none := by
  induction n with
  | zero => exact h
  | succ n ih => rw [afterMisses_succ, nextWindow_lastValid, holdStep_default (.inl ih)]

section
variable (w : Working) {u : Meter} {x : Int} (hlast : u.lastValid = some x) (hage : u.holdAge = 0)
include hlast hage

/-- R10: for 150 window ends the hold keeps the last valid temperature and counts. -/
theorem afterMisses_within_hold {n : Nat} (hn : n ≤ 150) :
    (afterMisses w n u).lastValid = some x ∧ (afterMisses w n u).holdAge = n := by
  induction n with
  | zero => exact ⟨hlast, hage⟩
  | succ n ih =>
    obtain ⟨hkept, hcount⟩ := ih (by omega)
    rw [afterMisses_succ, nextWindow_lastValid, nextWindow_holdAge, hkept, hcount, holdStep_held x hn]
    exact ⟨rfl, rfl⟩

/-- R10: the transition to DEFAULT on hold age makes the last valid temperature absent, and it stays so. -/
theorem afterMisses_past_hold {n : Nat} (hn : 150 < n) : (afterMisses w n u).lastValid = none := by
  induction n with
  | zero => omega
  | succ n ih =>
    rw [afterMisses_succ, nextWindow_lastValid]
    rcases Nat.lt_or_ge 150 n with hpast | hwithin
    · rw [holdStep_default (.inl (ih hpast))]
    · rw [holdStep_default (.inr (by rw [(afterMisses_within_hold w hlast hage hwithin).2]; exact hn))]

theorem holdStep_afterMisses_held {n : Nat} (hn : n < 150) :
    holdStep (afterMisses w n u).lastValid (afterMisses w n u).holdAge none = ⟨x, some x, n + 1, .held⟩ := by
  obtain ⟨hkept, hcount⟩ := afterMisses_within_hold w hlast hage hn.le
  rw [hkept, hcount, holdStep_held x hn]

theorem holdStep_afterMisses_default {n : Nat} (hn : 150 ≤ n) :
    holdStep (afterMisses w n u).lastValid (afterMisses w n u).holdAge none = ⟨150, none, 0, .default⟩ := by
  apply holdStep_default
  rcases Nat.eq_or_lt_of_le hn with rfl | hpast
  · exact .inr (by rw [(afterMisses_within_hold w hlast hage le_rfl).2]; decide)
  · exact .inl (afterMisses_past_hold w hlast hage hpast)

end

/-! ## The statements -/

/-- Settles O1: interpolation keeps between two points, so a bound of the four deviations bounds every flow's; the
rest is the equation of each stretch. -/
theorem linearityDeviation : Obligations.LinearityDeviation := by
  intro m hm
  obtain ⟨⟨-, hvolume⟩, -⟩ := (meterInRange_iff m).1 hm
  obtain ⟨hp1, hp2, hp3, hp4⟩ := deviationAt_points hm
  refine ⟨fun q => ?_, hp1, hp2, hp3, hp4, ?_⟩
  · obtain ⟨hlo, hhi⟩ := deviationAt_bounds (m := m) (lo := min (min m.d1 m.d2) (min m.d3 m.d4))
      (hi := max (max m.d1 m.d2) (max m.d3 m.d4)) (by omega) (by omega) (by omega) (by omega) q
    obtain ⟨hlo300, hhi300⟩ := deviationAt_inRange hm q
    refine ⟨deviationAt_of_le, deviationAt_of_ge hm, fun a b hab ha hb => ?_, hlo, hhi, hlo300, hhi300,
      fun ⟨h12, h23, h34⟩ => deviationAt_of_equal h12 h23 h34 q⟩
    have hdev := deviationAt_of_stretch hm hab ha hb
    exact ⟨hdev, hdev ▸ natAbs_between_sub_le a.2 b.2 ha hb.le⟩
  · rintro u w reading last rfl
    refine ⟨windowResult_deviation .., windowResult_flow .., fun hnone => ?_, fun hpulses => ?_⟩
    · simp [windowResult_flow, flowOf, hnone]
    · have hnominal := Nat.mul_le_mul hpulses hvolume
      exact ⟨hnominal, flowOf_le hnominal⟩

/-- Settles O2: gross volume is division by 10,000 with a carried remainder, of a rate between 9,700 and 10,300. -/
theorem grossVolume : Obligations.GrossVolume := by
  refine ⟨fun d nominals hlo hhi => ?_, fun u w reading last hm hrem => ?_⟩
  · have hrun := carryRun_eq_carry (base := 10000) (by decide) (rate := 10000 + d) (by omega) nominals
      (rem := 0) (by decide)
    rw [grossRun_eq_carryRun, grossOf_eq_carry, hrun]
    exact ⟨rfl, rfl⟩
  · intro r next nominal t
    obtain ⟨hgross, hnext⟩ := window_gross u w reading last
    have hdev : -300 ≤ r.deviation := (deviationAt_inRange hm _).1
    have hrate : 9700 ≤ 10000 + r.deviation := by omega
    have hnominal : 0 ≤ nominal := by positivity
    have ht : 0 ≤ t := by
      have := Int.mul_nonneg hnominal (by omega : 0 ≤ 10000 + r.deviation)
      omega
    have hmod : (next.grossRem : Int) = t % 10000 := by
      rw [hnext]; exact cast_carry_snd (by decide) t
    refine ⟨hrate, ht, ?_, hmod, by omega, fun hnone => ?_, fun hwhole hzero => ?_, fun _ _ _ => rfl⟩
    · rw [hgross]; exact cast_carry_fst ht
    · have htrem : t = u.grossRem := by simp [t, nominal, hnone]
      have hcarry := carry_of_lt hrem
      rw [← htrem] at hcarry
      exact ⟨htrem, hgross.trans (Prod.ext_iff.1 hcarry).1, hnext.trans (Prod.ext_iff.1 hcarry).2⟩
    · have hdvd : (10000 : Int) ∣ t := by
        have hvolume : (10000 : Int) ∣ w.meter.pulseVolume := by exact_mod_cast hwhole
        simpa [t, hzero] using (hvolume.mul_left u.pulses).mul_right (10000 + r.deviation)
      omega

/-- Settles O3, from the table of readings and hold states; the runs of invalid readings by induction on their
number. -/
theorem temperatureHold : Obligations.TemperatureHold := by
  intro u w last used next
  refine ⟨fun x => ?_, fun x hlast hage => ?_, fun hdefault => ?_, fun x n hlo hhi => ?_, fun m beta now n => ?_⟩
  · rw [← clampTemperature_eq_ite x]
    exact window_of_holdStep u w (some x) last (holdStep_valid _ _ x)
  · exact window_of_holdStep u w none last (by rw [hlast, holdStep_held x hage])
  · exact window_of_holdStep u w none last (holdStep_default hdefault)
  · have hlast : (next (some x)).lastValid = some x := by
      rw [nextWindow_lastValid, holdStep_valid, clampTemperature_of_inRange hlo hhi]
    have hage : (next (some x)).holdAge = 0 := rfl
    intro held
    split_ifs with hn
    · obtain ⟨ht10, hstate, -⟩ :=
        window_of_holdStep held w none last (holdStep_afterMisses_held w hlast hage hn)
      exact ⟨hstate, ht10⟩
    · obtain ⟨ht10, hstate, -⟩ :=
        window_of_holdStep held w none last (holdStep_afterMisses_default w hlast hage (Nat.le_of_not_lt hn))
      exact ⟨hstate, ht10⟩
  · intro first
    have hnone : first.lastValid = none := rfl
    obtain ⟨-, hstate, hmark, -⟩ := window_of_holdStep (afterMisses w n first) w none last
      (holdStep_default (.inl (afterMisses_lastValid_of_none w hnone n)))
    exact ⟨hnone, hstate, hmark⟩

/-- Settles O4: net volume is division by 10,000,000 with a carried remainder, of a factor whose bounds follow from
those of the temperature used. -/
theorem compensationAndNet : Obligations.CompensationAndNet := by
  refine ⟨fun f grosses hlo hhi => ?_, ⟨fun _ _ => rfl, by decide, by decide, fun s t level x hlo hhi => ?_,
    fun u w reading last hbeta hlast => ?_⟩, fun m w reading last hbeta hlast hrem => ?_⟩
  · have hrun := carryRun_eq_carry (base := 10000000) (by decide) (rate := f) (by omega) grosses
      (rem := 0) (by decide)
    rw [netRun_eq_carryRun, netOf_eq_carry, hrun]
    exact ⟨rfl, rfl⟩
  · rw [State.gaugedNet, clampTemperature_of_inRange hlo hhi]
  · intro r
    have htemp : -400 ≤ r.temperature ∧ r.temperature ≤ 850 := holdStep_t10_bounds hlast u.holdAge reading
    obtain ⟨hflo, hfhi⟩ := factor_bounds hbeta htemp
    obtain ⟨hblo, hbhi⟩ := beta_mul_bounds hbeta htemp
    refine ⟨hflo, hfhi, hblo, hbhi, fun h150 => by rw [h150, factor_at_150], ?_⟩
    have hf : 0 ≤ factor w.beta r.temperature := by omega
    exact cast_carry_fst (base := 10000000) (by positivity)
  · intro r next u
    obtain ⟨hnet, hnext⟩ := window_net m w reading last
    have htemp : -400 ≤ r.temperature ∧ r.temperature ≤ 850 := holdStep_t10_bounds hlast m.holdAge reading
    have hf : 0 ≤ factor w.beta r.temperature := by have := factor_bounds hbeta htemp; omega
    have hu : 0 ≤ u := by positivity
    have hmod : (next.netRem : Int) = u % 10000000 := by
      rw [hnext]; exact cast_carry_snd (by decide) u
    have hat150 (h150 : r.temperature = 150) : r.net = r.gross := by
      have hunits : u = r.gross * (10000000 : Nat) + m.netRem := by simp [u, h150]
      have hcarry := carry_mul_add (base := 10000000) r.gross (rem := m.netRem) (by omega)
      rw [← hunits] at hcarry
      exact hnet.trans (Prod.ext_iff.1 hcarry).1
    refine ⟨hu, ?_, hmod, by omega, fun hnone => ?_, fun h150 => ⟨by rw [h150, factor_at_150], hat150 h150⟩,
      fun hdefault => hat150 (holdStep_t10_of_default hdefault)⟩
    · rw [hnet]; exact cast_carry_fst hu
    · have hurem : u = m.netRem := by simp [u, hnone]
      have hcarry := carry_of_lt (base := 10000000) (rem := m.netRem) (by omega)
      rw [← hurem] at hcarry
      exact ⟨hurem, hnet.trans (Prod.ext_iff.1 hcarry).1, hnext.trans (Prod.ext_iff.1 hcarry).2⟩

end Sys2Proof.Machine

/-! # Fixed computations of the blocks: the step, the reset state, the limit of an order, the strapping table -/

namespace Sys2Proof.Machine

open Sys2Proof

/-- Settles O7: a step is the command at the front, or one idle millisecond. -/
theorem stepTakesFrontCommand : Obligations.StepTakesFrontCommand := by
  refine ⟨fun i s => rfl, fun s h => ?_⟩
  have idles : step s = .next (idle s) := by
    unfold step
    split
    · rfl
    · next i rest e => rw [h] at e; cases e
  exact idles

/-! ## The state after reset -/

@[simp] theorem reset_point (p : PointId) : State.reset.point p = .restarted false 0 := look_fill ..
@[simp] theorem reset_inlet (i : InletId) : State.reset.inlet i = .restarted false := look_fill ..
@[simp] theorem reset_pump (m : PumpId) : State.reset.pump m = .restarted false := look_fill ..
@[simp] theorem reset_tank (t : TankId) : State.reset.tank t = .lost 0 := look_fill ..
@[simp] theorem reset_draw (k : ProductId) : State.reset.draw k = ⟨none, none⟩ := look_fill ..
@[simp] theorem reset_queue (l : Link) : (State.reset.link l).queue = [⟨.restarted .first, 0⟩] := by
  simp [State.link, State.reset]

/-- Settles O9: no unit of the reset state holds an operation, no product a draw tank, and no latch is set. -/
theorem resetHoldsLaws : Obligations.ResetHoldsLaws := by
  have units : State.reset.UnitsFit := fun _ => ⟨fun p => by simp [PointUnit.fitsState, PointUnit.restarted, Meter.idle],
    fun i => by simp [InletUnit.fitsState, InletUnit.restarted, Meter.idle]⟩
  have chain (k : ProductId) : (State.reset.productSet k).chain.length ≤ 4 ∧
      ∀ t ∈ (State.reset.productSet k).chain, (State.reset.tankSet t).product = k := by
    revert k
    decide
  have entries : State.reset.EntriesKept :=
    ⟨fun k => ⟨(chain k).1, by simp⟩, fun p => by simp [PointUnit.restarted], by simp [State.reset, Journal.lost]⟩
  have draws : State.reset.DrawsServe :=
    ⟨fun t => by simp [State.conditionsCurrent, Tank.lost], fun k => (chain k).2, by simp⟩
  have trips : State.reset.TripsStop :=
    ⟨fun p _ => by simp [PointUnit.restarted], fun i => by simp [InletUnit.restarted]⟩
  have reserve : State.reset.ReserveHeld := by
    refine ⟨?_, ?_, ?_⟩ <;> decide
  have configure : State.reset.ConfigureHeld := ⟨0, by decide⟩
  exact ⟨rfl, rfl, units, fun p => by simp [PointUnit.restarted], entries, draws, trips,
    fun i => by simp [InletUnit.restarted], fun m n => by simp [PumpUnit.restarted], reserve,
    ⟨List.Pairwise.nil, by decide⟩, ⟨by decide, List.Pairwise.nil, by simp [State.reset]⟩, configure,
    fun l => by simp [Config.maxNotices], by decide⟩

/-! ## The limit of an order (R23) -/

/-- The least of two optional terms and a third, where the first never exceeds the third. -/
theorem limitOf_limit (preset allowance : Option Nat) (capacity : Nat) :
    (limitOf preset allowance capacity).limit =
      min (min ((preset.map (min capacity)).getD capacity) (allowance.getD capacity)) capacity := rfl

theorem limitOf_terms (preset allowance : Option Nat) (capacity : Nat) :
    let x := limitOf preset allowance capacity
    x.limit ≤ capacity ∧ (∀ n ∈ preset, x.limit ≤ n) ∧ (∀ n ∈ allowance, x.limit ≤ n) ∧
    (x.limit = capacity ∨ preset = some x.limit ∨ allowance = some x.limit) := by
  simp only [limitOf_limit]
  cases preset <;> cases allowance <;> simp <;> omega

/-- R23: the cause of a limit is that of the first term that binds. -/
theorem limitOf_cause (preset allowance : Option Nat) (capacity : Nat) :
    let x := limitOf preset allowance capacity
    x.cause = if preset.map (min capacity) = some x.limit then .preset
      else if allowance = some x.limit then .allowance else .capacity := rfl

theorem limitOf_clamped (preset allowance : Option Nat) (capacity : Nat) :
    (limitOf preset allowance capacity).clamped = true ↔ ∃ n, preset = some n ∧ capacity < n := by
  cases preset <;> simp [limitOf]

/-- Settles O5: the four facts of a limit, and the terms of each kind by the kind. -/
theorem orderLimitTerms : Obligations.OrderLimitTerms := by
  refine ⟨fun preset allowance capacity => ?_, fun s p preset override a => ⟨rfl, fun kind hk x => ?_⟩⟩
  · obtain ⟨least, ofPreset, ofAllowance, bound⟩ := limitOf_terms preset allowance capacity
    have cause := limitOf_cause preset allowance capacity
    have clamped := limitOf_clamped preset allowance capacity
    generalize limitOf preset allowance capacity = x at *
    have binds : preset.map (min capacity) = some x.limit ↔ ∃ n, preset = some n ∧ min capacity n = x.limit :=
      Option.map_eq_some_iff
    refine ⟨least, ofPreset, ofAllowance, bound, ?_, ?_, ?_, clamped⟩ <;> rw [cause, ← binds]
    all_goals
      by_cases hp : preset.map (min capacity) = some x.limit <;> by_cases ha : allowance = some x.limit <;>
        simp [hp, ha]
  · cases kind <;> first | rfl | exact absurd rfl hk

/-! ## The strapping table (R64, R75) -/

/-- R64: of two points of a valid table the later has the higher level and no smaller volume. -/
def strapBelow (a b : StrapPoint) : Prop := a.level < b.level ∧ a.volume ≤ b.volume

theorem pairwise_of_risingFrom {a : StrapPoint} {rest : List StrapPoint} (h : risingFrom a rest = true) :
    (a :: rest).Pairwise strapBelow := by
  induction rest generalizing a with
  | nil => simp
  | cons b rest ih =>
    simp only [risingFrom, Bool.and_eq_true, decide_eq_true_eq] at h
    obtain ⟨⟨level, volume⟩, rising⟩ := h
    have later := ih rising
    refine List.pairwise_cons.2 ⟨fun x hx => ?_, later⟩
    rcases List.mem_cons.1 hx with rfl | hx
    · exact ⟨level, volume⟩
    · obtain ⟨hl, hv⟩ := (List.pairwise_cons.1 later).1 x hx
      exact ⟨level.trans hl, volume.trans hv⟩

section
variable {a : StrapPoint} {rest : List StrapPoint} {level : Nat}

theorem strapBetween_low (a b : StrapPoint) : strapBetween a b a.level = a.volume := by simp [strapBetween]

theorem strapBetween_high {a b : StrapPoint} (h : strapBelow a b) : strapBetween a b b.level = b.volume := by
  obtain ⟨level, volume⟩ := h
  rw [strapBetween, Nat.mul_div_cancel _ (by omega)]
  omega

theorem strapBetween_le {a b : StrapPoint} (h : strapBelow a b) (hl : level ≤ b.level) :
    strapBetween a b level ≤ b.volume := by
  obtain ⟨levels, volumes⟩ := h
  have : (b.volume - a.volume) * (level - a.level) / (b.level - a.level) ≤ b.volume - a.volume :=
    Nat.div_le_of_le_mul (by rw [Nat.mul_comm]; exact Nat.mul_le_mul_right _ (by omega))
  rw [strapBetween]
  omega

/-- A later point of the table is above the first. -/
theorem strapBelow_getElem (h : (a :: rest).Pairwise strapBelow) {i : Nat} (hi : i < rest.length) :
    strapBelow a rest[i] := (List.pairwise_cons.1 h).1 _ (List.getElem_mem hi)

theorem strapAbove_at (h : (a :: rest).Pairwise strapBelow) {i : Nat} (hi : i < (a :: rest).length) :
    strapAbove a (a :: rest)[i].level rest = (a :: rest)[i].volume := by
  induction rest generalizing a i with
  | nil => simp [strapAbove]
  | cons b rest ih =>
    have later := (List.pairwise_cons.1 h).2
    have ab := strapBelow_getElem h (i := 0) (by simp)
    rw [List.getElem_cons_zero] at ab
    unfold strapAbove
    match i with
    | 0 =>
      simp only [List.getElem_cons_zero]
      rw [if_pos ab.1.le, strapBetween_low]
    | 1 =>
      simp only [List.getElem_cons_succ, List.getElem_cons_zero]
      rw [if_pos le_rfl, strapBetween_high ab]
    | j + 2 =>
      have hj : j < rest.length := by simpa using hi
      have above := strapBelow_getElem later hj
      simp only [List.getElem_cons_succ]
      rw [if_neg (by have := above.1; omega)]
      exact ih later (i := j + 1) (by simpa using hj)

theorem strapAbove_between (h : (a :: rest).Pairwise strapBelow) {i : Nat} (hi : i + 1 < (a :: rest).length)
    (low : (a :: rest)[i].level < level) (high : level < (a :: rest)[i + 1].level) :
    strapAbove a level rest = strapBetween (a :: rest)[i] (a :: rest)[i + 1] level := by
  induction rest generalizing a i with
  | nil => simp at hi
  | cons b rest ih =>
    have later := (List.pairwise_cons.1 h).2
    unfold strapAbove
    match i with
    | 0 =>
      simp only [zero_add, List.getElem_cons_succ, List.getElem_cons_zero] at high ⊢
      rw [if_pos high.le]
    | j + 1 =>
      have hj : j + 1 < (b :: rest).length := by simpa using hi
      simp only [List.getElem_cons_succ] at low ⊢
      have high : level < (b :: rest)[j + 1].level := high
      have above : b.level ≤ (b :: rest)[j].level := by
        match j with
        | 0 => simp
        | k + 1 => exact (strapBelow_getElem later (i := k) (by simp at hj; omega)).1.le
      rw [if_neg (by omega)]
      exact ih later hj low high

theorem strapAbove_over (h : (a :: rest).Pairwise strapBelow)
    (higher : ((a :: rest).getLast (by simp)).level < level) :
    strapAbove a level rest = ((a :: rest).getLast (by simp)).volume := by
  induction rest generalizing a with
  | nil => rfl
  | cons b rest ih =>
    have later := (List.pairwise_cons.1 h).2
    simp only [List.getLast_cons_cons] at higher ⊢
    have last : b.level ≤ ((b :: rest).getLast (by simp)).level := by
      rcases List.mem_cons.1 (List.getLast_mem (l := b :: rest) (by simp)) with e | mem
      · rw [e]
      · exact ((List.pairwise_cons.1 later).1 _ mem).1.le
    rw [strapAbove, if_neg (by omega)]
    exact ih later higher

theorem strapAbove_le (h : (a :: rest).Pairwise strapBelow) :
    strapAbove a level rest ≤ ((a :: rest).getLast (by simp)).volume := by
  induction rest generalizing a with
  | nil => simp [strapAbove]
  | cons b rest ih =>
    have later := (List.pairwise_cons.1 h).2
    have ab := strapBelow_getElem h (i := 0) (by simp)
    simp only [List.getLast_cons_cons]
    have last : b.volume ≤ ((b :: rest).getLast (by simp)).volume := by
      rcases List.mem_cons.1 (List.getLast_mem (l := b :: rest) (by simp)) with e | mem
      · rw [e]
      · exact ((List.pairwise_cons.1 later).1 _ mem).2
    unfold strapAbove
    split
    · next hl => exact (strapBetween_le (by simpa using ab) hl).trans last
    · exact ih later

end

/-- A table's points as a list with a first one. -/
theorem strapping_list (table : Table 12 StrapPoint) : ∃ a rest, table.toList = a :: rest ∧
    (∀ i : Fin 12, ∃ h : i.val < (a :: rest).length, look table i = (a :: rest)[i.val]) ∧
    look table 11 = (a :: rest).getLast (by simp) := by
  have length : table.toList.length = 12 := by simp
  match hl : table.toList, length with
  | a :: rest, length =>
    have places (i : Fin 12) : ∃ h : i.val < (a :: rest).length, look table i = (a :: rest)[i.val] := by
      refine ⟨by omega, ?_⟩
      have place : look table i = table.toList[i.val]'(by simp) := by simp [look]
      simp only [place, hl]
    refine ⟨a, rest, rfl, places, ?_⟩
    obtain ⟨_, last⟩ := places 11
    rw [last, List.getLast_eq_getElem]
    simp only [length]
    rfl

/-- Settles O6: by where the level lies among the points of the table. -/
theorem strappingVolume : Obligations.StrappingVolume := by
  intro table valid level
  obtain ⟨a, rest, list, places, last⟩ := strapping_list table
  simp only [validStrapping, list, Bool.and_eq_true] at valid
  have rising := pairwise_of_risingFrom valid.1
  have first : look table 0 = a := (places 0).2
  have volume : strapVolume table level =
      if level < a.level then a.volume * level / a.level else strapAbove a level rest := by
    rw [strapVolume, list]
  have above (i : Fin 12) : a.level ≤ (look table i).level := by
    obtain ⟨hi, e⟩ := places i
    rw [e]
    match hv : i.val, hi with
    | 0, _ => simp
    | j + 1, hi => exact (strapBelow_getElem rising (by simpa using hi)).1.le
  have bound := strapAbove_le (level := level) rising
  rw [← last] at bound
  refine ⟨fun low => ?_, fun i e => ?_, fun i j e low high => ?_, fun higher => ?_, ?_, ?_⟩
  · rw [first] at low ⊢
    rw [volume, if_pos low]
  · obtain ⟨hi, e'⟩ := places i
    rw [volume, if_neg (by have := above i; omega), e, e']
    exact strapAbove_at rising hi
  · obtain ⟨hi, ei⟩ := places i
    obtain ⟨hj, ej⟩ := places j
    have at' : (a :: rest)[j.val] = (a :: rest)[i.val + 1]'(by omega) := by simp only [e]
    rw [ei] at low
    rw [ej, at'] at high
    rw [volume, if_neg (by have := above i; rw [ei] at this; omega), strapAbove_between rising (by omega) low high, ei,
      ej, at', strapBetween]
  · rw [volume, if_neg (by have := above 11; omega), strapAbove_over rising (by rw [← last]; exact higher), last]
  · simp [isOverStrap]
  · rw [volume]
    split
    · next low =>
      have : a.volume * level / a.level ≤ a.volume :=
        Nat.div_le_of_le_mul (by rw [Nat.mul_comm]; exact Nat.mul_le_mul_right _ low.le)
      have top : a.volume ≤ (look table 11).volume := by
        rw [last]
        rcases List.mem_cons.1 (List.getLast_mem (l := a :: rest) (by simp)) with e | mem
        · rw [e]
        · exact ((List.pairwise_cons.1 rising).1 _ mem).2
      omega
    · exact bound

end Sys2Proof.Machine

/-! # What a step can change, and what it keeps: the parts of the state and the laws of the device

The blocks share a few dozen operations.  Each is described once, by one lemma: which parts of the state it may
change, and which laws it keeps.  The laws of the device and the frames of the requests follow from these lemmas. -/

namespace Sys2Proof.Machine

open Sys2Proof

/-! ## The parts of the state -/

/-- The parts of the state that operations change apart from one another. -/
inductive Part where
  | clock | curtailed | mode | bayRest | points | pumps | inlets
  | tanks | draws | reports | stockRest
  | table | deferred | accountsRest
  | latches | log | shutdownRest | journal | links
  | products | tankSets | linkSets | storeRest
  deriving DecidableEq

/-- A part is the same in two states. -/
def Part.same (s t : State) : Part → Prop
  | .clock => t.clock = s.clock
  | .curtailed => t.bay.curtailed = s.bay.curtailed
  | .mode => t.bay.mode = s.bay.mode
  | .bayRest => t.bay.offset = s.bay.offset ∧ t.bay.clockSet = s.bay.clockSet ∧
      t.bay.nextShift = s.bay.nextShift ∧ t.bay.restart = s.bay.restart
  | .points => t.points = s.points
  | .pumps => t.pumps = s.pumps
  | .inlets => t.inlets = s.inlets
  | .tanks => t.stock.tanks = s.stock.tanks
  | .draws => t.stock.draws = s.stock.draws
  | .reports => t.stock.reports = s.stock.reports
  | .stockRest => t.stock.checkDue = s.stock.checkDue ∧ t.stock.tripping = s.stock.tripping
  | .table => t.accounts.table = s.accounts.table
  | .deferred => t.accounts.deferred = s.accounts.deferred
  | .accountsRest => t.accounts.classes = s.accounts.classes ∧ t.accounts.cursors = s.accounts.cursors ∧
      t.accounts.lastShiftChange = s.accounts.lastShiftChange
  | .latches => t.shutdown.pointLatches = s.shutdown.pointLatches ∧
      t.shutdown.bundLatches = s.shutdown.bundLatches ∧ t.shutdown.bayLatch = s.shutdown.bayLatch
  | .log => t.shutdown.log = s.shutdown.log
  | .shutdownRest => t.shutdown.drip = s.shutdown.drip ∧ t.shutdown.overpress = s.shutdown.overpress ∧
      t.shutdown.sump = s.shutdown.sump ∧ t.shutdown.highhigh = s.shutdown.highhigh ∧
      t.shutdown.estop = s.shutdown.estop ∧ t.shutdown.dripBypass = s.shutdown.dripBypass ∧
      t.shutdown.sumpBypass = s.shutdown.sumpBypass ∧ t.shutdown.nextTrip = s.shutdown.nextTrip ∧
      t.shutdown.resetKey = s.shutdown.resetKey
  | .journal => t.journal = s.journal
  | .links => t.links = s.links
  | .products => t.store.products = s.store.products
  | .tankSets => t.store.tanks = s.store.tanks
  | .linkSets => t.store.links = s.store.links
  | .storeRest => t.store.points = s.store.points ∧ t.store.pumps = s.store.pumps ∧
      t.store.inlets = s.store.inlets ∧ t.store.timing = s.store.timing ∧
      t.store.debounce = s.store.debounce ∧ t.store.shifts = s.store.shifts

theorem Part.same_refl (x : Part) (s : State) : x.same s s := by
  cases x <;> simp [Part.same]

theorem Part.same_trans {x : Part} {s t u : State} (h : x.same s t) (h' : x.same t u) : x.same s u := by
  cases x <;> simp only [Part.same] at h h' ⊢ <;> simp only [h', h, and_self]

/-! ## The laws, each a property of a state that depends on few of its parts -/

/-- Section 2.2: the row of a point's state, but for its metering unit in the states that have an order. -/
def PointUnit.FitsButMeter (u : PointUnit) : Prop :=
  match u.state with
  | .disabled | .idle => u.order = none ∧ u.meter.working = none ∧ u.valve = false
  | .identifying | .awaitPump | .stopping => u.order.isSome ∧ u.valve = false
  | .priming | .flowing => u.order.isSome ∧ u.valve = true

/-- Section 2.2: a point with an order has its metering unit in METERING. -/
def PointUnit.Metered (u : PointUnit) : Prop := u.order.isSome → u.meter.working.isSome

theorem PointUnit.fitsState_iff (u : PointUnit) : u.fitsState ↔ u.FitsButMeter ∧ u.Metered := by
  unfold fitsState FitsButMeter Metered
  cases u.state <;> simp +contextual [and_assoc, and_comm, and_left_comm]

/-- Section 5.2: the row of an inlet's state, but for its metering unit in the states that meter. -/
def InletUnit.FitsButMeter (u : InletUnit) : Prop :=
  match u.state with
  | .idle => u.delivery = none ∧ u.meter.working = none ∧ u.valve = false
  | .awaitCoupling | .stopping => u.delivery.isSome ∧ u.valve = false
  | .receiving => u.delivery.isSome ∧ u.valve = true
  | .settling => u.delivery.isSome ∧ u.meter.working = none ∧ u.valve = false

/-- Section 5.2: an inlet with a delivery has its metering unit in METERING until it settles. -/
def InletUnit.Metered (u : InletUnit) : Prop := u.delivery.isSome → u.state ≠ .settling → u.meter.working.isSome

theorem InletUnit.fitsState_iff (u : InletUnit) : u.fitsState ↔ u.FitsButMeter ∧ u.Metered := by
  unfold fitsState FitsButMeter Metered
  cases u.state <;> simp +contextual <;> tauto

/-- A point that has no order going on toward flow. -/
def PointUnit.Halted (u : PointUnit) : Prop :=
  u.order.isSome → u.state = .disabled ∨ u.state = .idle ∨ u.state = .stopping

/-- An inlet that waits for its hose or receives. -/
def InletUnit.Going (u : InletUnit) : Prop := u.state = .awaitCoupling ∨ u.state = .receiving

/-- The tenth law between a machine's account at one moment and the state later: no write of its hour meter waits, and
the account, where it still stands, has an hour meter no lower. -/
def State.HoursFrom (a : Account) (s : State) : Prop :=
  (∀ e ∈ s.accounts.deferred, e.machine = a.machine → e.change.code ≠ 4) ∧
    ∀ b ∈ s.accounts.table, b.machine = a.machine → ∀ x ∈ a.hourMeter, ∃ y ∈ b.hourMeter, x.value ≤ y.value

/-- The fourth law but for some products, whose draw tank may have ceased to serve: a tank's conditions follow its
book, a chain names tanks of its own product, a draw tank is one of the chain, and it is ready. -/
def State.DrawsBut (B : Set ProductId) (s : State) : Prop :=
  (∀ t, s.conditionsCurrent t) ∧ (∀ k, ∀ t ∈ (s.productSet k).chain, (s.tankSet t).product = k) ∧
  (∀ k, ∀ t ∈ (s.draw k).current, t ∈ (s.productSet k).chain) ∧
  ∀ k, k ∉ B → ∀ t ∈ (s.draw k).current, s.ready t = true

/-- The fifth law but for the points of `P` and the deliveries of the inlets of `I`, which may have to be stopped. -/
def State.TripsBut (P : Set PointId) (I : Set InletId) (s : State) : Prop :=
  (∀ p, p ∉ P → (s.isSet (.point p) || s.isSet .bay) = true → (s.point p).Halted) ∧
  (∀ i, i ∉ I → ∀ d ∈ (s.inlet i).delivery, (s.inlet i).Going → s.tankTripped d.tank = false ∧ d.holdsFlag = true) ∧
  s.IdentTimersFit

theorem tripsBut_iff {s : State} (fit : ∀ p, (s.point p).FitsButMeter) :
    (s.TripsStop ∧ s.FlagsHeld ∧ s.IdentTimersFit) ↔ s.TripsBut ∅ ∅ := by
  constructor
  · rintro ⟨⟨points, inlets⟩, flags, idents⟩
    refine ⟨fun p _ set _ => points p set, fun i _ d hd going => ⟨?_, flags i d hd going⟩, idents⟩
    by_contra tripped
    have still := inlets i d hd (by simpa using tripped)
    exact going.elim still.1 still.2
  · rintro ⟨points, inlets, idents⟩
    refine ⟨⟨fun p set => ?_, fun i d hd tripped => ?_⟩, fun i d hd going =>
      (inlets i (Set.notMem_empty i) d hd going).2, idents⟩
    · have halted := points p (Set.notMem_empty p) set
      have row := fit p
      unfold PointUnit.FitsButMeter at row
      split at row
      · next h => exact .inl h
      · next h => exact .inr (.inl h)
      all_goals exact halted row.1
    · constructor <;> intro going <;>
        simp [(inlets i (Set.notMem_empty i) d hd (by simp [InletUnit.Going, going])).1] at tripped

/-- The laws that the operations keep. -/
inductive Law where
  | clockFrom (n : Nat)
  | units | pointMetered (p : PointId) | inletMetered (i : InletId)
  | trips (P : Set PointId) (I : Set InletId) | starting | reserve | draws (B : Set ProductId) | entries
  | ordered | named | hours (a : Account)
  | configure | queues | log

/-- What each law says of a state. -/
def Law.holds (s : State) : Law → Prop
  | .clockFrom n => n ≤ s.clock
  | .units => (∀ p, (s.point p).FitsButMeter) ∧ (∀ i, (s.inlet i).FitsButMeter) ∧ s.IdentTimersFit
  | .pointMetered p => (s.point p).Metered
  | .inletMetered i => (s.inlet i).Metered
  | .trips P I => s.TripsBut P I
  | .starting => s.OneStarting
  | .reserve => s.ReserveHeld
  | .draws B => s.DrawsBut B
  | .entries => s.Running ∧ s.EntriesKept
  | .ordered => s.AccountsOrdered
  | .named => s.AccountsOrdered ∧ s.DeferredNamed
  | .hours a => s.HoursFrom a
  | .configure => s.ConfigureHeld
  | .queues => ∀ l, (s.link l).queue.length ≤ Config.maxNotices
  | .log => s.shutdown.log.length ≤ Config.maxTripLog

/-- The parts of the state that a law speaks of. -/
def Law.parts : Law → List Part
  | .clockFrom _ => [.clock]
  | .units => [.points, .inlets]
  | .pointMetered _ => [.points]
  | .inletMetered _ => [.inlets]
  | .trips _ _ => [.points, .inlets, .latches, .tankSets]
  | .starting => [.pumps]
  | .reserve => [.points, .inlets, .journal, .curtailed]
  | .draws _ => [.tanks, .draws, .latches, .products, .tankSets]
  | .entries => [.points, .draws, .journal, .products]
  | .ordered => [.table]
  | .named => [.table, .deferred]
  | .hours _ => [.table, .deferred]
  | .configure => [.linkSets]
  | .queues => [.links]
  | .log => [.log]

/-! ## Moves -/

/-- A state reached from another by operations that change only the parts `K`, and keep every law but those of `H`. -/
structure Moves (K : List Part) (H : Set Law) (s t : State) : Prop where
  pending : t.pending = s.pending
  stopped : t.bay.stopped = s.bay.stopped
  frame : ∀ x, x ∉ K → x.same s t
  law : ∀ x, x ∉ H → x.holds s → x.holds t

/-- Two states that agree in the parts of a law agree in the law. -/
theorem Law.holds_of_same {x : Law} {s t : State} (stopped : t.bay.stopped = s.bay.stopped)
    (h : ∀ p ∈ x.parts, p.same s t) (hs : x.holds s) : x.holds t := by
  rcases s with ⟨_, ⟨_, _, _, _, _, _, _⟩, ⟨_, _, _, _, _, _, _, _, _⟩, _, _, _, ⟨_, _, _, _, _⟩, ⟨_, _, _, _, _⟩,
    ⟨_, _, _, _, _, _, _, _, _, _, _, _, _⟩, _, _, _⟩
  rcases t with ⟨_, ⟨_, _, _, _, _, _, _⟩, ⟨_, _, _, _, _, _, _, _, _⟩, _, _, _, ⟨_, _, _, _, _⟩, ⟨_, _, _, _, _⟩,
    ⟨_, _, _, _, _, _, _, _, _, _, _, _, _⟩, _, _, _⟩
  cases x <;>
    simp only [Law.parts, List.forall_mem_cons, List.not_mem_nil, IsEmpty.forall_iff, implies_true, and_true,
      Part.same] at h stopped
  case units => obtain ⟨rfl, rfl⟩ := h; exact hs
  case trips => obtain ⟨rfl, rfl, ⟨rfl, rfl, rfl⟩, rfl⟩ := h; exact hs
  case reserve => obtain ⟨rfl, rfl, rfl, rfl⟩ := h; exact hs
  case draws => obtain ⟨rfl, rfl, ⟨rfl, rfl, rfl⟩, rfl, rfl⟩ := h; exact hs
  case entries => obtain ⟨rfl, rfl, rfl, rfl⟩ := h; subst stopped; exact hs
  case named => obtain ⟨rfl, rfl⟩ := h; exact hs
  case hours => obtain ⟨rfl, rfl⟩ := h; exact hs
  all_goals subst h; exact hs

namespace Moves

variable {K L : List Part} {H J : Set Law} {s t u : State}

theorem refl (K : List Part) (H : Set Law) (s : State) : Moves K H s s :=
  ⟨rfl, rfl, fun x _ => x.same_refl s, fun _ _ h => h⟩

/-- A frame, and the laws that speak of a part that has changed. -/
theorem of_frame (pending : t.pending = s.pending) (stopped : t.bay.stopped = s.bay.stopped)
    (frame : ∀ x, x ∉ K → x.same s t)
    (law : ∀ x, x ∉ H → (∃ p ∈ x.parts, p ∈ K) → x.holds s → x.holds t) : Moves K H s t where
  pending := pending
  stopped := stopped
  frame := frame
  law x hx hs := by
    by_cases touched : ∃ p ∈ x.parts, p ∈ K
    · exact law x hx touched hs
    · exact x.holds_of_same stopped (fun p hp => frame p fun hk => touched ⟨p, hp, hk⟩) hs

/-- One operation after another, where neither breaks a law that the whole keeps. -/
theorem andThen (h : Moves K H s t) (h' : Moves L H t u) : Moves (K ++ L) H s u where
  pending := h'.pending.trans h.pending
  stopped := h'.stopped.trans h.stopped
  frame x hx := by
    rw [List.mem_append, not_or] at hx
    exact Part.same_trans (h.frame x hx.1) (h'.frame x hx.2)
  law x hx hs := h'.law x hx (h.law x hx hs)

theorem mono (h : Moves K H s t) (hK : ∀ x ∈ K, x ∈ L) : Moves L H s t where
  pending := h.pending
  stopped := h.stopped
  frame x hx := h.frame x fun hk => hx (hK x hk)
  law := h.law

theorem weaken (h : Moves K ∅ s t) (H : Set Law) : Moves K H s t where
  pending := h.pending
  stopped := h.stopped
  frame := h.frame
  law x _ := h.law x (Set.notMem_empty x)

/-- Laws that hold at the end are not broken. -/
theorem mend (h : Moves K J s t) (H : Set Law) (hold : ∀ x ∈ J, x ∉ H → x.holds s → x.holds t) : Moves K H s t where
  pending := h.pending
  stopped := h.stopped
  frame := h.frame
  law x hx hs := by
    by_cases hJ : x ∈ J
    · exact hold x hJ hx hs
    · exact h.law x hJ hs

/-- What each round of a loop may change and keeps, the loop may change and keeps. -/
theorem forEach {α : Type} (xs : List α) (f : α → State → State)
    (h : ∀ x ∈ xs, ∀ s, Moves K H s (f x s)) (s : State) : Moves K H s (Machine.forEach xs f s) := by
  induction xs generalizing s with
  | nil => exact .refl ..
  | cons x xs ih =>
    exact ((h x (by simp) s).andThen (ih (fun y hy => h y (by simp [hy])) (f x s))).mono (by simp)

theorem running (h : Moves K H s t) : t.Running ↔ s.Running := by
  rw [State.Running, State.Running, h.stopped]

/-- A part that is not among those changed is the same. -/
theorem same (h : Moves K H s t) (x : Part) (hx : x ∉ K := by decide) : x.same s t := h.frame x hx

end Moves

end Sys2Proof.Machine

/-! # What the shared operations move

The writes of one unit, one tank, one link or one table, with what each must respect for the laws to hold on. -/

namespace Sys2Proof.Machine

open Sys2Proof

/-! ## A frame and the laws it touches -/

/-- Nothing but `K` changes, and no law speaks of `K`. -/
theorem Moves.of_untouched {K : List Part} {s t : State} (pending : t.pending = s.pending)
    (stopped : t.bay.stopped = s.bay.stopped) (frame : ∀ x, x ∉ K → x.same s t)
    (untouched : ∀ x : Law, ∀ p ∈ x.parts, p ∉ K) : Moves K ∅ s t :=
  .of_frame pending stopped frame fun x _ ⟨p, hp, hK⟩ => absurd hK (untouched x p hp)

/-! ## The units of the bay -/

/-- A point whose ident timer runs, if it does, in IDENTIFYING. -/
def PointUnit.IdentFits (u : PointUnit) : Prop := u.identDue.isSome → u.state = .identifying

/-- What the second law reads of an order. -/
def Order.ledger (o : Order) : OrderKind × ProductId × Nat × List TankEntry := (o.kind, o.product, o.net, o.entries)

/-- The fifth law, wherever it has lapsed. -/
def tripLaws : Set Law := {x | ∃ P I, x = .trips P I}

/-- How many operations are open: the points with an order and the inlets with a delivery. -/
theorem openOperations_length (s : State) :
    s.openOperations.length =
      (allPoints.countP fun p => (s.point p).order.isSome) + allInlets.countP fun i => (s.inlet i).delivery.isSome := by
  simp [State.openOperations, List.length_filterMap_eq_countP]

section
variable {H : Set Law} {s : State}

/-- A point unit changed, with what each law asks of the change. -/
theorem updPoint_moves (p : PointId) (f : PointUnit → PointUnit)
    (fits : .units ∉ H → (s.point p).IdentFits → (s.point p).FitsButMeter →
      (f (s.point p)).IdentFits ∧ (f (s.point p)).FitsButMeter)
    (metered : .pointMetered p ∉ H → (s.point p).Metered → (f (s.point p)).Metered)
    (halted : ¬tripLaws ⊆ H → (s.point p).IdentFits →
      (f (s.point p)).IdentFits ∧ ((s.point p).Halted → (f (s.point p)).Halted))
    (counted : .reserve ∉ H → (f (s.point p)).order.isSome = (s.point p).order.isSome)
    (ledger : .entries ∉ H → ∀ o ∈ (f (s.point p)).order, ∃ o' ∈ (s.point p).order, o.ledger = o'.ledger) :
    Moves [.points] H s (s.updPoint p f) := by
  have at' (q : PointId) : (s.updPoint p f).point q = if p = q then f (s.point p) else s.point q := point_updPoint ..
  refine .of_frame rfl rfl (fun x hx => by cases x <;> simp [Part.same] at hx ⊢) fun x hx touched hs => ?_
  cases x <;> simp [Law.parts] at touched
  case units =>
    obtain ⟨hp, hi, hid⟩ := hs
    obtain ⟨hid', hp'⟩ := fits hx (hid p) (hp p)
    refine ⟨fun q => ?_, hi, fun q => ?_⟩ <;> rw [at'] <;> split
    · exact hp'
    · exact hp q
    · exact hid'
    · exact hid q
  case pointMetered q =>
    simp only [Law.holds] at hs ⊢
    rw [at']
    split
    · next h => subst h; exact metered hx hs
    · exact hs
  case trips P I =>
    obtain ⟨points, inlets, idents⟩ := hs
    obtain ⟨ident, halt⟩ := halted (fun all => hx (all ⟨P, I, rfl⟩)) (idents p)
    refine ⟨fun q hq set => ?_, inlets, fun q => ?_⟩ <;> rw [at'] <;> split
    · next h => subst h; exact halt (points p hq set)
    · exact points q hq set
    · exact ident
    · exact idents q
  case reserve =>
    simp only [Law.holds, State.ReserveHeld, openOperations_length] at hs ⊢
    have same : ∀ q, ((s.updPoint p f).point q).order.isSome = (s.point q).order.isSome := by
      intro q
      rw [at']
      split
      · next h => subst h; exact counted hx
      · rfl
    simp only [same]
    exact hs
  case entries =>
    obtain ⟨run, hc, ho, hr⟩ := hs
    refine ⟨run, hc, fun q o hq => ?_, hr⟩
    rw [at'] at hq
    split at hq
    · obtain ⟨o', ho', e⟩ := ledger hx o hq
      simp only [Order.ledger, Prod.mk.injEq] at e
      obtain ⟨hkind, hproduct, hnet, hentries⟩ := e
      rw [hkind, hproduct, hnet, hentries]
      exact ho p o' ho'
    · exact ho q o hq

/-- An inlet unit changed, with what each law asks of the change. -/
theorem updInlet_moves (i : InletId) (f : InletUnit → InletUnit)
    (fits : .units ∉ H → (s.inlet i).FitsButMeter → (f (s.inlet i)).FitsButMeter)
    (metered : .inletMetered i ∉ H → (s.inlet i).Metered → (f (s.inlet i)).Metered)
    (going : ¬tripLaws ⊆ H → (f (s.inlet i)).Going → (s.inlet i).Going ∧
      ∀ d ∈ (f (s.inlet i)).delivery, ∃ d' ∈ (s.inlet i).delivery, d.tank = d'.tank ∧
        (d'.holdsFlag = true → d.holdsFlag = true))
    (counted : .reserve ∉ H → (f (s.inlet i)).delivery.isSome = (s.inlet i).delivery.isSome) :
    Moves [.inlets] H s (s.updInlet i f) := by
  have at' (j : InletId) : (s.updInlet i f).inlet j = if i = j then f (s.inlet i) else s.inlet j := inlet_updInlet ..
  refine .of_frame rfl rfl (fun x hx => by cases x <;> simp [Part.same] at hx ⊢) fun x hx touched hs => ?_
  cases x <;> simp [Law.parts] at touched
  case units =>
    obtain ⟨hp, hi, hid⟩ := hs
    refine ⟨hp, fun j => ?_, hid⟩
    rw [at']
    split
    · exact fits hx (hi i)
    · exact hi j
  case inletMetered j =>
    simp only [Law.holds] at hs ⊢
    rw [at']
    split
    · next h => subst h; exact metered hx hs
    · exact hs
  case trips P I =>
    obtain ⟨points, inlets, idents⟩ := hs
    refine ⟨points, fun j hj d hd go => ?_, idents⟩
    rw [at'] at hd go
    split at hd
    · next h =>
      subst h
      rw [if_pos rfl] at go
      obtain ⟨was, kept⟩ := going (fun all => hx (all ⟨P, I, rfl⟩)) go
      obtain ⟨d', hd', tank, holds⟩ := kept d hd
      obtain ⟨clear, flag⟩ := inlets i hj d' hd' was
      exact ⟨by rw [tank]; exact clear, holds flag⟩
    · next h => rw [if_neg h] at go; exact inlets j hj d hd go
  case reserve =>
    simp only [Law.holds, State.ReserveHeld, openOperations_length] at hs ⊢
    have same : ∀ j, ((s.updInlet i f).inlet j).delivery.isSome = (s.inlet j).delivery.isSome := by
      intro j
      rw [at']
      split
      · next h => subst h; exact counted hx
      · rfl
    simp only [same]
    exact hs

end

/-- What the conditions of a tank, and whether it can serve, are read from. -/
def Tank.standing (x : Tank) : Int × Bool × Bool × Bool := (x.book, x.low, x.full, x.rebasePending)

/-- The fourth law, with whether a draw tank serves said by its readiness: the book of a ready tank is on the right
side of its cut because its conditions follow its book. -/
theorem drawsServe_iff (s : State) : s.DrawsServe ↔ s.DrawsBut ∅ := by
  unfold State.DrawsServe State.DrawsBut
  refine and_congr_right fun conditions => and_congr_right fun chains => ?_
  have serves (k : ProductId) (t : TankId) (mem : t ∈ (s.productSet k).chain) (ready : s.ready t = true) :
      if s.isWaste k then (s.tank t).book < microlitres (s.tankSet t).highCut
      else microlitres (s.tankSet t).lowCut < (s.tank t).book := by
    simp only [State.ready, Bool.and_eq_true, decide_eq_true_eq, Bool.not_eq_true'] at ready
    have current := conditions t ready.2
    rw [chains k t mem] at current
    have clear : (s.tank t).low = false ∧ (s.tank t).full = false := by
      have shows := ready.1
      unfold State.tankShows at shows
      split_ifs at shows with h1 h2 h3 h4
      exact ⟨by simpa using h3, by simpa using h4⟩
    split at current
    · next waste =>
      rw [if_pos waste]
      by_contra high
      have := current (by omega)
      simp [clear.2] at this
    · next drawn =>
      rw [if_neg drawn]
      by_contra low
      have := current (by omega)
      simp [clear.1] at this
  constructor
  · intro h
    refine ⟨fun k t ht => (h k t ht).1, fun k _ t ht => ?_⟩
    obtain ⟨-, shows, pending, -⟩ := h k t ht
    simp [State.ready, shows, pending]
  · rintro ⟨mem, ready⟩ k t ht
    have hr := ready k (Set.notMem_empty k) t ht
    have := serves k t (mem k t ht) hr
    simp only [State.ready, Bool.and_eq_true, decide_eq_true_eq, Bool.not_eq_true'] at hr
    exact ⟨mem k t ht, hr.1, hr.2, this⟩

/-- The fourth law, wherever it has lapsed. -/
def drawLaws : Set Law := {x | ∃ B, x = .draws B}

/-- A tank changed. -/
theorem updTank_frame (t : TankId) (f : Tank → Tank) (s : State) : Moves [.tanks] drawLaws s (s.updTank t f) := by
  refine .of_frame rfl rfl (fun x hx => by cases x <;> simp [Part.same] at hx ⊢) fun x hx touched _ => ?_
  cases x <;> simp [Law.parts, drawLaws] at touched hx

/-- A tank changed in nothing that its conditions and its readiness are read from. -/
theorem updTank_moves (t : TankId) (f : Tank → Tank) {s : State} (same : (f (s.tank t)).standing = (s.tank t).standing) :
    Moves [.tanks] ∅ s (s.updTank t f) := by
  refine (updTank_frame t f s).mend ∅ fun x hx _ hs => ?_
  obtain ⟨B, rfl⟩ := hx
  have all : ∀ u, ((s.updTank t f).tank u).standing = (s.tank u).standing := by
    intro u
    rw [tank_updTank]
    split
    · next h => subst h; exact same
    · rfl
  simp only [Tank.standing, Prod.mk.injEq] at all
  simp only [Law.holds, State.DrawsBut, State.conditionsCurrent, State.ready, State.tankShows] at hs ⊢
  have book := fun u => (all u).1
  have low := fun u => (all u).2.1
  have full := fun u => (all u).2.2.1
  have pending := fun u => (all u).2.2.2
  simp only [book, low, full, pending]
  exact hs

/-- A tank changed whose conditions follow its book: only a draw tank of its own product may have ceased to serve. -/
theorem updTank_drawsBut {t : TankId} {f : Tank → Tank} {s : State} {B : Set ProductId} (h : s.DrawsBut B)
    (current : (s.updTank t f).conditionsCurrent t) :
    (s.updTank t f).DrawsBut (insert (s.tankSet t).product B) := by
  obtain ⟨conditions, chains, mem, ready⟩ := h
  have other {u : TankId} (hu : u ≠ t) : (s.updTank t f).tank u = s.tank u := by rw [tank_updTank, if_neg (Ne.symm hu)]
  refine ⟨fun u => ?_, chains, mem, fun k hk u hu => ?_⟩
  · by_cases e : u = t
    · exact e ▸ current
    · have := conditions u
      simp only [State.conditionsCurrent, other e] at this ⊢
      exact this
  · simp only [Set.mem_insert_iff, not_or] at hk
    have e : u ≠ t := fun e => hk.1 (by rw [← e]; exact (chains k u (mem k u hu)).symm)
    have := ready k hk.2 u hu
    simp only [State.ready, State.tankShows, other e] at this ⊢
    exact this

/-! ## Links and notices -/

/-- A link unit changed, its queue kept within its places. -/
theorem updLink_moves (l : Link) (f : LinkUnit → LinkUnit) {s : State}
    (bounded : (s.link l).queue.length ≤ Config.maxNotices → (f (s.link l)).queue.length ≤ Config.maxNotices) :
    Moves [.links] ∅ s (s.updLink l f) := by
  refine .of_frame rfl rfl (fun x hx => by cases x <;> simp [Part.same] at hx ⊢) fun x _ touched hs => ?_
  cases x <;> simp [Law.parts] at touched
  case queues =>
    intro m
    rw [link_updLink]
    split
    · exact bounded (hs l)
    · exact hs m

theorem postTo_moves (l : Link) (n : Notice) (s : State) : Moves [.links] ∅ s (s.postTo l n) :=
  updLink_moves l _ (enqueue_length _ _ _)

theorem post_moves (n : Notice) (s : State) : Moves [.links] ∅ s (s.post n) :=
  .forEach _ _ (fun l _ s => by split <;> [exact postTo_moves ..; exact .refl ..]) s

theorem postAll_moves (ns : List Notice) (s : State) : Moves [.links] ∅ s (postAll ns s) :=
  .forEach _ _ (fun n _ s => post_moves n s) s

theorem reply_moves (l : Link) (r : Reply) (s : State) : Moves [.links] ∅ s (s.reply l r) :=
  updLink_moves l _ id

/-! ## The clock and the bay -/

theorem reach_moves (instant : Nat) (s : State) : Moves [.clock] ∅ s (s.reach instant) := by
  refine .of_frame (by simp) (by simp) (fun x hx => by cases x <;> simp [Part.same] at hx ⊢) fun x _ touched hs => ?_
  cases x <;> simp [Law.parts] at touched
  case clockFrom n =>
    simp only [Law.holds, State.reach] at hs ⊢
    split <;> [skip; exact hs]
    dsimp only
    omega

theorem changeMode_moves (new : Mode) (source : ModeSource) (s : State) :
    Moves [.mode, .links] ∅ s (changeMode new source s) := by
  have mode : Moves [.mode] ∅ s { s with bay := { s.bay with mode := new } } :=
    .of_untouched rfl rfl (fun x hx => by cases x <;> simp [Part.same] at hx ⊢)
      (by intro x; cases x <;> simp [Law.parts])
  exact (mode.andThen (post_moves ..)).mono (by decide)

theorem wake_moves (source : ModeSource) (s : State) : Moves [.mode, .links] ∅ s (wake source s) := by
  unfold wake
  split <;> [exact changeMode_moves ..; exact .refl ..]

/-! ## The stock marks of an event -/

/-- The exhaustion reports that wait: no law speaks of them. -/
theorem reports_moves (x : List Exhaustion) (s : State) :
    Moves [.reports] ∅ s { s with stock := { s.stock with reports := x } } :=
  .of_untouched rfl rfl (fun x hx => by cases x <;> simp [Part.same] at hx ⊢)
    (by intro x; cases x <;> simp [Law.parts])

theorem tripping_moves (b : Bool) (s : State) :
    Moves [.stockRest] ∅ s { s with stock := { s.stock with tripping := b } } :=
  .of_untouched rfl rfl (fun x hx => by cases x <;> simp [Part.same] at hx ⊢)
    (by intro x; cases x <;> simp [Law.parts])

end Sys2Proof.Machine

/-! # The account unit: its table, its deferred queue, and the laws on them -/

namespace Sys2Proof.Machine

open Sys2Proof

/-! ## Lookups and changes of the table (R107) -/

theorem mem_of_account {s : State} {machine : Nat} {a : Account} (h : s.account machine = some a) :
    a ∈ s.accounts.table ∧ a.machine = machine :=
  ⟨List.mem_of_find?_eq_some h, by simpa using List.find?_some h⟩

/-- In a table in ascending order a machine has one record. -/
theorem eq_of_mem_table {table : List Account} (h : table.Pairwise fun a b => a.machine < b.machine) {a b : Account}
    (ha : a ∈ table) (hb : b ∈ table) (e : a.machine = b.machine) : a = b := by
  induction h with
  | nil => cases ha
  | cons lower _ ih =>
    rcases List.mem_cons.1 ha with ea | ha <;> rcases List.mem_cons.1 hb with eb | hb
    · rw [ea, eb]
    · have := lower b hb; rw [ea] at e; omega
    · have := lower a ha; rw [eb] at e; omega
    · exact ih ha hb

theorem account_of_mem {s : State} (h : s.AccountsOrdered) {a : Account} (ha : a ∈ s.accounts.table) :
    s.account a.machine = some a := by
  cases found : s.account a.machine with
  | none => simpa using List.find?_eq_none.1 found a ha
  | some b =>
    obtain ⟨hb, e⟩ := mem_of_account found
    rw [eq_of_mem_table h.1 hb ha e]

/-- A record with the number of the record it stands for. -/
def Account.numberedAs (a b : Account) : Account := { b with machine := a.machine }

theorem changeAccount_eq (machine : Nat) (f : Account → Account) (table : List Account) :
    changeAccount machine f table = table.map fun a => if a.machine = machine then a.numberedAs (f a) else a := rfl

theorem mem_changeAccount {machine : Nat} {f : Account → Account} {table : List Account} {b : Account} :
    b ∈ changeAccount machine f table ↔
      ∃ a ∈ table, b = if a.machine = machine then a.numberedAs (f a) else a := by
  simp [changeAccount_eq, eq_comm]

@[simp] theorem changeAccount_length (machine : Nat) (f : Account → Account) (table : List Account) :
    (changeAccount machine f table).length = table.length := by simp [changeAccount]

theorem changeAccount_pairwise {machine : Nat} {f : Account → Account} {table : List Account}
    (h : table.Pairwise fun a b => a.machine < b.machine) :
    (changeAccount machine f table).Pairwise fun a b => a.machine < b.machine := by
  have keeps (a : Account) : (if a.machine = machine then a.numberedAs (f a) else a).machine = a.machine := by
    split <;> rfl
  rw [changeAccount_eq, List.pairwise_map]
  simpa only [keeps] using h

theorem insertAccount_pairwise {a : Account} {table : List Account}
    (h : table.Pairwise fun a b => a.machine < b.machine) (fresh : ∀ b ∈ table, b.machine ≠ a.machine) :
    (insertAccount a table).Pairwise fun a b => a.machine < b.machine := by
  induction h with
  | nil => simp [insertAccount]
  | @cons c rest lower sorted ih =>
    have fresh' : ∀ b ∈ rest, b.machine ≠ a.machine := fun b hb => fresh b (List.mem_cons_of_mem _ hb)
    unfold insertAccount
    split
    · next before =>
      refine .cons (fun b hb => ?_) (.cons lower sorted)
      rcases List.mem_cons.1 hb with rfl | hb
      · exact before
      · exact before.trans (lower b hb)
    · next after =>
      refine .cons (fun b hb => ?_) (ih fresh')
      rcases mem_insertAccount.1 hb with rfl | hb
      · have := fresh c (by simp); omega
      · exact lower b hb

theorem insertAccount_length (a : Account) (table : List Account) :
    (insertAccount a table).length = table.length + 1 := by
  induction table with
  | nil => rfl
  | cons b rest ih => unfold insertAccount; split <;> simp [ih]

/-! ## What the computations on an account leave of it -/

@[simp] theorem reevaluate_openSet (a : Account) : (reevaluate a).1.openSet = a.openSet := rfl
@[simp] theorem reevaluate_hourMeter (a : Account) : (reevaluate a).1.hourMeter = a.hourMeter := rfl
@[simp] theorem reevaluate_machine (a : Account) : (reevaluate a).1.machine = a.machine := rfl

@[simp] theorem applyWrite_openSet (now : Nat) (w : AccountWrite) (a : Account) :
    (applyWrite now w a).1.openSet = a.openSet := by cases w <;> rfl

theorem applyWrites_cons (now : Nat) (w : AccountWrite) (ws : List AccountWrite) (a : Account) :
    (applyWrites now (w :: ws) a).1 = (applyWrites now ws (applyWrite now w a).1).1 := rfl

@[simp] theorem applyWrites_openSet (now : Nat) (ws : List AccountWrite) (a : Account) :
    (applyWrites now ws a).1.openSet = a.openSet := by
  induction ws generalizing a with
  | nil => rfl
  | cons w ws ih => rw [applyWrites_cons, ih, applyWrite_openSet]

/-- A write of the hour meter (R112). -/
def AccountWrite.isHour : AccountWrite → Bool
  | .hourMeter _ => true
  | _ => false

theorem applyWrite_hourMeter {now : Nat} {w : AccountWrite} {a : Account} (h : w.isHour = false) :
    (applyWrite now w a).1.hourMeter = a.hourMeter := by
  cases w <;> first | rfl | cases h

theorem applyWrites_hourMeter {now : Nat} {ws : List AccountWrite} {a : Account} (h : ∀ w ∈ ws, w.isHour = false) :
    (applyWrites now ws a).1.hourMeter = a.hourMeter := by
  induction ws generalizing a with
  | nil => rfl
  | cons w ws ih =>
    rw [applyWrites_cons, ih fun w' hw => h w' (by simp [hw]), applyWrite_hourMeter (h w (by simp))]

theorem isHour_of_writesAmong {entries : List DeferredEntry} {w : AccountWrite}
    (h : ∀ e ∈ entries, e.change.code ≠ 4) (hw : w ∈ writesAmong entries) : w.isHour = false := by
  obtain ⟨e, he, hew⟩ := List.mem_filterMap.1 hw
  have := h e he
  cases hc : e.change with
  | delete => simp [hc] at hew
  | write x =>
    simp only [hc, Option.some.injEq] at hew
    subst hew
    cases x <;> first | rfl | simp [hc, DeferredChange.code] at this

/-! ## The laws under a change of the table -/

/-- The laws on accounts. -/
def accountLaws : Set Law := {x | x = .ordered ∨ x = .named ∨ ∃ a, x = .hours a}

theorem setTable_moves (table : List Account) (s : State) : Moves [.table] accountLaws s (s.setTable table) := by
  refine .of_frame rfl rfl (fun x hx => by cases x <;> simp [Part.same, State.setTable] at hx ⊢) fun x hx touched _ => ?_
  cases x <;> simp [Law.parts, accountLaws] at touched hx

theorem setDeferred_moves (queue : List DeferredEntry) (s : State) :
    Moves [.deferred] accountLaws s (s.setDeferred queue) := by
  refine .of_frame rfl rfl (fun x hx => by cases x <;> simp [Part.same, State.setDeferred] at hx ⊢)
    fun x hx touched _ => ?_
  cases x <;> simp [Law.parts, accountLaws] at touched hx

theorem updAccount_ordered {machine : Nat} {f : Account → Account} {s : State} (h : s.AccountsOrdered) :
    (s.updAccount machine f).AccountsOrdered :=
  ⟨changeAccount_pairwise h.1, by simpa [State.updAccount, State.setTable] using h.2⟩

theorem updAccount_hours {machine : Nat} {f : Account → Account} {s : State} {b : Account} (h : s.HoursFrom b)
    (hours : b.machine = machine → ∀ a ∈ s.accounts.table, a.machine = machine →
      ∀ x ∈ b.hourMeter, ∃ y ∈ (f a).hourMeter, x.value ≤ y.value) : (s.updAccount machine f).HoursFrom b := by
  refine ⟨h.1, fun c hc hm => ?_⟩
  obtain ⟨a, ha, rfl⟩ := mem_changeAccount.1 hc
  split at hm
  · next e => rw [if_pos e]; exact hours (hm ▸ e) a ha e
  · next e => rw [if_neg e]; exact h.2 a ha hm

/-- A record of the table changed, its open-order set not emptied and its hour meter not lowered. -/
theorem updAccount_moves {machine : Nat} {f : Account → Account} {s : State}
    (named : ∀ a ∈ s.accounts.table, a.machine = machine → a.openSet ≠ [] → (f a).openSet ≠ [])
    (hours : ∀ b, b.machine = machine → s.HoursFrom b → ∀ a ∈ s.accounts.table, a.machine = machine →
      ∀ x ∈ b.hourMeter, ∃ y ∈ (f a).hourMeter, x.value ≤ y.value) :
    Moves [.table] ∅ s (s.updAccount machine f) := by
  refine (setTable_moves _ s).mend ∅ fun x hx _ hs => ?_
  rcases hx with rfl | rfl | ⟨b, rfl⟩
  · exact updAccount_ordered hs
  · obtain ⟨ho, hl, hu, hn⟩ := hs
    refine ⟨updAccount_ordered ho, hl, hu, fun e he => ?_⟩
    obtain ⟨a, ha, hm, hopen⟩ := hn e he
    refine ⟨_, mem_changeAccount.2 ⟨a, ha, rfl⟩, ?_⟩
    split
    · next h => exact ⟨hm, named a ha h hopen⟩
    · exact ⟨hm, hopen⟩
  · exact updAccount_hours hs fun hb => hours b hb hs

/-- A record removed that no deferred entry names. -/
theorem removeAccount_moves {machine : Nat} {s : State}
    (unnamed : s.DeferredNamed → s.AccountsOrdered → ∀ e ∈ s.accounts.deferred, e.machine ≠ machine) :
    Moves [.table] ∅ s (s.removeAccount machine) := by
  refine (setTable_moves _ s).mend ∅ fun x hx _ hs => ?_
  rcases hx with rfl | rfl | ⟨a, rfl⟩
  · exact ⟨hs.1.filter _, (List.length_filter_le _ _).trans hs.2⟩
  · obtain ⟨ho, hl, hu, hn⟩ := hs
    refine ⟨⟨ho.1.filter _, (List.length_filter_le _ _).trans ho.2⟩, hl, hu, fun e he => ?_⟩
    obtain ⟨a, ha, hm, hopen⟩ := hn e he
    refine ⟨a, List.mem_filter.2 ⟨ha, ?_⟩, hm, hopen⟩
    simpa [hm] using unnamed ⟨hl, hu, hn⟩ ho e he
  · exact ⟨hs.1, fun b hb => hs.2 b (List.mem_of_mem_filter hb)⟩

/-! ## Deferred changes (R139 to R142) -/

/-- The ninth law but for the entries of one machine. -/
def State.DeferredNamedBut (machine : Nat) (s : State) : Prop :=
  s.accounts.deferred.length ≤ Config.maxDeferred ∧
  s.accounts.deferred.Pairwise (fun a b => ¬(a.machine = b.machine ∧ a.change.code = b.change.code)) ∧
  ∀ e ∈ s.accounts.deferred, e.machine ≠ machine → ∃ a ∈ s.accounts.table, a.machine = e.machine ∧ a.openSet ≠ []

/-- The table after a machine's deferred entries are applied (R142). -/
def State.tableApplied (machine : Nat) (s : State) : List Account :=
  let mine := s.accounts.deferred.filter fun e => e.machine = machine
  let written := match s.account machine with
    | none => s.accounts.table
    | some a =>
      changeAccount machine
        (fun _ => (applyWrites s.seconds (writesAmong (mine.filter fun e => e.change ≠ .delete)) a).1) s.accounts.table
  if (mine.filter fun e => e.change = .delete).isEmpty then written else written.filter fun a => a.machine ≠ machine

theorem applyDeferred_frame (machine : Nat) (s : State) :
    Moves [.table, .deferred, .links] accountLaws s (applyDeferred machine s) := by
  unfold applyDeferred
  have posts (ns : List Notice) (es : List DeferredEntry) (t : State) :
      Moves [.links] accountLaws t (postAll ns (forEach es (fun e => State.postTo e.source (.deferredApplied e)) t)) :=
    (((Moves.forEach _ _ (fun e _ t => postTo_moves _ _ t) t).andThen (postAll_moves ns _)).mono (by decide)).weaken _
  have removal (b : Bool) (t : State) : Moves [.table] accountLaws t (if b then t else t.removeAccount machine) := by
    split <;> [exact .refl ..; exact setTable_moves ..]
  dsimp only
  split
  · exact ((setDeferred_moves ..).andThen ((removal ..).andThen (posts ..))).mono (by decide)
  · exact ((setDeferred_moves ..).andThen
      ((setTable_moves ..).andThen ((removal ..).andThen (posts ..)))).mono (by decide)

/-- Posting notices changes nothing but the links. -/
theorem postAll_accounts (ns : List Notice) (s : State) : (postAll ns s).accounts = s.accounts :=
  forEach_keeps ns State.post (fun n s => State.post_accounts s n) s

theorem applyDeferred_accounts (machine : Nat) (s : State) :
    (applyDeferred machine s).accounts =
      { s.accounts with
        table := s.tableApplied machine
        deferred := s.accounts.deferred.filter fun e => e.machine ≠ machine } := by
  unfold applyDeferred State.tableApplied
  have posts (es : List DeferredEntry) (t : State) :
      (forEach es (fun e => State.postTo e.source (.deferredApplied e)) t).accounts = t.accounts :=
    forEach_keeps (g := State.accounts) es (fun e => State.postTo e.source (.deferredApplied e))
      (fun e s => State.postTo_accounts s ..) t
  have lookup : (s.setDeferred (s.accounts.deferred.filter fun e => e.machine ≠ machine)).account machine =
      s.account machine := rfl
  simp only [lookup, postAll_accounts, posts]
  cases s.account machine <;> dsimp only <;> split <;> rfl

theorem tableApplied_pairwise {machine : Nat} {s : State} (h : s.AccountsOrdered) :
    (s.tableApplied machine).Pairwise (fun a b => a.machine < b.machine) ∧
      (s.tableApplied machine).length ≤ Config.maxAccounts := by
  unfold State.tableApplied
  dsimp only
  split <;> split
  · exact h
  · exact ⟨changeAccount_pairwise h.1, by simpa using h.2⟩
  · exact ⟨h.1.filter _, (List.length_filter_le _ _).trans h.2⟩
  · exact ⟨(changeAccount_pairwise h.1).filter _, (List.length_filter_le _ _).trans (by simpa using h.2)⟩

/-- A record of the table applied is one of the table before, or, of the machine itself, that record with the writes
that waited. -/
theorem mem_tableApplied {machine : Nat} {s : State} {b : Account} (hb : b ∈ s.tableApplied machine) :
    b ∈ s.accounts.table ∨
      ∃ a ∈ s.accounts.table, ∃ now ws, a.machine = machine ∧ b.machine = machine ∧
        b.hourMeter = (applyWrites now ws a).1.hourMeter ∧
        ∀ w ∈ ws, ∃ e ∈ s.accounts.deferred, e.machine = machine ∧ e.change = .write w := by
  have written : b ∈ s.accounts.table ∨ ∃ a, s.account machine = some a ∧
      b ∈ changeAccount machine (fun _ => (applyWrites s.seconds (writesAmong
        ((s.accounts.deferred.filter fun e => e.machine = machine).filter fun e => e.change ≠ .delete)) a).1)
          s.accounts.table := by
    unfold State.tableApplied at hb
    dsimp only at hb
    split at hb <;> split at hb
    · exact .inl hb
    · next a ha => exact .inr ⟨a, ha, hb⟩
    · exact .inl (List.mem_of_mem_filter hb)
    · next a ha => exact .inr ⟨a, ha, List.mem_of_mem_filter hb⟩
  refine written.imp_right ?_ |>.elim .inl fun h => h
  rintro ⟨a, ha, hb⟩
  obtain ⟨c, hc, rfl⟩ := mem_changeAccount.1 hb
  split
  · next hm =>
    refine .inr ⟨a, (mem_of_account ha).1, _, _, (mem_of_account ha).2, hm, rfl, fun w hw => ?_⟩
    obtain ⟨e, he, hew⟩ := List.mem_filterMap.1 hw
    have mine := List.mem_filter.1 (List.mem_filter.1 he).1
    refine ⟨e, mine.1, by simpa using mine.2, ?_⟩
    cases hch : e.change with
    | delete => simp [hch] at hew
    | write x => simp only [hch, Option.some.injEq] at hew; rw [hew]
  · exact .inl hc

theorem applyDeferred_ordered {machine : Nat} {s : State} (h : s.AccountsOrdered) :
    (applyDeferred machine s).AccountsOrdered := by
  simpa only [State.AccountsOrdered, applyDeferred_accounts] using tableApplied_pairwise h

/-- R142: the entries that an application takes out of the queue need name no open order. -/
theorem applyDeferred_named {machine : Nat} {s : State} (h : s.DeferredNamedBut machine) :
    (applyDeferred machine s).DeferredNamed := by
  obtain ⟨hl, hu, hn⟩ := h
  simp only [State.DeferredNamed, applyDeferred_accounts]
  refine ⟨(List.length_filter_le _ _).trans hl, hu.filter _, fun e he => ?_⟩
  obtain ⟨he, hm⟩ := List.mem_filter.1 he
  have hm : e.machine ≠ machine := by simpa using hm
  obtain ⟨a, ha, hae, hopen⟩ := hn e he hm
  have other : a.machine ≠ machine := hae ▸ hm
  refine ⟨a, ?_, hae, hopen⟩
  unfold State.tableApplied
  dsimp only
  have changed (f : Account → Account) : a ∈ changeAccount machine f s.accounts.table :=
    mem_changeAccount.2 ⟨a, ha, by rw [if_neg other]⟩
  split <;> split
  · exact ha
  · exact changed _
  · exact List.mem_filter.2 ⟨ha, by simpa using other⟩
  · exact List.mem_filter.2 ⟨changed _, by simpa using other⟩

theorem applyDeferred_hours {machine : Nat} {s : State} {a : Account} (h : s.HoursFrom a) :
    (applyDeferred machine s).HoursFrom a := by
  obtain ⟨hd, ht⟩ := h
  simp only [State.HoursFrom, applyDeferred_accounts]
  refine ⟨fun e he => hd e (List.mem_of_mem_filter he), fun b hb hm => ?_⟩
  rcases mem_tableApplied hb with hb | ⟨c, hc, now, ws, hcm, hbm, hours, hws⟩
  · exact ht b hb hm
  · have unwritten : ∀ w ∈ ws, w.isHour = false := by
      intro w hw
      obtain ⟨e, he, hem, hch⟩ := hws w hw
      have := hd e he (by rw [hem, ← hbm, hm])
      cases w <;> first | rfl | simp [hch, DeferredChange.code] at this
    rw [hours, applyWrites_hourMeter unwritten]
    exact ht c hc (by rw [hcm, ← hbm, hm])

end Sys2Proof.Machine

/-! # Closes, writes and deferrals on accounts; the journal; the pumps -/

namespace Sys2Proof.Machine

open Sys2Proof

/-! ## The close-time updates (R114 to R127) -/

@[simp] theorem addFuel_hourMeter (n : Nat) (a : Account) : (addFuel n a).hourMeter = a.hourMeter := rfl

@[simp] theorem judgeSample_hourMeter (c : ClassRecord) (n : Nat) (a : Account) :
    (judgeSample c n a).hourMeter = a.hourMeter := by
  unfold judgeSample; split <;> rfl

@[simp] theorem fullToFull_hourMeter (c : ClassRecord) (cause : Cause) (ok : Bool) (reading : Option Nat)
    (netDl : Nat) (a : Account) : (fullToFull c cause ok reading netDl a).hourMeter = a.hourMeter := by
  unfold fullToFull
  split
  · split
    · dsimp only
      split
      · split <;> [exact judgeSample_hourMeter ..; rfl]
      · rfl
    · rfl
  · rfl

/-- R116, step 1: the reading of an order taken by its account. -/
def readingTaken (o : Order) (ok : Option Bool) (a : Account) : Account :=
  match ok, o.hours, o.readingTime with
  | some ok, some reading, some time => storeReading ok reading time a
  | _, _, _ => a

/-- R116, steps 2 to 4: what an order of its kind adds to its account. -/
def kindCharged (c : ClassRecord) (o : Order) (netDl : Nat) (cause : Cause) (ok : Option Bool) (a : Account) : Account :=
  match o.kind with
  | .fuel => fullToFull c cause (ok = some true) o.hours netDl (addFuel netDl a)
  | .service => resetLines o.product a
  | .topup => topUpLines o.product netDl a
  | .waste => a

theorem updateAtClose_eq (c : ClassRecord) (o : Order) (netDl : Nat) (cause : Cause) (ok : Option Bool) (a : Account) :
    updateAtClose c o netDl cause ok a = reevaluate (kindCharged c o netDl cause ok (readingTaken o ok a)) := rfl

@[simp] theorem kindCharged_hourMeter (c : ClassRecord) (o : Order) (netDl : Nat) (cause : Cause) (ok : Option Bool)
    (a : Account) : (kindCharged c o netDl cause ok a).hourMeter = a.hourMeter := by
  unfold kindCharged
  cases o.kind <;> simp [resetLines, topUpLines]

/-- R115: the hour meter after a reading is the reading's, when it was plausible, or as it was. -/
theorem readingTaken_hourMeter (o : Order) (ok : Option Bool) (a : Account) :
    (readingTaken o ok a).hourMeter =
      match ok, o.hours, o.readingTime with
      | some true, some reading, some time => some ⟨reading, time⟩
      | _, _, _ => a.hourMeter := by
  unfold readingTaken
  rcases ok with _ | _ | _ <;> cases o.hours <;> cases o.readingTime <;> rfl

/-- R114, R115: what the close of an order leaves of an account's hour meter is no lower. -/
theorem updateAtClose_hours {s : State} {o : Order} {machine : Nat} {a : Account} (hm : o.machine = some machine)
    (ha : s.account machine = some a) (c : ClassRecord) (netDl : Nat) (cause : Cause) :
    ∀ x ∈ a.hourMeter, ∃ y ∈ (updateAtClose c o netDl cause (s.assess o) a).1.hourMeter, x.value ≤ y.value := by
  intro x hx
  rw [updateAtClose_eq, reevaluate_hourMeter, kindCharged_hourMeter, readingTaken_hourMeter]
  split
  · next reading time hok hr ht =>
    refine ⟨_, rfl, ?_⟩
    simp only [State.assess, hm, ha, hr, ht, Option.bind_some] at hok
    split at hok
    · simp only [Option.some.injEq, plausible, Bool.and_eq_true] at hok
      rw [Option.mem_def.1 hx] at hok
      simp only [Bool.and_eq_true, decide_eq_true_eq] at hok
      exact hok.2.1
    · cases hok
  · exact ⟨x, hx, le_rfl⟩

/-- R116: an account as the close of one of its orders leaves it, before the changes that waited. -/
def State.accountClosed (s : State) (o : Order) (netDl : Nat) (cause : Cause) (ok : Option Bool) (a : Account) : Account :=
  let b := (updateAtClose (look s.accounts.classes a.klass) o netDl cause ok a).1
  { b with openSet := b.openSet.filter fun n => n ≠ o.number }

/-- R116: the state once the account's record is updated. -/
theorem closeUpdates_eq {s : State} {o : Order} {machine : Nat} {a : Account} (hm : o.machine = some machine)
    (ha : s.account machine = some a) (hopen : a.openSet.contains o.number = true) (netDl : Nat) (cause : Cause)
    (ok : Option Bool) :
    ∃ ns, closeUpdates o netDl cause ok s =
      postAll ns
        (if (s.accountClosed o netDl cause ok a).openSet.isEmpty then
          applyDeferred machine (s.updAccount machine fun _ => s.accountClosed o netDl cause ok a)
        else s.updAccount machine fun _ => s.accountClosed o netDl cause ok a) := by
  refine ⟨(updateAtClose (look s.accounts.classes a.klass) o netDl cause ok a).2, ?_⟩
  simp only [closeUpdates, hm, ha, hopen, if_true]
  rfl

/-- An order without an account, or that its account's set does not hold, updates nothing. -/
theorem closeUpdates_cases (o : Order) (netDl : Nat) (cause : Cause) (ok : Option Bool) (s : State) :
    closeUpdates o netDl cause ok s = s ∨ ∃ machine a, o.machine = some machine ∧ s.account machine = some a ∧
      a.openSet.contains o.number = true := by
  unfold closeUpdates
  split
  · exact .inl rfl
  next machine hm =>
    split
    · exact .inl rfl
    · next a ha =>
      split
      · next hopen => exact .inr ⟨machine, a, hm, ha, hopen⟩
      · exact .inl rfl

theorem closeUpdates_moves {o : Order} {s t : State} (netDl : Nat) (cause : Cause) (same : t.accounts = s.accounts) :
    Moves [.table, .deferred, .links] ∅ t (closeUpdates o netDl cause (s.assess o) t) := by
  rcases closeUpdates_cases o netDl cause (s.assess o) t with h | ⟨machine, a, hm, ha, hopen⟩
  · rw [h]; exact .refl ..
  obtain ⟨ns, h⟩ := closeUpdates_eq hm ha hopen netDl cause (s.assess o)
  rw [h]
  set b := t.accountClosed o netDl cause (s.assess o) a with hb
  have ha' : s.account machine = some a := by rw [← ha, State.account, State.account, same]
  have hours (x : Account) (hx : x.machine = machine) (hs : t.HoursFrom x) :
      ∀ z ∈ x.hourMeter, ∃ y ∈ b.hourMeter, z.value ≤ y.value := by
    intro z hz
    obtain ⟨y, hy, hzy⟩ := hs.2 a (mem_of_account ha).1 ((mem_of_account ha).2.trans hx.symm) z hz
    obtain ⟨w, hw, hyw⟩ := updateAtClose_hours hm ha' (look t.accounts.classes a.klass) netDl cause y hy
    exact ⟨w, hw, hzy.trans hyw⟩
  by_cases empty : b.openSet.isEmpty = true
  · rw [if_pos empty]
    refine Moves.mono ((Moves.mend (J := accountLaws) ?_ ∅ ?_).andThen (postAll_moves ns _))
      (K := [.table, .deferred, .links] ++ [.links]) (by decide)
    · exact ((setTable_moves ..).andThen (applyDeferred_frame ..)).mono (by decide)
    · intro x hx _ hs
      rcases hx with rfl | rfl | ⟨x, rfl⟩
      · exact applyDeferred_ordered (updAccount_ordered hs)
      · obtain ⟨ho, hl, hu, hn⟩ := hs
        refine ⟨applyDeferred_ordered (updAccount_ordered ho), applyDeferred_named ⟨hl, hu, fun e he other => ?_⟩⟩
        obtain ⟨c, hc, hce, hcopen⟩ := hn e he
        exact ⟨c, mem_changeAccount.2 ⟨c, hc, by rw [if_neg (hce ▸ other)]⟩, hce, hcopen⟩
      · exact applyDeferred_hours (updAccount_hours hs fun hx _ _ _ => hours x hx hs)
  · rw [if_neg empty]
    refine ((updAccount_moves (fun _ _ _ _ => by simpa using empty) fun x hx hs _ _ _ => hours x hx hs).andThen
      (postAll_moves ns _)).mono (by decide)

/-! ## Writes (R112) and open-order sets (R22) -/

/-- The tenth law for the accounts of one machine. -/
def hoursOf (machine : Nat) : Set Law := {x | ∃ a, a.machine = machine ∧ x = .hours a}

theorem writeNow_moves {machine : Nat} {ws : List AccountWrite} {H : Set Law} (s : State)
    (hours : (∀ w ∈ ws, w.isHour = false) ∨ hoursOf machine ⊆ H) :
    Moves [.table, .links] H s (writeNow machine ws s) := by
  unfold writeNow
  split
  · exact .refl ..
  next a ha =>
    refine Moves.mono ((Moves.mend (J := accountLaws) (setTable_moves ..) H fun x hx hH hs => ?_).andThen
      ((postAll_moves _ _).weaken H)) (by decide)
    rcases hx with rfl | rfl | ⟨b, rfl⟩
    · exact updAccount_ordered hs
    · obtain ⟨ho, hl, hu, hn⟩ := hs
      refine ⟨updAccount_ordered ho, hl, hu, fun e he => ?_⟩
      obtain ⟨c, hc, hm, hopen⟩ := hn e he
      refine ⟨_, mem_changeAccount.2 ⟨c, hc, rfl⟩, ?_⟩
      split
      · next h =>
        refine ⟨hm, ?_⟩
        have : c = a := eq_of_mem_table ho.1 hc (mem_of_account ha).1 (h.trans (mem_of_account ha).2.symm)
        simpa [Account.numberedAs, ← this] using hopen
      · exact ⟨hm, hopen⟩
    · refine updAccount_hours hs fun hb _ _ _ => ?_
      rcases hours with unwritten | hsub
      · rw [applyWrites_hourMeter unwritten]
        exact hs.2 a (mem_of_account ha).1 ((mem_of_account ha).2.trans hb.symm)
      · exact absurd (hsub ⟨b, hb, rfl⟩) hH

theorem joinOpenSet_moves (machine number : Nat) (s : State) :
    Moves [.table] ∅ s (joinOpenSet machine number s) :=
  updAccount_moves (fun _ _ _ _ => by simp) fun b hb hs a ha hm => hs.2 a ha (hm.trans hb.symm)

theorem shiftChange_moves (s : State) : Moves [.table, .accountsRest] ∅ s (shiftChange s) := by
  refine .of_frame rfl rfl (fun x hx => by cases x <;> simp [Part.same, shiftChange] at hx ⊢) fun x _ touched hs => ?_
  have sorted (h : s.AccountsOrdered) : (shiftChange s).AccountsOrdered :=
    ⟨by simpa [shiftChange, List.pairwise_map] using h.1, by simpa [shiftChange] using h.2⟩
  cases x <;> simp [Law.parts] at touched
  case ordered => exact sorted hs
  case named =>
    obtain ⟨ho, hl, hu, hn⟩ := hs
    refine ⟨sorted ho, hl, hu, fun e he => ?_⟩
    obtain ⟨a, ha, h⟩ := hn e he
    exact ⟨{ a with shiftUsed := 0 }, List.mem_map_of_mem ha, h⟩
  case hours b =>
    refine ⟨hs.1, fun c hc => ?_⟩
    obtain ⟨a, ha, rfl⟩ := List.mem_map.1 hc
    exact hs.2 a ha

/-- R108: a new record put in its place. -/
theorem insertAccount_moves {a : Account} {s : State} (fresh : s.account a.machine = none)
    (room : s.accounts.table.length < Config.maxAccounts) :
    Moves [.table] (hoursOf a.machine) s (s.setTable (insertAccount a s.accounts.table)) := by
  refine (setTable_moves _ s).mend _ fun x hx hH hs => ?_
  have sorted (h : s.AccountsOrdered) : (s.setTable (insertAccount a s.accounts.table)).AccountsOrdered := by
    refine ⟨insertAccount_pairwise h.1 fun b hb e => ?_, ?_⟩
    · rw [← e, account_of_mem h hb] at fresh; cases fresh
    · simp only [State.setTable, insertAccount_length]; omega
  rcases hx with rfl | rfl | ⟨b, rfl⟩
  · exact sorted hs
  · obtain ⟨ho, hl, hu, hn⟩ := hs
    refine ⟨sorted ho, hl, hu, fun e he => ?_⟩
    obtain ⟨c, hc, h⟩ := hn e he
    exact ⟨c, mem_insertAccount.2 (.inr hc), h⟩
  · refine ⟨hs.1, fun c hc hm => ?_⟩
    rcases mem_insertAccount.1 hc with rfl | hc
    · exact absurd ⟨b, hm.symm, rfl⟩ hH
    · exact hs.2 c hc hm

/-! ## Deferrals (R139, R140) -/

/-- The key of a deferred entry: its machine and its field (R139). -/
def DeferredEntry.key (e : DeferredEntry) : Nat × Nat := (e.machine, e.change.code)

theorem sameAs_iff {machine : Nat} {c : DeferredChange} {e : DeferredEntry} :
    e.sameAs machine c = true ↔ e.key = (machine, c.code) := by
  simp [DeferredEntry.sameAs, DeferredEntry.key, Prod.ext_iff]

theorem mem_mergeDeferred {e x : DeferredEntry} {queue : List DeferredEntry} (h : x ∈ mergeDeferred e queue) :
    x = e ∨ x ∈ queue := by
  unfold mergeDeferred at h
  split at h
  · obtain ⟨y, hy, rfl⟩ := List.mem_map.1 h
    split
    · exact .inl rfl
    · exact .inr hy
  · rcases List.mem_append.1 h with h | h
    · exact .inr h
    · exact .inl (List.mem_singleton.1 h)

/-- R140: the fields that wait for machines after a merge: those that waited, and the entry's at the tail when it did
not. -/
theorem mergeDeferred_keys (e : DeferredEntry) (queue : List DeferredEntry) :
    (mergeDeferred e queue).map DeferredEntry.key =
      if queue.any (DeferredEntry.sameAs e.machine e.change) then queue.map DeferredEntry.key
      else queue.map DeferredEntry.key ++ [e.key] := by
  unfold mergeDeferred
  split
  · rw [List.map_map]
    refine List.map_congr_left fun y _ => ?_
    simp only [Function.comp]
    split
    · next h => exact (sameAs_iff.1 h).symm
    · rfl
  · simp

theorem any_sameAs_iff {machine : Nat} {c : DeferredChange} {queue : List DeferredEntry} :
    queue.any (DeferredEntry.sameAs machine c) = true ↔ (machine, c.code) ∈ queue.map DeferredEntry.key := by
  simp [List.any_eq_true, sameAs_iff]

theorem mergeDeferred_nodup {e : DeferredEntry} {queue : List DeferredEntry} (h : (queue.map DeferredEntry.key).Nodup) :
    ((mergeDeferred e queue).map DeferredEntry.key).Nodup := by
  rw [mergeDeferred_keys]
  split
  · exact h
  · next fresh =>
    rw [any_sameAs_iff] at fresh
    refine List.nodup_append.2 ⟨h, by simp, fun x hx y hy e' => fresh ?_⟩
    rw [List.mem_singleton.1 hy] at e'
    exact (e' ▸ hx : e.key ∈ _)

/-- R140: merging changes one by one takes no more new places than were counted. -/
theorem foldl_mergeDeferred_length (machine : Nat) (source : Link) (changes : List DeferredChange)
    (queue : List DeferredEntry) :
    (changes.foldl (fun q c => mergeDeferred ⟨machine, c, source⟩ q) queue).length ≤
      queue.length + newPlaces machine changes queue := by
  induction changes generalizing queue with
  | nil => simp
  | cons c rest ih =>
    have later := ih (mergeDeferred ⟨machine, c, source⟩ queue)
    rw [List.foldl_cons]
    have keys := mergeDeferred_keys ⟨machine, c, source⟩ queue
    have grown : (mergeDeferred ⟨machine, c, source⟩ queue).length =
        queue.length + if queue.any (DeferredEntry.sameAs machine c) then 0 else 1 := by
      have := congrArg List.length keys
      rw [List.length_map] at this
      rw [this]
      split <;> simp
    have fewer : newPlaces machine rest (mergeDeferred ⟨machine, c, source⟩ queue) ≤ newPlaces machine rest queue := by
      refine List.countP_mono_left fun d _ hd => ?_
      simp only [Bool.not_eq_true', ← Bool.not_eq_true, any_sameAs_iff] at hd ⊢
      intro waits
      apply hd
      rw [keys]
      split
      · exact waits
      · exact List.mem_append_left _ waits
    have count : newPlaces machine (c :: rest) queue =
        newPlaces machine rest queue + if queue.any (DeferredEntry.sameAs machine c) then 0 else 1 := by
      simp only [newPlaces, List.countP_cons, Bool.not_eq_true']
      cases queue.any (DeferredEntry.sameAs machine c) <;> rfl
    omega

theorem deferChanges_foldl {machine : Nat} {changes : List DeferredChange} {source : Link}
    {queue queue' : List DeferredEntry} (P : List DeferredEntry → Prop) (h : P queue)
    (step : ∀ c ∈ changes, ∀ q, P q → P (mergeDeferred ⟨machine, c, source⟩ q))
    (hq : deferChanges machine changes source queue = some queue') : P queue' := by
  unfold deferChanges at hq
  split at hq
  · cases hq
  · next room =>
    simp only [Option.some.injEq] at hq
    rw [← hq]
    clear hq room
    induction changes generalizing queue with
    | nil => exact h
    | cons c rest ih =>
      exact ih (step c (by simp) _ h) fun d hd => step d (by simp [hd])

theorem deferChanges_length {machine : Nat} {changes : List DeferredChange} {source : Link}
    {queue queue' : List DeferredEntry} (hq : deferChanges machine changes source queue = some queue') :
    queue'.length ≤ Config.maxDeferred := by
  unfold deferChanges at hq
  split at hq
  · cases hq
  · next room =>
    simp only [Option.some.injEq] at hq
    rw [← hq]
    have := foldl_mergeDeferred_length machine source changes queue
    omega

theorem nodup_keys_iff (queue : List DeferredEntry) :
    (queue.map DeferredEntry.key).Nodup ↔
      queue.Pairwise (fun a b => ¬(a.machine = b.machine ∧ a.change.code = b.change.code)) := by
  simp [List.Nodup, List.pairwise_map, DeferredEntry.key]

/-- R140: changes deferred for an account with an open order. -/
theorem deferChanges_moves {machine : Nat} {changes : List DeferredChange} {source : Link} {s : State} {a : Account}
    {queue : List DeferredEntry} {H : Set Law} (ha : a ∈ s.accounts.table) (hm : a.machine = machine) (hopen : a.openSet ≠ [])
    (hq : deferChanges machine changes source s.accounts.deferred = some queue)
    (hours : (∀ c ∈ changes, c.code ≠ 4) ∨ hoursOf machine ⊆ H) :
    Moves [.deferred] H s (s.setDeferred queue) := by
  refine (setDeferred_moves queue s).mend H fun x hx hH hs => ?_
  have entry : ∀ e ∈ queue, e ∈ s.accounts.deferred ∨ e.machine = machine ∧ e.change ∈ changes := by
    refine deferChanges_foldl (P := fun q => ∀ e ∈ q, e ∈ s.accounts.deferred ∨ e.machine = machine ∧ e.change ∈ changes)
      (fun e he => .inl he) (fun c hc q hP e he => ?_) hq
    rcases mem_mergeDeferred he with rfl | he
    · exact .inr ⟨rfl, hc⟩
    · exact hP e he
  rcases hx with rfl | rfl | ⟨b, rfl⟩
  · exact hs
  · obtain ⟨ho, hl, hu, hn⟩ := hs
    refine ⟨ho, deferChanges_length hq, ?_, fun e he => ?_⟩
    · rw [← nodup_keys_iff] at hu
      exact (nodup_keys_iff _).1
        (deferChanges_foldl (fun q => (q.map DeferredEntry.key).Nodup) hu (fun c _ q => mergeDeferred_nodup) hq)
    · rcases entry e he with he | ⟨hme, -⟩
      · exact hn e he
      · exact ⟨a, ha, hm.trans hme.symm, hopen⟩
  · refine ⟨fun e he hmb => ?_, hs.2⟩
    rcases entry e he with he | ⟨hme, hc⟩
    · exact hs.1 e he hmb
    · rcases hours with none | hsub
      · exact none _ hc
      · exact absurd (hsub ⟨b, hmb.symm.trans hme, rfl⟩) hH

end Sys2Proof.Machine

/-! # What the journal, the pumps and the stock unit move -/

namespace Sys2Proof.Machine

open Sys2Proof

/-! ## The journal (R169 to R176) -/

/-- A journal changed, with what the laws on operations and records ask of the change. -/
theorem journal_moves {s : State} (j : Journal) {H : Set Law}
    (reserve : .reserve ∉ H → s.ReserveHeld → j.openCount = s.journal.openCount ∧
      j.reserve ≤ s.journal.reserve)
    (held : ∀ r ∈ j.held, r ∈ s.journal.held ∨ r.entriesSum ∨ .entries ∈ H) :
    Moves [.journal] H s { s with journal := j } := by
  refine .of_frame rfl rfl (fun x hx => by cases x <;> simp [Part.same] at hx ⊢) fun x hx touched hs => ?_
  cases x <;> simp [Law.parts] at touched
  case reserve =>
    obtain ⟨count, most, strict⟩ := hs
    obtain ⟨count', less⟩ := reserve hx ⟨count, most, strict⟩
    exact ⟨count'.trans count, less.trans most, fun c => less.trans_lt (strict c)⟩
  case entries =>
    obtain ⟨run, hc, ho, hr⟩ := hs
    refine ⟨run, hc, ho, fun r mem => ?_⟩
    rcases held r mem with old | sums | broken
    · exact hr r old
    · exact sums
    · exact absurd broken hx

theorem takeOrderNumber_moves (s : State) : Moves [.journal] ∅ s (takeOrderNumber s) :=
  journal_moves _ (fun _ _ => ⟨rfl, le_rfl⟩) fun _ mem => .inl mem

theorem countOpen_moves (s : State) : Moves [.journal] {.reserve} s (countOpen s) :=
  journal_moves _ (fun h => absurd rfl h) fun _ mem => .inl mem

theorem releaseTo_moves (p : Nat) (s : State) : Moves [.journal] ∅ s (releaseTo p s) :=
  journal_moves _ (fun _ _ => ⟨rfl, by simp only [Journal.reserve]; omega⟩) fun _ mem => .inl mem

theorem mem_ringAfter {held : List Record} {r x : Record} (h : x ∈ ringAfter held r) : x ∈ held ∨ x = r := by
  unfold ringAfter at h
  rcases List.mem_append.1 h with h | h
  · split at h
    · exact .inl h
    · exact .inl (List.mem_of_mem_drop h)
  · exact .inr (List.mem_singleton.1 h)

theorem journalWrite_moves {record : Nat → Record} {s : State} (wasOpen : Bool) {H : Set Law}
    (sums : (record s.journal.nextPosition).entriesSum ∨ .entries ∈ H) (reserve : .reserve ∈ H) :
    Moves [.journal] H s (journalWrite record wasOpen s) :=
  journal_moves _ (fun h => absurd reserve h) fun r mem => by
    rcases mem_ringAfter mem with old | rfl
    · exact .inl old
    · exact .inr sums

/-- A flag changed that keeps the seventh law. -/
theorem curtailed_moves {s : State} (b : Bool) (h : s.ReserveHeld → b = false → s.journal.reserve < Config.curtailAt) :
    Moves [.curtailed] ∅ s { s with bay := { s.bay with curtailed := b } } := by
  refine .of_frame rfl rfl (fun x hx => by cases x <;> simp [Part.same] at hx ⊢) fun x _ touched hs => ?_
  cases x <;> simp [Law.parts] at touched
  case reserve => exact ⟨hs.1, hs.2.1, h hs⟩

theorem judgeCurtail_moves (s : State) : Moves [.curtailed, .links] ∅ s (judgeCurtail s) := by
  unfold judgeCurtail
  split
  · exact ((curtailed_moves true fun _ h => by cases h).andThen (post_moves ..)).mono (by decide)
  · exact .refl ..

theorem judgeLift_moves (s : State) : Moves [.curtailed, .links] ∅ s (judgeLift s) := by
  unfold judgeLift
  split
  · next h =>
    refine ((curtailed_moves false fun _ _ => ?_).andThen (post_moves ..)).mono (by decide)
    simp only [Config.curtailLiftBelow, Config.curtailAt] at h ⊢
    omega
  · exact .refl ..

/-! ## The pumps (chapter 3) -/

@[simp] theorem PumpUnit.off_state (u : PumpUnit) : u.off.state = .off := rfl
@[simp] theorem PumpUnit.holding_state (due : Nat) (u : PumpUnit) : (u.holding due).state = .holding := rfl
@[simp] theorem PumpUnit.running_state (u : PumpUnit) : u.running.state = .running := rfl
@[simp] theorem PumpUnit.starting_state (due : Nat) (u : PumpUnit) : (u.starting due).state = .starting := rfl
@[simp] theorem PumpUnit.faulted_state (u : PumpUnit) : u.faulted.state = .faulted := rfl
@[simp] theorem PumpUnit.restarted_state (b : Bool) : (PumpUnit.restarted b).state = .off := rfl

/-- The pump manager changed, at most one pump STARTING as before. -/
theorem pumps_moves {s : State} (x : PumpManager)
    (h : s.OneStarting → ∀ m n, (look x.units m).state = .starting → (look x.units n).state = .starting → m = n) :
    Moves [.pumps] ∅ s { s with pumps := x } := by
  refine .of_frame rfl rfl (fun x hx => by cases x <;> simp [Part.same] at hx ⊢) fun x _ touched hs => ?_
  cases x <;> simp [Law.parts] at touched
  case starting => exact h hs

theorem updPump_moves (m : PumpId) (f : PumpUnit → PumpUnit) {s : State}
    (h : (f (s.pump m)).state = .starting → (s.pump m).state = .starting) : Moves [.pumps] ∅ s (s.updPump m f) := by
  have starting (n : PumpId) (hn : (look (adjust s.pumps.units m f) n).state = .starting) :
      (s.pump n).state = .starting := by
    rw [look_adjust] at hn
    split at hn
    · next e => subst e; exact h hn
    · exact hn
  exact pumps_moves _ fun hs n n' hn hn' => hs n n' (starting n hn) (starting n' hn')

theorem setQueue_moves (queue : List PumpId) (s : State) : Moves [.pumps] ∅ s (s.setQueue queue) :=
  pumps_moves _ fun hs => hs

theorem setSupplyReady_moves (level : Bool) (s : State) : Moves [.pumps] ∅ s (s.setSupplyReady level) :=
  pumps_moves _ fun hs => hs

theorem anyStarting_eq_false_iff (s : State) : s.anyStarting = false ↔ ∀ m, (s.pump m).state ≠ .starting := by
  simp only [State.anyStarting, List.any_eq_false, decide_eq_true_eq]
  exact ⟨fun h m => h m (by fin_cases m <;> decide), fun h m _ => h m⟩

theorem startHead_moves (s : State) : Moves [.pumps] ∅ s (startHead s) := by
  unfold startHead
  split
  · exact .refl ..
  next m rest _ =>
    split
    · next h =>
      refine pumps_moves _ fun _ n n' hn hn' => ?_
      have only (n : PumpId) (hn : (look (adjust s.pumps.units m (PumpUnit.starting (s.after (s.pumpSet m).startTime)))
          n).state = .starting) : m = n := by
        rw [look_adjust] at hn
        split at hn
        · assumption
        · exact absurd hn ((anyStarting_eq_false_iff s).1 h.1 n)
      exact (only n hn).symm.trans (only n' hn')
    · exact .refl ..

theorem holdOrOff_moves (m : PumpId) (s : State) : Moves [.pumps] ∅ s (holdOrOff m s) :=
  updPump_moves m _ (by split <;> simp)

theorem enqueuePump_moves (m : PumpId) (s : State) : Moves [.pumps] ∅ s (enqueuePump m s) :=
  ((updPump_moves m _ (by simp)).andThen ((setQueue_moves ..).andThen (startHead_moves _))).mono (by decide)

theorem claimPump_moves (p : PointId) (m : PumpId) (s : State) : Moves [.pumps] ∅ s (claimPump p m s) := by
  have claim : Moves [.pumps] ∅ s (s.updPump m fun u => { u with claims := addClaim p u.claims }) :=
    updPump_moves m _ id
  unfold claimPump
  dsimp only
  split
  · split
    · exact (claim.andThen (updPump_moves m _ (by simp))).mono (by decide)
    · exact (claim.andThen (enqueuePump_moves ..)).mono (by decide)
  · exact (claim.andThen (updPump_moves m _ (by simp))).mono (by decide)
  all_goals exact claim

theorem releasePump_moves (p : PointId) (m : PumpId) (s : State) : Moves [.pumps] ∅ s (releasePump p m s) := by
  unfold releasePump
  dsimp only
  split <;> [skip; exact .refl ..]
  have release : Moves [.pumps] ∅ s (s.updPump m fun u => { u with claims := (s.pump m).claims.filter (· ≠ p) }) :=
    updPump_moves m _ id
  split <;> [skip; exact release]
  split
  · exact (release.andThen ((updPump_moves m _ (by simp)).andThen
      ((setQueue_moves ..).andThen (startHead_moves _)))).mono (by decide)
  · exact (release.andThen (holdOrOff_moves ..)).mono (by decide)
  all_goals exact release

theorem completeStart_moves (m : PumpId) (s : State) : Moves [.pumps] ∅ s (completeStart m s) := by
  unfold completeStart
  split
  · exact ((holdOrOff_moves ..).andThen (startHead_moves _)).mono (by decide)
  · exact ((updPump_moves m _ (by simp)).andThen (startHead_moves _)).mono (by decide)

theorem faultPump_moves (m : PumpId) (s : State) : Moves [.pumps] ∅ s (faultPump m s) := by
  unfold faultPump
  split
  · exact .refl ..
  · exact .refl ..
  all_goals
    exact ((updPump_moves m _ (by simp)).andThen ((setQueue_moves ..).andThen (startHead_moves _))).mono (by decide)

theorem pumpFaultInactiveEvent_moves (m : PumpId) (s : State) : Moves [.pumps] ∅ s (pumpFaultInactiveEvent m s) := by
  have line : Moves [.pumps] ∅ s (s.updPump m fun u => { u with faultLine := false }) := updPump_moves m _ id
  unfold pumpFaultInactiveEvent
  dsimp only
  split <;> [skip; exact .refl ..]
  split
  · split
    · exact (line.andThen (updPump_moves m _ (by simp))).mono (by decide)
    · exact (line.andThen (enqueuePump_moves ..)).mono (by decide)
  all_goals exact line

theorem supplyReadyActiveEvent_moves (s : State) : Moves [.pumps] ∅ s (supplyReadyActiveEvent s) := by
  unfold supplyReadyActiveEvent
  split
  · exact .refl ..
  · exact ((setSupplyReady_moves ..).andThen (startHead_moves _)).mono (by decide)

/-- Every pump changed by one function that starts none. -/
theorem mapPumps_moves (f : PumpUnit → PumpUnit) (queue : List PumpId) {s : State}
    (h : ∀ u : PumpUnit, (f u).state = .starting → u.state = .starting) :
    Moves [.pumps] ∅ s
      { s with pumps := { units := mapTable s.pumps.units f, queue := queue, supplyReady := s.pumps.supplyReady } } :=
  pumps_moves _ fun hs m n hm hn => by
    simp only [look_mapTable] at hm hn
    exact hs m n (h _ hm) (h _ hn)

theorem bayTripPumps_moves (s : State) : Moves [.pumps] ∅ s (bayTripPumps s) := mapPumps_moves _ _ (by simp)

theorem standbyPumps_moves (s : State) : Moves [.pumps] ∅ s (standbyPumps s) :=
  mapPumps_moves _ _ fun u h => by
    split at h
    · cases h
    · exact h

theorem restartPumps_moves (s : State) : Moves [.pumps] ∅ s (restartPumps s) := mapPumps_moves _ _ (by simp)

theorem holdTimerEvent_moves (m : PumpId) (s : State) : Moves [.clock, .pumps] ∅ s (holdTimerEvent m s) := by
  unfold holdTimerEvent
  split
  · exact ((reach_moves ..).andThen (updPump_moves m _ (by simp))).mono (by decide)
  · exact .refl ..

end Sys2Proof.Machine

/-! # What the stock unit moves: chain checks, postings, gauges -/

namespace Sys2Proof.Machine

open Sys2Proof

/-! ## What is read off the tanks, the latches and the settings -/

theorem productSet_of_same {s t : State} (h : Part.products.same s t) : t.productSet = s.productSet := by
  funext k; simp only [State.productSet, show t.store.products = s.store.products from h]

theorem tankSet_of_same {s t : State} (h : Part.tankSets.same s t) : t.tankSet = s.tankSet := by
  funext k; simp only [State.tankSet, show t.store.tanks = s.store.tanks from h]

theorem tank_of_same {s t : State} (h : Part.tanks.same s t) : t.tank = s.tank := by
  funext k; simp only [State.tank, show t.stock.tanks = s.stock.tanks from h]

theorem latch_of_same {s t : State} (h : Part.latches.same s t) : t.latch = s.latch := by
  obtain ⟨hp, hb, ha⟩ := h
  funext x
  cases x <;> simp only [State.latch, hp, hb, ha]

theorem isSet_of_same {s t : State} (h : Part.latches.same s t) : t.isSet = s.isSet := by
  funext x
  unfold State.isSet
  rw [latch_of_same h]

theorem isWaste_of_same {s t : State} (h : Part.products.same s t) : t.isWaste = s.isWaste := by
  funext k
  unfold State.isWaste
  rw [productSet_of_same h]

theorem tankTripped_of_same {s t : State} (latches : Part.latches.same s t) (sets : Part.tankSets.same s t) :
    t.tankTripped = s.tankTripped := by
  funext k
  unfold State.tankTripped
  rw [isSet_of_same latches, tankSet_of_same sets]

theorem tankShows_of_same {s t : State} (tanks : Part.tanks.same s t) (latches : Part.latches.same s t)
    (sets : Part.tankSets.same s t) : t.tankShows = s.tankShows := by
  funext k
  unfold State.tankShows
  rw [tankTripped_of_same latches sets, tankSet_of_same sets, tank_of_same tanks]

theorem ready_of_same {s t : State} (tanks : Part.tanks.same s t) (latches : Part.latches.same s t)
    (sets : Part.tankSets.same s t) : t.ready = s.ready := by
  funext k
  unfold State.ready
  rw [tankShows_of_same tanks latches sets, tank_of_same tanks]

theorem conditionsCurrent_of_same {s t : State} (tanks : Part.tanks.same s t) (products : Part.products.same s t)
    (sets : Part.tankSets.same s t) : t.conditionsCurrent = s.conditionsCurrent := by
  funext k
  unfold State.conditionsCurrent
  rw [tank_of_same tanks, tankSet_of_same sets, isWaste_of_same products]

/-! ## Chain checks (R69, R70) -/

theorem ready_of_eligible {s : State} {k : ProductId} {t : TankId} (h : s.eligible k t = true) : s.ready t = true := by
  simp only [State.eligible, Bool.and_eq_true] at h
  exact h.1

theorem firstEligible_some {s : State} {k : ProductId} {tanks : List TankId} {t : TankId}
    (h : s.firstEligible k tanks = some t) : t ∈ tanks ∧ s.eligible k t = true :=
  ⟨List.mem_of_find?_eq_some h, List.find?_some h⟩

theorem mem_chainAfter {t u : TankId} {chain : List TankId} (h : u ∈ chainAfter t chain) : u ∈ chain ∨ u = t := by
  simp only [chainAfter, List.mem_append, List.mem_singleton] at h
  rcases h with (h | h) | h
  · exact .inl ((List.dropWhile_sublist _).subset (List.mem_of_mem_drop h))
  · exact .inl ((List.takeWhile_sublist _).subset h)
  · exact .inr h

/-- R69: a check gives an eligible tank of the chain. -/
theorem drawAfter_some {s : State} {k : ProductId} {fromStart : Bool} {t : TankId}
    (mem : ∀ t ∈ (s.draw k).current, t ∈ (s.productSet k).chain) (h : s.drawAfter k fromStart = some t) :
    t ∈ (s.productSet k).chain ∧ s.eligible k t = true := by
  unfold State.drawAfter at h
  dsimp only at h
  split at h
  · exact firstEligible_some h
  next old hold =>
    split_ifs at h with start stays
    · exact firstEligible_some h
    · cases h
      simp only [Bool.and_eq_true, List.contains_iff_mem] at stays
      exact stays
    · obtain ⟨hm, he⟩ := firstEligible_some h
      rcases mem_chainAfter hm with hm | rfl
      · exact ⟨hm, he⟩
      · exact ⟨mem _ hold, he⟩

/-- R70: a product's draw tank moved, the old one kept as the last. -/
def Draw.moved (d : Draw) (new : Option TankId) : Draw :=
  ⟨new, if d.current = new then d.last else d.current.or d.last⟩

theorem draw_updDraw (s : State) (k j : ProductId) (f : Draw → Draw) :
    (State.updDraw k f s).draw j = if k = j then f (s.draw k) else s.draw j := look_adjust ..

theorem moveDraw_frame (k : ProductId) (new : Option TankId) (s : State) :
    Moves [.draws, .reports, .links] (insert .entries drawLaws) s (moveDraw k new s) := by
  have upd (f : Draw → Draw) : Moves [.draws] (insert .entries drawLaws) s (s.updDraw k f) :=
    .of_frame rfl rfl (fun x hx => by cases x <;> simp [Part.same] at hx ⊢) fun x hx touched _ => by
      cases x <;> simp [Law.parts, drawLaws] at touched hx
  unfold moveDraw
  split
  · split
    · exact .refl ..
    · exact ((upd _).andThen ((post_moves ..).weaken _)).mono (by decide)
  · exact ((upd _).andThen ((post_moves ..).weaken _)).mono (by decide)
  · exact ((upd _).andThen (((post_moves ..).weaken _).andThen ((reports_moves ..).weaken _))).mono (by decide)
  · exact .refl ..

/-- R70: what a move leaves of the draw tanks. -/
theorem moveDraw_draw (k j : ProductId) (new : Option TankId) (s : State) :
    (moveDraw k new s).draw j = if k = j then (s.draw k).moved new else s.draw j := by
  have posted (n : Notice) (t : State) : (t.post n).draw j = t.draw j := by simp [State.draw]
  have eta : ∀ d : Draw, d = ⟨d.current, d.last⟩ := fun _ => rfl
  unfold moveDraw Draw.moved
  split
  · next old t hold =>
    split
    · next e => subst e; split <;> [(next h => subst h; rw [eta (s.draw k), hold]); rfl]
    · next e => rw [posted, draw_updDraw]; simp [hold, e]
  · next t hold => rw [posted, draw_updDraw]; simp [hold]
  · next old hold =>
    change (State.post _ _).draw j = _
    rw [posted, draw_updDraw]; simp [hold]
  · next hold => split <;> [(next h => subst h; rw [eta (s.draw k), hold]); rfl]

theorem chainCheck_draw (k j : ProductId) (fromStart : Bool) (s : State) :
    (chainCheck k fromStart s).draw j = if k = j then (s.draw k).moved (s.drawAfter k fromStart) else s.draw j :=
  moveDraw_draw ..

/-- R69: a chain check mends its own product, and no other product's draw tank moves. -/
theorem chainCheck_drawsBut {k : ProductId} {s : State} {B : Set ProductId} (fromStart : Bool) (h : s.DrawsBut B) :
    (chainCheck k fromStart s).DrawsBut (B \ {k}) := by
  obtain ⟨conditions, chains, mem, ready⟩ := h
  have frame := moveDraw_frame k (s.drawAfter k fromStart) s
  have tanks : (chainCheck k fromStart s).stock.tanks = s.stock.tanks := frame.same .tanks
  have products : (chainCheck k fromStart s).store.products = s.store.products := frame.same .products
  have sets : (chainCheck k fromStart s).store.tanks = s.store.tanks := frame.same .tankSets
  have latches : Part.latches.same s (chainCheck k fromStart s) := frame.same .latches
  rw [State.DrawsBut, conditionsCurrent_of_same tanks products sets, productSet_of_same products,
    tankSet_of_same sets, ready_of_same tanks latches sets]
  refine ⟨conditions, chains, fun j t ht => ?_, fun j hj t ht => ?_⟩ <;> rw [chainCheck_draw] at ht <;> split at ht
  · next e => subst e; exact (drawAfter_some (mem k) ht).1
  · exact mem j t ht
  · next e => subst e; exact ready_of_eligible (drawAfter_some (mem k) ht).2
  · next e => exact ready j (fun hB => hj ⟨hB, Ne.symm e⟩) t ht

/-- R72: a window goes to the draw tank, or to the last one. -/
theorem postingTank_eq (s : State) (k : ProductId) : s.postingTank k = (s.draw k).current.or (s.draw k).last := by
  unfold State.postingTank
  cases (s.draw k).current <;> rfl

theorem chainCheck_moves (k : ProductId) (fromStart : Bool) (s : State) :
    Moves [.draws, .reports, .links] ∅ s (chainCheck k fromStart s) := by
  have frame := moveDraw_frame k (s.drawAfter k fromStart) s
  refine frame.mend ∅ fun x hx _ hs => ?_
  rcases hx with rfl | ⟨B, rfl⟩
  · obtain ⟨run, chains, orders, records⟩ := hs
    have points : (moveDraw k (s.drawAfter k fromStart) s).point = s.point := by
      funext p; simp only [State.point, show (moveDraw k (s.drawAfter k fromStart) s).points = s.points from frame.same .points]
    refine ⟨frame.stopped.trans run, ?_⟩
    rw [State.EntriesKept, productSet_of_same (frame.same .products), points,
      show (moveDraw k (s.drawAfter k fromStart) s).journal = s.journal from frame.same .journal]
    have member (j : ProductId) : ∀ t ∈ ((s.draw j).moved (s.drawAfter j fromStart)).current,
        t ∈ (s.productSet j).chain := fun t ht => (drawAfter_some (chains j).2 ht).1
    refine ⟨fun j => ⟨(chains j).1, fun t ht => ?_⟩, fun p o ho => ?_, records⟩
    · rw [moveDraw_draw] at ht
      split at ht
      · next e => subst e; exact member k t ht
      · exact (chains j).2 t ht
    · obtain ⟨sums, serve⟩ := orders p o ho
      refine ⟨sums, fun _ => ⟨(serve run).1, ?_⟩⟩
      obtain ⟨t, ht, posting⟩ := (serve run).2
      rw [postingTank_eq] at posting
      rw [postingTank_eq, moveDraw_draw]
      split
      · next e =>
        rw [← e] at ht posting ⊢
        cases new : s.drawAfter k fromStart with
        | some u => exact ⟨u, member k u new, rfl⟩
        | none =>
          refine ⟨t, ht, ?_⟩
          cases hold : (s.draw k).current <;> simpa [Draw.moved, hold] using posting
      · exact ⟨t, ht, posting⟩
  · obtain ⟨conditions, chains, mem, ready⟩ := chainCheck_drawsBut fromStart hs
    exact ⟨conditions, chains, mem, fun j hj => ready j fun h => hj h.1⟩

end Sys2Proof.Machine

/-! # Postings, gauges and stock checks -/

namespace Sys2Proof.Machine

open Sys2Proof

/-! ## Conditions (R66) -/

/-- Whether a tank is ready is read from its latches, its service and three of its marks. -/
theorem ready_of_standing {s s' : State} {u : TankId} (tripped : s'.tankTripped u = s.tankTripped u)
    (service : (s'.tankSet u).outOfService = (s.tankSet u).outOfService)
    (marks : (s'.tank u).low = (s.tank u).low ∧ (s'.tank u).full = (s.tank u).full ∧
      (s'.tank u).rebasePending = (s.tank u).rebasePending) : s'.ready u = s.ready u := by
  obtain ⟨low, full, pending⟩ := marks
  have shows : s'.tankShows u = s.tankShows u := by
    simp only [State.tankShows, tripped, service, low, full]
  rw [State.ready, State.ready, shows, pending]


/-- R66: a tank with its two conditions evaluated. -/
def Tank.evaluated (set : TankSettings) (waste : Bool) (x : Tank) : Tank :=
  { x with low := lowAfter set waste x, full := fullAfter set waste x }

theorem evaluateConditions_eq (t : TankId) (s : State) :
    evaluateConditions t s = s.updTank t (Tank.evaluated (s.tankSet t) (s.isWaste (s.tankSet t).product)) := rfl

theorem updTank_updTank (t : TankId) (f g : Tank → Tank) (s : State) :
    (s.updTank t f).updTank t g = s.updTank t fun x => g (f x) := by
  simp [State.updTank]

/-- R66: an evaluation brings the conditions of a tank to its book. -/
theorem evaluateConditions_current (t : TankId) (s : State) : (evaluateConditions t s).conditionsCurrent t := by
  intro _
  rw [show (evaluateConditions t s).tank t =
    (s.tank t).evaluated (s.tankSet t) (s.isWaste (s.tankSet t).product) from tank_updTank_self ..]
  change if s.isWaste (s.tankSet t).product then _ else _
  split
  · next waste =>
    intro high
    change microlitres (s.tankSet t).highCut ≤ (s.tank t).book at high
    simp [Tank.evaluated, fullAfter, waste, high]
  · next drawn =>
    intro low
    change (s.tank t).book ≤ microlitres (s.tankSet t).lowCut at low
    simp [Tank.evaluated, lowAfter, drawn, low]

/-- A tank changed and evaluated: only a draw tank of its own product may have ceased to serve. -/
theorem evaluate_drawsBut {t : TankId} {f : Tank → Tank} {s : State} {B : Set ProductId} (h : s.DrawsBut B) :
    (evaluateConditions t (s.updTank t f)).DrawsBut (insert (s.tankSet t).product B) := by
  have current := evaluateConditions_current t (s.updTank t f)
  rw [evaluateConditions_eq, updTank_updTank] at current ⊢
  exact updTank_drawsBut h current

theorem evaluateConditions_frame (t : TankId) (s : State) : Moves [.tanks] drawLaws s (evaluateConditions t s) :=
  updTank_frame ..

theorem judgeLowAlarm_moves (t : TankId) (before : Int) (s : State) :
    Moves [.links] ∅ s (judgeLowAlarm t before s) := by
  unfold judgeLowAlarm
  dsimp only
  split <;> [exact post_moves ..; exact .refl ..]

theorem restartQuiet_moves (t : TankId) (s : State) : Moves [.tanks] ∅ s (restartQuiet t s) := updTank_moves t _ rfl

/-! ## Postings (R71 to R73) -/

theorem checkIfMoved_moves (t : TankId) (before : Tank) (s : State) :
    Moves [.draws, .reports, .links] ∅ s (checkIfMoved t before s) := by
  unfold checkIfMoved
  dsimp only
  split <;> [exact chainCheck_moves ..; exact .refl ..]

/-- R69: when the tank's conditions have not moved its draw tank serves as before; when they have, the check sees to
it. -/
theorem checkIfMoved_drawsBut {t : TankId} {before : Tank} {s : State} {B : Set ProductId}
    (h : s.DrawsBut (insert (s.tankSet t).product B))
    (still : (s.tank t).low = before.low → (s.tank t).full = before.full → s.DrawsBut B) :
    (checkIfMoved t before s).DrawsBut B := by
  unfold checkIfMoved
  dsimp only
  split
  · obtain ⟨conditions, chains, mem, ready⟩ := chainCheck_drawsBut false h
    exact ⟨conditions, chains, mem, fun j hj => ready j fun ⟨hin, hne⟩ => hin.elim hne hj⟩
  · next same =>
    simp only [ne_eq, not_or, not_not] at same
    exact still same.1 same.2

theorem postToTank_moves (t : TankId) (amount : Int) (s : State) :
    Moves [.tanks, .draws, .reports, .links] ∅ s (postToTank t amount s) := by
  refine Moves.mend (J := drawLaws) ?_ ∅ fun x hx _ hs => ?_
  · exact ((updTank_frame ..).andThen ((evaluateConditions_frame ..).andThen
      ((((judgeLowAlarm_moves ..).andThen ((restartQuiet_moves ..).andThen (checkIfMoved_moves t (s.tank t) _)))).weaken
        _))).mono (by decide)
  · obtain ⟨B, rfl⟩ := hx
    set s₁ := evaluateConditions t (s.updTank t fun x => { x with book := x.book + amount }) with h₁
    have evaluated : s₁.DrawsBut (insert (s.tankSet t).product B) := evaluate_drawsBut hs
    have quiet : Moves [.links, .tanks] ∅ s₁ (restartQuiet t (judgeLowAlarm t (s.tank t).book s₁)) :=
      ((judgeLowAlarm_moves ..).andThen (restartQuiet_moves ..)).mono (by decide)
    have tank : (restartQuiet t (judgeLowAlarm t (s.tank t).book s₁)).tank t =
        { s₁.tank t with quietStart := s₁.seconds, quietRef := (s₁.tank t).gauged } := by
      have low := judgeLowAlarm_moves t (s.tank t).book s₁
      rw [restartQuiet, tank_updTank_self, tank_of_same (low.same .tanks), State.seconds, State.seconds,
        show (judgeLowAlarm t (s.tank t).book s₁).clock = s₁.clock from low.same .clock]
    have set' : (restartQuiet t (judgeLowAlarm t (s.tank t).book s₁)).tankSet = s.tankSet :=
      tankSet_of_same (quiet.same .tankSets)
    refine checkIfMoved_drawsBut (t := t) (before := s.tank t) ?_ fun low full => ?_
    · rw [set']
      exact quiet.law (.draws _) (Set.notMem_empty _) evaluated
    · refine quiet.law (.draws _) (Set.notMem_empty _) ?_
      obtain ⟨conditions, chains, mem, ready⟩ := evaluated
      refine ⟨conditions, chains, mem, fun k hk u hu => ?_⟩
      have was := hs.2.2.2 k hk u hu
      rw [tank] at low full
      refine (ready_of_standing (s := s) (s' := s₁) rfl rfl ?_).trans was
      by_cases e : u = t
      · subst e
        have pending : (s₁.tank u).rebasePending = (s.tank u).rebasePending := by
          rw [h₁, evaluateConditions_eq, updTank_updTank, tank_updTank_self]; rfl
        exact ⟨low, full, pending⟩
      · have same : s₁.tank u = s.tank u := by
          rw [h₁, evaluateConditions_eq, updTank_updTank, tank_updTank, if_neg (Ne.symm e)]
        rw [same]
        exact ⟨rfl, rfl, rfl⟩

theorem addTallies_moves (t : TankId) (amount : Int) (s : State) : Moves [.inlets] ∅ s (addTallies t amount s) := by
  refine .forEach _ _ (fun i _ s => updInlet_moves i _ (fun _ h => ?_)
    (fun _ h => by simpa [InletUnit.Metered] using h) (fun _ h => ⟨h, ?_⟩) fun _ => ?_) s
  · simpa [InletUnit.FitsButMeter] using h
  · intro d hd
    obtain ⟨d', hd', rfl⟩ := Option.mem_map.1 hd
    refine ⟨d', hd', ?_⟩
    split <;> exact ⟨rfl, id⟩
  · simp

/-! ## A window of an order (R71, R72) -/

theorem updOrder_moves (p : PointId) (f : Order → Order) {s : State} (ledger : ∀ o, (f o).ledger = o.ledger) :
    Moves [.points] ∅ s (s.updOrder p f) := by
  refine updPoint_moves p _ (fun _ hid h => ⟨hid, ?_⟩) (fun _ h => ?_) (fun _ hid => ⟨hid, by simp [PointUnit.Halted]⟩) (fun _ => by simp)
    fun _ o ho => ?_
  · simpa [PointUnit.FitsButMeter] using h
  · simpa [PointUnit.Metered] using h
  · obtain ⟨o', ho', rfl⟩ := Option.mem_map.1 ho
    exact ⟨o', ho', ledger o'⟩

theorem signedNet_add (kind : OrderKind) (a b : Nat) : signedNet kind (a + b) = signedNet kind a + signedNet kind b := by
  unfold signedNet
  split <;> omega

theorem signedNet_zero (kind : OrderKind) : signedNet kind 0 = 0 := by
  unfold signedNet
  split <;> rfl

theorem addEntry_sum (t : TankId) (amount : Int) (es : List TankEntry) :
    entriesSum (addEntry t amount es) = entriesSum es + amount := by
  induction es with
  | nil => simp [addEntry, entriesSum]
  | cons e rest ih =>
    unfold addEntry
    split
    · simp only [entriesSum, List.map_cons, List.sum_cons]; omega
    · simp only [entriesSum, List.map_cons, List.sum_cons] at ih ⊢; omega

/-- R72: the tanks of the entries, in first-draw order, the new one at the end. -/
theorem addEntry_tanks (t : TankId) (amount : Int) (es : List TankEntry) :
    (addEntry t amount es).map TankEntry.tank =
      if t ∈ es.map TankEntry.tank then es.map TankEntry.tank else es.map TankEntry.tank ++ [t] := by
  induction es with
  | nil => rfl
  | cons e rest ih =>
    unfold addEntry
    split
    · next h => simp [h]
    · next h =>
      simp only [List.map_cons, ih, List.mem_cons, Ne.symm h, false_or]
      split <;> rfl

/-- R45, R72: an amount added to the entries of an order that draws from its chain. -/
theorem EntriesSum.addEntry {es : List TankEntry} {signed amount : Int} {t : TankId} {chain : List TankId}
    (h : EntriesSum es signed) (few : chain.length ≤ 4) (drawn : ∀ e ∈ es, e.tank ∈ chain) (ht : t ∈ chain) :
    EntriesSum (Machine.addEntry t amount es) (signed + amount) ∧
      ∀ e ∈ Machine.addEntry t amount es, e.tank ∈ chain := by
  obtain ⟨distinct, -, sum⟩ := h
  have tanks := addEntry_tanks t amount es
  have distinct' : ((Machine.addEntry t amount es).map TankEntry.tank).Nodup := by
    rw [tanks]
    split
    · exact distinct
    · next fresh => exact List.nodup_append.2 ⟨distinct, by simp, by simpa using fresh⟩
  have within : ∀ u ∈ (Machine.addEntry t amount es).map TankEntry.tank, u ∈ chain := by
    intro u hu
    rw [tanks] at hu
    have old : u ∈ es.map TankEntry.tank → u ∈ chain := by
      intro h
      obtain ⟨e, he, rfl⟩ := List.mem_map.1 h
      exact drawn e he
    split at hu
    · exact old hu
    · rcases List.mem_append.1 hu with hu | hu
      · exact old hu
      · rw [List.mem_singleton.1 hu]; exact ht
  refine ⟨⟨distinct', ?_, ?_⟩, fun e he => within _ (List.mem_map_of_mem he)⟩
  · have := (List.subperm_of_subset distinct' within).length_le
    simp only [List.length_map] at this
    omega
  · rw [addEntry_sum, sum]

/-- What a window of a dispense order touches. -/
def postingParts : List Part := [.points, .inlets, .tanks, .draws, .reports, .links]

theorem updOrder_updOrder (p : PointId) (f g : Order → Order) (s : State) :
    (s.updOrder p f).updOrder p g = s.updOrder p fun o => g (f o) := by
  simp [State.updOrder, State.updPoint, Function.comp_def]

/-- R71, R72: a window of net 0, or of no order, or with no tank to go to, posts nothing; any other goes to the entries,
the tallies and the tank. -/
theorem postOrderWindow_cases (p : PointId) (net : Nat) (s : State) :
    (postOrderWindow p net s = s ∧ (net = 0 ∨ (s.point p).order = none ∨
      ∃ o, (s.point p).order = some o ∧ s.postingTank o.product = none)) ∨
    ∃ o t, net ≠ 0 ∧ (s.point p).order = some o ∧ s.postingTank o.product = some t ∧
      postOrderWindow p net s =
        postToTank t (signedNet o.kind net) (addTallies t (signedNet o.kind net)
          (s.updOrder p fun o' => { o' with entries := addEntry t (signedNet o.kind net) o'.entries })) := by
  unfold postOrderWindow
  split
  · next h => exact .inl ⟨rfl, .inl h⟩
  next h =>
    split
    · next ho => exact .inl ⟨rfl, .inr (.inl ho)⟩
    next o ho =>
      split
      · next ht => exact .inl ⟨rfl, .inr (.inr ⟨o, ho, ht⟩)⟩
      next t ht => exact .inr ⟨o, t, h, ho, ht, rfl⟩

theorem point_updOrder (s : State) (p q : PointId) (f : Order → Order) :
    (s.updOrder p f).point q = if p = q then { s.point p with order := (s.point p).order.map f } else s.point q :=
  point_updPoint ..

/-- R72: a window of the second law: its net and its entry are added to the order at once. -/
theorem updOrder_entries {p : PointId} {s : State} {o : Order} {t : TankId} {n : Nat} {f : Order → Order}
    (ho : (s.point p).order = some o) (ht : s.postingTank o.product = some t)
    (kind : (f o).kind = o.kind) (product : (f o).product = o.product) (net : (f o).net = o.net + n)
    (entries : (f o).entries = addEntry t (signedNet o.kind n) o.entries) (hs : Law.entries.holds s) :
    Law.entries.holds (s.updOrder p f) := by
  obtain ⟨run, chains, orders, records⟩ := hs
  refine ⟨run, chains, fun q o' hq => ?_, records⟩
  rw [point_updOrder] at hq
  split at hq
  · obtain ⟨o₀, ho₀, rfl⟩ := Option.mem_map.1 hq
    obtain rfl : o₀ = o := by rw [ho] at ho₀; exact (Option.some.inj ho₀).symm
    obtain ⟨sum, rest⟩ := orders p o₀ ho
    obtain ⟨drawn, u, hu, hut⟩ := rest run
    obtain rfl : u = t := by rw [ht] at hut; exact (Option.some.inj hut).symm
    obtain ⟨sum', drawn'⟩ := sum.addEntry (amount := signedNet o₀.kind n) (chains o₀.product).1 drawn hu
    rw [kind, product, net, entries, signedNet_add]
    exact ⟨sum', fun _ => ⟨drawn', u, hu, hut⟩⟩
  · exact orders q o' hq

/-- R13, R71, R72: a window taken by a point. -/
theorem takeResult_moves (p : PointId) (r : WindowResult) (s : State) :
    Moves postingParts ∅ s (takeResult p r s) := by
  have writes (f : Order → Order) : Moves [.points] {.entries} s (s.updOrder p f) :=
    updPoint_moves p _ (fun _ hid h => ⟨hid, by simpa [PointUnit.FitsButMeter] using h⟩)
      (fun _ h => by simpa [PointUnit.Metered] using h) (fun _ hid => ⟨hid, by simp [PointUnit.Halted]⟩) (fun _ => by simp)
      fun h => absurd rfl h
  have order' : ((s.updOrder p (addResult r)).point p).order = (s.point p).order.map (addResult r) := by simp
  unfold takeResult
  rcases postOrderWindow_cases p r.net (s.updOrder p (addResult r)) with ⟨same, why⟩ | ⟨o, t, -, ho, ht, posts⟩
  · rw [same]
    refine ((writes (addResult r)).mend ∅ fun x hx _ hs => ?_).mono (by decide)
    obtain rfl : x = .entries := hx
    obtain ⟨run, chains, orders, records⟩ := hs
    refine ⟨run, chains, fun q o' hq => ?_, records⟩
    rw [point_updOrder] at hq
    split at hq
    · obtain ⟨o₀, ho₀, rfl⟩ := Option.mem_map.1 hq
      obtain ⟨sum, drawn, u, hu, hut⟩ := (orders p o₀ ho₀).imp_right fun h => h run
      rcases why with zero | none | ⟨o, ho, none⟩
      · refine ⟨?_, fun _ => ⟨drawn, u, hu, hut⟩⟩
        simpa [addResult, zero] using sum
      · rw [order', Option.map_eq_none_iff] at none
        rw [none] at ho₀; cases ho₀
      · rw [order', ho₀] at ho
        obtain rfl : addResult r o₀ = o := by simpa using ho
        have : s.postingTank o₀.product = Option.none := none
        rw [this] at hut; cases hut
    · exact orders q o' hq
  · rw [order'] at ho
    obtain ⟨o₀, ho₀, rfl⟩ := Option.map_eq_some_iff.1 ho
    rw [posts, updOrder_updOrder]
    refine Moves.mono (K := [.points] ++ ([.inlets] ++ [.tanks, .draws, .reports, .links])) (.andThen ?_
      ((addTallies_moves ..).andThen (postToTank_moves ..))) (by decide)
    refine (writes _).mend ∅ fun x hx _ hs => ?_
    obtain rfl : x = .entries := hx
    exact updOrder_entries (n := r.net) ho₀ ht rfl rfl rfl rfl hs

end Sys2Proof.Machine

/-! # Gauges, stock checks, deliveries' postings and the long operations of a link -/

namespace Sys2Proof.Machine

open Sys2Proof

/-! ## Long operations (R84, R187) -/

theorem completeLong_moves (l : Link) (content : LongContent) (s : State) :
    Moves [.links] ∅ s (completeLong l content s) := by
  unfold completeLong
  split
  · exact .refl ..
  · exact ((updLink_moves l _ id).andThen (postTo_moves ..)).mono (by decide)

theorem startLong_moves (v : Via) (work : LongWork) (s : State) : Moves [.links] ∅ s (startLong v work s).state := by
  unfold startLong
  split
  · exact .refl ..
  · exact updLink_moves v.link _ id

theorem settledReportCheck_moves (l : Link) (s : State) : Moves [.links] ∅ s (settledReportCheck l s) := by
  unfold settledReportCheck
  split
  · split <;> [exact .refl ..; exact completeLong_moves ..]
  · exact .refl ..

theorem settledReportsAfterClose_moves (s : State) : Moves [.links] ∅ s (settledReportsAfterClose s) :=
  .forEach _ _ (fun l _ s => settledReportCheck_moves l s) s

theorem settledWaitEvent_moves (l : Link) (s : State) : Moves [.clock, .links] ∅ s (settledWaitEvent l s) := by
  unfold settledWaitEvent
  split
  · exact ((reach_moves ..).andThen (completeLong_moves ..)).mono (by decide)
  · exact .refl ..

/-! ## A tank changed, evaluated and checked -/

/-- What a change of a tank's book touches. -/
def stockParts : List Part := [.tanks, .draws, .reports, .links]

/-- R66, R68, R69, R78: a tank changed in any way, its conditions evaluated, and its product's chain checked: the fourth
law is kept. -/
theorem evaluateAndCheck_moves (t : TankId) (f : Tank → Tank) (before : Int) (fromStart : Bool) (s : State) :
    let s₁ := restartQuiet t (judgeLowAlarm t before (evaluateConditions t (s.updTank t f)))
    Moves stockParts ∅ s (chainCheck (s.tankSet t).product fromStart s₁) := by
  intro s₁
  have quiet : Moves [.links, .tanks] ∅ (evaluateConditions t (s.updTank t f)) s₁ :=
    ((judgeLowAlarm_moves ..).andThen (restartQuiet_moves ..)).mono (by decide)
  refine Moves.mend (J := drawLaws) ?_ ∅ fun x hx _ hs => ?_
  · exact ((updTank_frame ..).andThen ((evaluateConditions_frame ..).andThen
      ((quiet.andThen (chainCheck_moves ..)).weaken _))).mono (by decide)
  · obtain ⟨B, rfl⟩ := hx
    have evaluated : s₁.DrawsBut (insert (s.tankSet t).product B) :=
      quiet.law (.draws _) (Set.notMem_empty _) (evaluate_drawsBut hs)
    obtain ⟨conditions, chains, mem, ready⟩ := chainCheck_drawsBut fromStart evaluated
    exact ⟨conditions, chains, mem, fun j hj => ready j fun ⟨hin, hne⟩ => hin.elim hne hj⟩

/-! ## Gauges (R74 to R76, R85) -/

theorem recomputeVariance_moves (t : TankId) (s : State) : Moves [.tanks] ∅ s (recomputeVariance t s) :=
  updTank_moves t _ rfl

theorem gaugeFails_moves (t : TankId) (s : State) : Moves [.tanks, .links] ∅ s (gaugeFails t s) :=
  ((updTank_moves t _ rfl).andThen (post_moves ..)).mono (by decide)

theorem invalidReading_moves (t : TankId) (s : State) : Moves [.tanks, .links] ∅ s (invalidReading t s) := by
  have unstable : Moves [.tanks] ∅ s (s.updTank t fun x => { x with stable := false }) := updTank_moves t _ rfl
  unfold invalidReading
  dsimp only
  split
  · exact unstable.mono (by decide)
  · split
    · exact unstable.mono (by decide)
    · exact (unstable.andThen (gaugeFails_moves ..)).mono (by decide)
  · split
    · exact (unstable.andThen (updTank_moves t _ rfl)).mono (by decide)
    · exact (unstable.andThen (gaugeFails_moves ..)).mono (by decide)
  · split
    · exact (unstable.andThen (updTank_moves t _ rfl)).mono (by decide)
    · exact (unstable.andThen (gaugeFails_moves ..)).mono (by decide)

theorem rebase_moves (t : TankId) (s : State) : Moves stockParts ∅ s (rebase t s) := by
  unfold rebase
  dsimp only
  split
  · have set' (u : State) : (judgeLowAlarm t (s.tank t).book u).tankSet = u.tankSet :=
      tankSet_of_same ((judgeLowAlarm_moves ..).same .tankSets)
    rw [set']
    exact evaluateAndCheck_moves t _ _ false s
  · exact .refl ..

theorem takeReading_moves (t : TankId) (r : GaugeReport) (s : State) : Moves stockParts ∅ s (takeReading t r s) := by
  have quiet (c : Prop) [Decidable c] (u : State) : Moves [.tanks] ∅ u (if c then restartQuiet t u else u) := by
    split <;> [exact restartQuiet_moves ..; exact .refl ..]
  unfold takeReading
  exact ((updTank_moves t _ (by rfl)).andThen ((quiet ..).andThen ((rebase_moves ..).andThen
    (recomputeVariance_moves ..)))).mono (by decide)

/-! ## Stock checks (R77) -/

theorem stockCheckTank_moves (t : TankId) (s : State) : Moves [.tanks, .links] ∅ s (stockCheckTank t s) := by
  unfold stockCheckTank
  dsimp only
  split
  · split
    · exact .refl ..
    · split
      · split
        · exact ((updTank_moves t _ rfl).andThen (post_moves ..)).mono (by decide)
        · exact (updTank_moves t _ rfl).mono (by decide)
      · exact (updTank_moves t _ rfl).mono (by decide)
  · exact .refl ..

theorem checkDue_moves (due : Nat) (s : State) :
    Moves [.stockRest] ∅ s { s with stock := { s.stock with checkDue := due } } :=
  .of_untouched rfl rfl (fun x hx => by cases x <;> simp [Part.same] at hx ⊢)
    (by intro x; cases x <;> simp [Law.parts])

theorem stockCheckEvent_moves (s : State) : Moves [.clock, .stockRest, .tanks, .links] ∅ s (stockCheckEvent s) :=
  ((reach_moves ..).andThen ((checkDue_moves ..).andThen
    (.forEach _ _ (fun t _ s => stockCheckTank_moves t s) _))).mono (by decide)

/-! ## The record of a delivery, its windows and its flag (R71, R73) -/

theorem updDelivery_moves (i : InletId) (f : Delivery → Delivery) {s : State} (tank : ∀ d, (f d).tank = d.tank)
    (flag : ∀ d, d.holdsFlag = true → (f d).holdsFlag = true) : Moves [.inlets] ∅ s (s.updDelivery i f) := by
  refine updInlet_moves i _ (fun _ h => by simpa [InletUnit.FitsButMeter] using h)
    (fun _ h => by simpa [InletUnit.Metered] using h)
    (fun _ h => ⟨h, fun d hd => ?_⟩) fun _ => by simp
  obtain ⟨d', hd', rfl⟩ := Option.mem_map.1 hd
  exact ⟨d', hd', tank d', flag d'⟩

theorem inlet_updDelivery (s : State) (i j : InletId) (f : Delivery → Delivery) :
    (s.updDelivery i f).inlet j =
      if i = j then { s.inlet i with delivery := (s.inlet i).delivery.map f } else s.inlet j :=
  inlet_updInlet ..

theorem postDeliveryWindow_moves (i : InletId) (net : Nat) (s : State) :
    Moves stockParts ∅ s (postDeliveryWindow i net s) := by
  unfold postDeliveryWindow
  split
  · exact .refl ..
  · split <;> [exact .refl ..; exact postToTank_moves ..]

theorem takeDeliveryResult_moves (i : InletId) (r : WindowResult) (s : State) :
    Moves (.inlets :: stockParts) ∅ s (takeDeliveryResult i r s) :=
  ((postDeliveryWindow_moves ..).andThen (updDelivery_moves i _ (fun _ => by rfl) fun _ h => by exact h)).mono
    (L := .inlets :: stockParts) (by decide)

/-- R73: the delivery without its hold on the flag. -/
def letGo (d : Delivery) : Delivery := { d with holdsFlag := false }

/-- R73: what a hold let go leads to, once the delivery no longer has it. -/
theorem clearReceiving_cases (i : InletId) (s : State) :
    (clearReceiving i s = s ∧ (s.inlet i).delivery = none) ∨
      Moves stockParts ∅ (s.updDelivery i letGo) (clearReceiving i s) := by
  unfold clearReceiving
  split
  · next h => exact .inl ⟨rfl, h⟩
  · right
    dsimp only
    split
    · exact ((restartQuiet_moves ..).andThen (chainCheck_moves ..)).mono (by decide)
    · exact .refl ..

/-- R73: the inlets once a hold is let go. -/
theorem clearReceiving_inlet (i j : InletId) (s : State) :
    (clearReceiving i s).inlet j =
      if i = j then { s.inlet i with delivery := (s.inlet i).delivery.map letGo } else s.inlet j := by
  rcases clearReceiving_cases i s with ⟨same, idle⟩ | moves
  · rw [same]
    split
    · next h => subst h; rw [idle]; change s.inlet i = { s.inlet i with delivery := none }; rw [← idle]
    · rfl
  · rw [← inlet_updDelivery]
    have inlets : (clearReceiving i s).inlets = (s.updDelivery i letGo).inlets := moves.same .inlets
    simp only [State.inlet, inlets]

theorem updDelivery_letGo_moves (i : InletId) {s : State} {H : Set Law}
    (still : ¬(s.inlet i).Going ∨ tripLaws ⊆ H) : Moves [.inlets] H s (s.updDelivery i letGo) := by
  refine updInlet_moves i _ (fun _ h => by simpa [InletUnit.FitsButMeter] using h)
    (fun _ h => by simpa [InletUnit.Metered] using h)
    (fun held going => ?_) fun _ => by simp
  exact absurd going (still.resolve_right held)

/-- R73: a hold let go, by a delivery that no longer receives. -/
theorem clearReceiving_moves (i : InletId) {s : State} {H : Set Law} (still : ¬(s.inlet i).Going ∨ tripLaws ⊆ H) :
    Moves (.inlets :: stockParts) H s (clearReceiving i s) := by
  rcases clearReceiving_cases i s with ⟨same, -⟩ | moves
  · rw [same]; exact .refl ..
  · exact ((updDelivery_letGo_moves i still).andThen (moves.weaken H)).mono (by decide)

end Sys2Proof.Machine

/-! # The points: stopping and closing orders -/

namespace Sys2Proof.Machine

open Sys2Proof

/-! ## The open count (R169, R175) -/

theorem mem_allPoints (p : PointId) : p ∈ allPoints := by revert p; decide
theorem mem_allInlets (i : InletId) : i ∈ allInlets := by revert i; decide

/-- One place of a list without repetition no longer counts. -/
theorem countP_of_one_off {α : Type} {xs : List α} (distinct : xs.Nodup) {x : α} (mem : x ∈ xs) {f g : α → Bool}
    (on : f x = true) (off : g x = false) (other : ∀ y, y ≠ x → g y = f y) : xs.countP f = xs.countP g + 1 := by
  obtain ⟨as, bs, rfl⟩ := List.append_of_mem mem
  have apart : ∀ y ∈ as ++ bs, y ≠ x := by
    rw [List.nodup_append, List.nodup_cons] at distinct
    rintro y hy rfl
    rcases List.mem_append.1 hy with h | h
    · exact distinct.2.2 y h y (by simp) rfl
    · exact distinct.2.1.1 h
  have ha : as.countP g = as.countP f := List.countP_congr fun y hy => by rw [other y (apart y (by simp [hy]))]
  have hb : bs.countP g = bs.countP f := List.countP_congr fun y hy => by rw [other y (apart y (by simp [hy]))]
  simp [List.countP_append, on, off, ha, hb]
  omega

/-- An order closed is an open operation the fewer. -/
theorem openOperations_of_closed {s t : State} {p : PointId} (inlets : t.inlets = s.inlets)
    (was : (s.point p).order.isSome = true) (now : (t.point p).order = none)
    (other : ∀ q, q ≠ p → (t.point q).order.isSome = (s.point q).order.isSome) :
    s.openOperations.length = t.openOperations.length + 1 := by
  have same (i : InletId) : t.inlet i = s.inlet i := by simp only [State.inlet, inlets]
  have off := countP_of_one_off (xs := allPoints) (by decide) (mem_allPoints p) was
    (g := fun q => (t.point q).order.isSome) (by simp [now]) other
  simp only [openOperations_length, same]
  omega

/-- A delivery closed is an open operation the fewer. -/
theorem openOperations_of_inlet_closed {s t : State} {i : InletId} (points : t.points = s.points)
    (was : (s.inlet i).delivery.isSome = true) (now : (t.inlet i).delivery = none)
    (other : ∀ j, j ≠ i → (t.inlet j).delivery.isSome = (s.inlet j).delivery.isSome) :
    s.openOperations.length = t.openOperations.length + 1 := by
  have same (p : PointId) : t.point p = s.point p := by simp only [State.point, points]
  have off := countP_of_one_off (xs := allInlets) (by decide) (mem_allInlets i) was
    (g := fun j => (t.inlet j).delivery.isSome) (by simp [now]) other
  simp only [openOperations_length, same]
  omega

/-- R169, R171: a close turns one open operation into one uncollected record. -/
theorem ReserveHeld.of_close {s t : State} (h : s.ReserveHeld)
    (closed : s.openOperations.length = t.openOperations.length + 1)
    (counts : t.journal.openCount = s.journal.openCount - 1)
    (uncollected : t.journal.uncollected = s.journal.uncollected + 1)
    (flag : t.bay.curtailed = s.bay.curtailed) : t.ReserveHeld := by
  obtain ⟨count, most, clear⟩ := h
  have reserve : t.journal.reserve = s.journal.reserve := by
    simp only [Journal.reserve]
    omega
  exact ⟨by omega, by rw [reserve]; exact most, by rw [reserve, flag]; exact clear⟩

/-! ## The record of an order (R44) -/

/-- What the record of a closed order touches. -/
def recordParts : List Part := [.journal, .links, .table, .deferred]

theorem recordOrder_journal (p : PointId) (o : Order) (cause : Cause) (s : State) :
    (recordOrder p o cause s).journal = (journalWrite (dispenseRecord p o cause (s.assess o) s.seconds) true s).journal := by
  unfold recordOrder
  refine ((closeUpdates_moves _ _ ?_).same .journal).trans ?_
  · rw [State.post_accounts]; rfl
  · rw [State.post_journal]

theorem recordOrder_moves (p : PointId) (o : Order) (cause : Cause) (s : State) :
    Moves recordParts {.reserve, .entries} s (recordOrder p o cause s) := by
  unfold recordOrder
  refine Moves.mono (K := [.journal] ++ ([.links] ++ [.table, .deferred, .links]))
    (.andThen (journalWrite_moves true (.inr (by simp)) (by simp)) (.andThen ((post_moves ..).weaken _)
      ((closeUpdates_moves _ _ ?_).weaken _))) (by decide)
  rw [State.post_accounts]; rfl

/-! ## The close (R44) -/

/-- What the close of an order touches. -/
def closeParts : List Part := [.points, .pumps, .journal, .links, .table, .deferred]

theorem finishClose_none {p : PointId} {s : State} (h : (s.point p).order = none) : finishClose p s = s := by
  rw [finishClose, h]

/-- The point of a closed order, and the others. -/
theorem finishClose_point {p : PointId} {s : State} {o : Order} (h : (s.point p).order = some o) (q : PointId) :
    (finishClose p s).point q = if p = q then (s.point p).closed else s.point q := by
  rw [finishClose, h]
  dsimp only
  have released := releasePump_moves p (s.pointSet p).pump s
  have recorded := recordOrder_moves p o (o.termination.getD .stopped) (releasePump p (s.pointSet p).pump s)
  have points : (settledReportsAfterClose ((recordOrder p o (o.termination.getD .stopped)
      (releasePump p (s.pointSet p).pump s)).updPoint p PointUnit.closed)).points =
        (s.updPoint p PointUnit.closed).points := by
    refine ((settledReportsAfterClose_moves _).same .points).trans ?_
    have same : (recordOrder p o (o.termination.getD .stopped) (releasePump p (s.pointSet p).pump s)).points = s.points :=
      (recorded.same .points).trans (released.same .points)
    simp only [State.updPoint, same]
  rw [← point_updPoint]
  simp only [State.point, points]

theorem finishClose_order (p : PointId) (s : State) : ((finishClose p s).point p).order = none := by
  cases h : (s.point p).order with
  | none => rw [finishClose_none h, h]
  | some o => rw [finishClose_point h, if_pos rfl]; rfl

/-- R114: whether a reading is plausible is read from the account table and its classes. -/
theorem assess_of_same {s t : State} {o : Order} (table : t.accounts.table = s.accounts.table)
    (classes : t.accounts.classes = s.accounts.classes) : t.assess o = s.assess o := by
  have account : t.account = s.account := by
    funext machine
    simp only [State.account, table]
  simp only [State.assess, account, classes]

/-- R44: the journal of a closed order. -/
theorem finishClose_journal {p : PointId} {s : State} {o : Order} (h : (s.point p).order = some o) :
    (finishClose p s).journal =
      (journalWrite (dispenseRecord p o (o.termination.getD .stopped) (s.assess o) s.seconds) true s).journal := by
  have released := releasePump_moves p (s.pointSet p).pump s
  have clock : (releasePump p (s.pointSet p).pump s).clock = s.clock := released.same .clock
  have journal : (releasePump p (s.pointSet p).pump s).journal = s.journal := released.same .journal
  have assess : (releasePump p (s.pointSet p).pump s).assess o = s.assess o :=
    assess_of_same (released.same .table) (released.same .accountsRest).1
  rw [finishClose, h]
  refine ((settledReportsAfterClose_moves _).same .journal).trans ?_
  rw [State.updPoint_journal, recordOrder_journal]
  simp only [journalWrite, journal, assess, State.seconds, clock]

theorem finishClose_moves (p : PointId) (s : State) : Moves closeParts ∅ s (finishClose p s) := by
  cases h : (s.point p).order with
  | none => rw [finishClose_none h]; exact .refl ..
  | some o =>
    have point := finishClose_point h
    have journal := finishClose_journal h
    have closes (u : State) : Moves [.points] {.reserve, .entries} u (u.updPoint p PointUnit.closed) :=
      updPoint_moves p _
        (fun _ _ _ => ⟨by simp [PointUnit.IdentFits, PointUnit.closed],
          by simp [PointUnit.FitsButMeter, PointUnit.closed, Meter.idle]⟩)
        (fun _ _ => by simp [PointUnit.Metered, PointUnit.closed])
        (fun _ _ => ⟨by simp [PointUnit.IdentFits, PointUnit.closed], fun _ _ => .inr (.inl rfl)⟩)
        (fun h => absurd (by simp) h) (fun h => absurd (by simp) h)
    have frame : Moves closeParts {.reserve, .entries} s (finishClose p s) := by
      rw [finishClose, h]
      exact (((releasePump_moves ..).weaken _).andThen ((recordOrder_moves ..).andThen ((closes _).andThen
        ((settledReportsAfterClose_moves _).weaken _)))).mono (by decide)
    refine frame.mend ∅ fun x hx _ hs => ?_
    rcases hx with rfl | rfl
    · refine ReserveHeld.of_close (s := s) hs (openOperations_of_closed (p := p) (frame.same .inlets) (by simp [h])
        (finishClose_order p s) fun q hq => ?_) (by rw [journal]; rfl) (by rw [journal]; rfl) (frame.same .curtailed)
      rw [point, if_neg (Ne.symm hq)]
    · obtain ⟨run, chains, orders, records⟩ := hs
      have draws := frame.same .draws
      have sets := productSet_of_same (frame.same .products)
      have posting : (finishClose p s).postingTank = s.postingTank := by
        funext k
        simp only [State.postingTank, State.draw, show (finishClose p s).stock.draws = s.stock.draws from draws]
      refine ⟨frame.running.2 run, fun k => ?_, fun q o' hq => ?_, fun r hr => ?_⟩
      · simp only [State.draw, show (finishClose p s).stock.draws = s.stock.draws from draws, sets]
        exact chains k
      · rw [point] at hq
        split at hq
        · cases hq
        · rw [posting, sets, frame.running]
          exact orders q o' hq
      · rw [journal] at hr
        rcases mem_ringAfter hr with old | rfl
        · exact records r old
        · exact (orders p o h).1

/-! ## The end of a window, and the close at once (R14, R32, R33) -/

/-- What the stop of an order touches. -/
def orderParts : List Part :=
  [.points, .inlets, .tanks, .draws, .reports, .links, .pumps, .journal, .table, .deferred]

theorem endWindow_moves (p : PointId) (reading : Option Int) (s : State) :
    Moves postingParts {.pointMetered p} s (endWindow p reading s) := by
  unfold endWindow
  dsimp only
  split
  · exact .refl ..
  · refine ((?_ : Moves [.points] _ s _).andThen ((takeResult_moves ..).weaken _)).mono (by decide)
    refine updPoint_moves p _ (fun _ ident fits => ⟨ident, ?_⟩) (fun h => absurd rfl h) (fun _ ident => ⟨ident, id⟩)
      (fun _ => rfl) fun _ o ho => ⟨o, ho, rfl⟩
    unfold PointUnit.FitsButMeter at fits ⊢
    split at fits <;> simp_all

theorem closeAtOnce_moves (ended : Option PointId) (p : PointId) (c : Cause) (s : State) :
    Moves orderParts ∅ s (closeAtOnce ended p c s) := by
  have marked : Moves [.points] ∅ s (s.updOrder p fun o => { o with termination := some c }) :=
    updOrder_moves p _ fun _ => rfl
  unfold closeAtOnce
  dsimp only
  refine Moves.mend (J := {.pointMetered p}) ?_ ∅ fun x hx _ _ => ?_
  · refine Moves.mono (K := [.points] ++ (postingParts ++ closeParts))
      ((marked.weaken _).andThen (.andThen ?_ ((finishClose_moves ..).weaken _)))
      (by decide)
    split
    · exact .refl ..
    · exact endWindow_moves ..
  · obtain rfl : x = .pointMetered p := hx
    intro some
    rw [finishClose_order] at some
    cases some

/-! ## Stopping (R38 to R42, R70) -/

theorem enterStopping_moves {p : PointId} {s : State} (c : Cause)
    (flows : (s.point p).state = .priming ∨ (s.point p).state = .flowing) :
    Moves [.points] ∅ s (enterStopping p c s) := by
  have quiet (ident : (s.point p).IdentFits) : ¬(s.point p).identDue.isSome = true := fun some => by
    have := ident some
    rcases flows with h | h <;> rw [h] at this <;> cases this
  refine ((updPoint_moves p _ (fun _ ident fits => ⟨fun some => absurd some (quiet ident), ?_⟩) (fun _ h => h)
    (fun _ ident => ⟨fun some => absurd some (quiet ident), fun _ _ => .inr (.inr rfl)⟩)
    (fun _ => rfl) fun _ o ho => ⟨o, ho, rfl⟩).andThen (updOrder_moves p _ fun _ => by rfl)).mono (by decide)
  unfold PointUnit.FitsButMeter at fits ⊢
  rcases flows with h | h <;> rw [h] at fits <;> exact ⟨fits.1, rfl⟩

theorem addSecondary_moves (p : PointId) (c : Cause) (s : State) : Moves [.points] ∅ s (addSecondary p c s) :=
  updOrder_moves p _ fun _ => rfl

theorem stopPoint_moves (ended : Option PointId) (c : Cause) (p : PointId) (s : State) :
    Moves orderParts ∅ s (stopPoint ended c p s) := by
  unfold stopPoint
  split
  · exact .refl ..
  · exact .refl ..
  · exact closeAtOnce_moves ..
  · exact closeAtOnce_moves ..
  · next h => exact (enterStopping_moves c (.inl h)).mono (by decide)
  · next h => exact (enterStopping_moves c (.inr h)).mono (by decide)
  · exact (addSecondary_moves ..).mono (by decide)

theorem takeReport_moves (ended : Option PointId) (r : Exhaustion) (s : State) :
    Moves orderParts ∅ s (takeReport ended r s) :=
  .forEach _ _ (fun p _ s => by split <;> [exact stopPoint_moves ..; exact .refl ..]) s

theorem handReportsUpTo_moves (ended : Option PointId) (n : Nat) (s : State) :
    Moves orderParts ∅ s (handReportsUpTo ended n s) := by
  induction n generalizing s with
  | zero => exact (reports_moves [] s).mono (by decide)
  | succ n ih =>
    unfold handReportsUpTo
    split
    · exact .refl ..
    · exact ((reports_moves _ s).andThen ((takeReport_moves ..).andThen (ih _))).mono (by decide)

theorem handReportsAt_moves (ended : Option PointId) (s : State) : Moves orderParts ∅ s (handReportsAt ended s) :=
  handReportsUpTo_moves ..

theorem handReports_moves (s : State) : Moves orderParts ∅ s (handReports s) := handReportsAt_moves ..

end Sys2Proof.Machine

/-! # The points: identification, pumps, timers and window ends -/

namespace Sys2Proof.Machine

open Sys2Proof

/-! ## The pump claim and priming (R33, R54, R56) -/

theorem enterPriming_moves {p : PointId} {s : State} (waits : (s.point p).state = .awaitPump) :
    Moves [.points] ∅ s (enterPriming p s) := by
  have quiet (ident : (s.point p).IdentFits) : ¬(s.point p).identDue.isSome = true := fun some => by
    have := ident some
    rw [waits] at this; cases this
  refine updPoint_moves p _ (fun _ ident fits => ⟨fun some => absurd some (quiet ident), ?_⟩) (fun _ h => h)
    (fun _ ident => ⟨fun some => absurd some (quiet ident), fun halted => ?_⟩) (fun _ => rfl) fun _ o ho => ⟨o, ho, rfl⟩
  · unfold PointUnit.FitsButMeter at fits ⊢
    rw [waits] at fits
    exact ⟨fits.1, rfl⟩
  · simpa [PointUnit.Halted, waits] using halted

theorem reportRunning_moves (p : PointId) (s : State) : Moves [.points] ∅ s (reportRunning p s) := by
  unfold reportRunning
  split
  · next h => exact enterPriming_moves h
  · exact .refl ..

/-- R33: a point enters AWAIT_PUMP from IDENTIFYING, or where the laws of its state are judged afterwards. -/
theorem enterAwaitPump_moves {p : PointId} {s : State} {H : Set Law}
    (from' : (s.point p).state = .identifying ∨ .units ∈ H ∧ tripLaws ⊆ H) :
    Moves [.points, .pumps] H s (enterAwaitPump p s) := by
  have waits : Moves [.points] H s (s.updPoint p fun u => { u with state := .awaitPump, identDue := none }) := by
    refine updPoint_moves p _ (fun held _ fits => ⟨by simp [PointUnit.IdentFits], ?_⟩) (fun _ h => h)
      (fun held _ => ⟨by simp [PointUnit.IdentFits], fun halted => ?_⟩) (fun _ => rfl) fun _ o ho => ⟨o, ho, rfl⟩
    · have state := from'.resolve_right fun h => held h.1
      unfold PointUnit.FitsButMeter at fits ⊢
      rw [state] at fits
      exact fits
    · have state := from'.resolve_right fun h => held h.2
      simpa [PointUnit.Halted, state] using halted
  unfold enterAwaitPump
  dsimp only
  split
  · exact (waits.andThen (((claimPump_moves ..).weaken _).andThen ((reportRunning_moves ..).weaken _))).mono (by decide)
  · exact (waits.andThen ((claimPump_moves ..).weaken _)).mono (by decide)

/-- R54: a start that completes, with the points of the claims told. -/
theorem startTimerEvent_moves (m : PumpId) (s : State) :
    Moves [.clock, .pumps, .points] ∅ s (startTimerEvent m s) := by
  unfold startTimerEvent
  split
  · exact .refl ..
  · exact ((reach_moves ..).andThen ((completeStart_moves ..).andThen
      (.forEach _ _ (fun p _ s => reportRunning_moves p s) _))).mono (by decide)

theorem pumpFaultActiveEvent_moves (m : PumpId) (s : State) : Moves orderParts ∅ s (pumpFaultActiveEvent m s) := by
  unfold pumpFaultActiveEvent
  dsimp only
  split
  · exact .refl ..
  · exact ((updPump_moves m _ (by exact id)).andThen ((faultPump_moves ..).andThen
      (.forEach _ _ (fun p _ s => stopPoint_moves none .pumpFault p s) _))).mono (by decide)

/-! ## Identification (R29 to R31) -/

/-- A point changed in nothing that the laws read but its ident timer, which may stop. -/
theorem updPoint_quiet_moves (p : PointId) (f : PointUnit → PointUnit) {s : State}
    (state : (f (s.point p)).state = (s.point p).state) (valve : (f (s.point p)).valve = (s.point p).valve)
    (order : (f (s.point p)).order = (s.point p).order)
    (meter : (f (s.point p)).meter.working = (s.point p).meter.working)
    (ident : (f (s.point p)).identDue.isSome = true → (s.point p).identDue.isSome = true) :
    Moves [.points] ∅ s (s.updPoint p f) := by
  refine updPoint_moves p _ (fun _ fits butMeter => ⟨fun some => ?_, ?_⟩) (fun _ h => ?_) (fun _ fits => ⟨fun some => ?_, ?_⟩)
    (fun _ => by rw [order]) fun _ o ho => ⟨o, order ▸ ho, rfl⟩
  · rw [state]; exact fits (ident some)
  · simpa only [PointUnit.FitsButMeter, state, valve, order, meter] using butMeter
  · simpa only [PointUnit.Metered, order, meter] using h
  · rw [state]; exact fits (ident some)
  · simp only [PointUnit.Halted, state, order, imp_self]

theorem stopIdent_moves (p : PointId) (s : State) :
    Moves [.points] ∅ s (s.updPoint p fun u => { u with identDue := none }) :=
  updPoint_quiet_moves p _ rfl rfl rfl rfl (by simp)

theorem admitIdentity_moves {p : PointId} {s : State} (o : Order) (x : Identity)
    (identifying : (s.point p).state = .identifying) : Moves orderParts ∅ s (admitIdentity p o x s) := by
  unfold admitIdentity
  split
  · exact ((updOrder_moves p _ (fun _ => by rfl)).andThen (closeAtOnce_moves ..)).mono (by decide)
  · dsimp only
    have taken : Moves [.points] ∅ s (s.updOrder p (takeIdentity x)) := updOrder_moves p _ fun _ => rfl
    have limited (limit : OrderLimit) (u : State) : Moves [.points] ∅ u (u.updOrder p (fixLimit limit)) :=
      updOrder_moves p _ fun _ => rfl
    split
    · refine (taken.andThen ((limited _ _).andThen ((joinOpenSet_moves ..).andThen
        (enterAwaitPump_moves (.inl ?_))))).mono (by decide)
      simp only [State.point, show _ = _ from (joinOpenSet_moves _ _ _).same .points]
      change (((s.updOrder p _).updOrder p _).point p).state = _
      simp only [point_updOrder, if_true, identifying]
    · refine (taken.andThen ((joinOpenSet_moves ..).andThen (enterAwaitPump_moves (.inl ?_)))).mono (by decide)
      simp only [State.point, show _ = _ from (joinOpenSet_moves _ _ _).same .points]
      change ((s.updOrder p _).point p).state = _
      simp only [point_updOrder, if_true, identifying]

theorem identityCompletion_moves (p : PointId) (x : Identity) (s : State) :
    Moves orderParts ∅ s (identityCompletion p x s) := by
  unfold identityCompletion
  split
  · next o identifying _ =>
    have still : ((s.updPoint p fun u => { u with identDue := none }).point p).state = .identifying := by
      rw [point_updPoint_self]; exact identifying
    dsimp only
    split
    · split
      · exact ((stopIdent_moves p s).andThen (closeAtOnce_moves ..)).mono (by decide)
      · refine ((stopIdent_moves p s).andThen ((updOrder_moves p _ (fun _ => by rfl)).andThen
          (enterAwaitPump_moves (.inl ?_)))).mono (by decide)
        rw [point_updOrder, if_pos rfl]; exact still
    · exact ((stopIdent_moves p s).andThen (admitIdentity_moves o x still)).mono (by decide)
  · exact .refl ..

/-- What the timers and messages of a point touch. -/
def timedParts : List Part := .clock :: orderParts

/-- R31: a point whose ident timer ran goes on to AWAIT_PUMP; while the laws of its state hold it was IDENTIFYING. -/
theorem enterAwaitPump_of_identDue_moves {p : PointId} {s t : State} (running : (s.point p).identDue.isSome)
    (before : Moves [.clock, .points] ∅ s t) (state : (t.point p).state = (s.point p).state) :
    Moves timedParts ∅ s (enterAwaitPump p t) := by
  have all {H : Set Law} (h : Moves [.points, .pumps] H t (enterAwaitPump p t)) :
      Moves timedParts H s (enterAwaitPump p t) := ((before.weaken H).andThen h).mono (by decide)
  by_cases identifying : (s.point p).state = .identifying
  · exact all (enterAwaitPump_moves (.inl (state.trans identifying)))
  · refine (all (enterAwaitPump_moves (H := insert .units tripLaws) (.inr ⟨by simp, by simp⟩))).mend ∅
      fun x hx _ hs => absurd ?_ identifying
    rcases hx with rfl | ⟨P, I, rfl⟩
    · exact hs.2.2 p running
    · exact hs.2.2 p running

theorem identTimerEvent_moves (p : PointId) (s : State) : Moves timedParts ∅ s (identTimerEvent p s) := by
  unfold identTimerEvent
  split
  · next due o running _ =>
    have ends : Moves [.clock, .points] ∅ s ((s.reach due).updPoint p fun u => { u with identDue := none }) :=
      ((reach_moves ..).andThen (stopIdent_moves ..)).mono (by decide)
    have state : (((s.reach due).updPoint p fun u => { u with identDue := none }).point p).state = (s.point p).state := by
      rw [point_updPoint_self, show (s.reach due).point p = s.point p from by simp [State.point]]
    have runs : (s.point p).identDue.isSome := by rw [running]; rfl
    dsimp only
    split
    · refine enterAwaitPump_of_identDue_moves runs ((ends.andThen (updOrder_moves p _ fun _ => by rfl)).mono
        (by decide)) ?_
      rw [point_updOrder, if_pos rfl]; exact state
    · split
      · exact enterAwaitPump_of_identDue_moves runs ends state
      · exact (ends.andThen (closeAtOnce_moves ..)).mono (by decide)
  · exact .refl ..

/-! ## The nozzle line (R25 to R29) -/

theorem takeMessage_moves (p : PointId) (message : List Byte) (s : State) :
    Moves orderParts ∅ s (takeMessage p message s) := by
  unfold takeMessage
  split
  · exact .refl ..
  · exact ((updPoint_quiet_moves p _ (by rfl) (by rfl) (by rfl) (by rfl) (by exact id)).andThen
      (identityCompletion_moves ..)).mono (by decide)

theorem nozzleFrameEvent_moves (p : PointId) (f : NozzleFrame) (s : State) :
    Moves orderParts ∅ s (nozzleFrameEvent p f s) := by
  have received (r : Receiver) : Moves [.points] ∅ s (s.updPoint p fun u => { u with receiver := r }) :=
    updPoint_quiet_moves p _ rfl rfl rfl rfl id
  unfold nozzleFrameEvent
  dsimp only
  split
  · exact ((received _).andThen (takeMessage_moves ..)).mono (by decide)
  · exact (received _).mono (by decide)

theorem uncoupled_moves (p : PointId) (now : Nat) (s : State) :
    Moves [.points] ∅ s (s.updPoint p (PointUnit.uncoupled now)) := updPoint_quiet_moves p _ rfl rfl rfl rfl id

theorem nozzleBreakEvent_moves (p : PointId) (s : State) : Moves orderParts ∅ s (nozzleBreakEvent p s) := by
  unfold nozzleBreakEvent
  dsimp only
  split
  · split
    · exact ((uncoupled_moves ..).andThen (stopPoint_moves ..)).mono (by decide)
    · exact (uncoupled_moves ..).mono (by decide)
  · exact .refl ..

theorem nozzleLineHighEvent_moves (p : PointId) (s : State) :
    Moves [.clock, .mode, .links, .points] ∅ s (nozzleLineHighEvent p s) := by
  unfold nozzleLineHighEvent
  dsimp only
  split
  · exact ((reach_moves ..).andThen ((wake_moves ..).andThen
      (updPoint_quiet_moves p _ (by rfl) (by rfl) (by rfl) (by rfl) (by exact id)))).mono (by decide)
  · exact .refl ..

/-! ## Timers and buttons (R34, R37, R38) -/

theorem primeTimerEvent_moves (p : PointId) (s : State) : Moves timedParts ∅ s (primeTimerEvent p s) := by
  unfold primeTimerEvent
  split
  · exact ((reach_moves ..).andThen (stopPoint_moves ..)).mono (by decide)
  · exact .refl ..

theorem attendanceTimerEvent_moves (p : PointId) (s : State) : Moves timedParts ∅ s (attendanceTimerEvent p s) := by
  unfold attendanceTimerEvent
  split
  · exact ((reach_moves ..).andThen (stopPoint_moves ..)).mono (by decide)
  · exact .refl ..

theorem attendEvent_moves (p : PointId) (s : State) : Moves [.mode, .links, .points] ∅ s (attendEvent p s) := by
  have restarted (due : Option Nat) (u : State) : Moves [.points] ∅ u (u.updPoint p fun u => { u with attendDue := due }) :=
    updPoint_quiet_moves p _ rfl rfl rfl rfl id
  unfold attendEvent
  dsimp only
  split
  case h_1 | h_2 =>
    split
    · exact ((wake_moves ..).andThen (restarted ..)).mono (by decide)
    · exact (wake_moves ..).mono (by decide)
  all_goals exact (wake_moves ..).mono (by decide)

/-! ## Window ends (R24, R34 to R36, R40) -/

theorem judgeFlowing_moves (was : PointState) (p : PointId) (flow : Nat) (s : State) :
    Moves [.points] ∅ s (judgeFlowing was p flow s) := by
  unfold judgeFlowing
  split
  · next h =>
    obtain ⟨-, primes, -⟩ := h
    have quiet (ident : (s.point p).IdentFits) : ¬(s.point p).identDue.isSome = true := fun some => by
      have := ident some
      rw [primes] at this; cases this
    refine updPoint_moves p _ (fun _ ident fits => ⟨fun some => absurd some (quiet ident), ?_⟩) (fun _ h => h)
      (fun _ ident => ⟨fun some => absurd some (quiet ident), fun halted => ?_⟩) (fun _ => rfl) fun _ o ho => ⟨o, ho, rfl⟩
    · unfold PointUnit.FitsButMeter at fits ⊢
      rw [primes] at fits
      exact fits
    · simpa [PointUnit.Halted, primes] using halted
  · exact .refl ..

theorem judgeQuiet_moves (was : PointState) (p : PointId) (s : State) : Moves closeParts ∅ s (judgeQuiet was p s) := by
  unfold judgeQuiet
  dsimp only
  split <;> [exact finishClose_moves ..; exact .refl ..]

theorem countWindow_moves (was : PointState) (p : PointId) (set : PointSettings) (flow : Nat) (s : State) :
    Moves [.points] ∅ s (s.updPoint p (countWindow was set flow)) := by
  unfold countWindow
  split <;> exact updPoint_quiet_moves p _ rfl rfl rfl rfl id

theorem nextWindow_moves (p : PointId) (w : Working) (reading : Option Int) (s : State) :
    Moves [.points] ∅ s (s.updPoint p fun u => { u with meter := nextWindow u.meter w reading }) :=
  updPoint_quiet_moves p _ rfl rfl rfl rfl id

/-- R4: a window end of a point, whose meter goes on. -/
theorem pointWindowEnd_moves (p : PointId) (w : Working) (reading : Option Int) (s : State) :
    Moves timedParts ∅ s (pointWindowEnd p w reading s) := by
  unfold pointWindowEnd
  extract_lets u s₁ net r s₂ s₃ causes s₄
  have reached : Moves [.clock] ∅ s s₁ := reach_moves ..
  have ended : Moves ([.points] ++ postingParts) ∅ s₁ s₂ :=
    (nextWindow_moves p w reading s₁).andThen (takeResult_moves p r _)
  have counted : Moves _ ∅ s₂ s₃ := countWindow_moves ..
  have stopped : Moves _ ∅ s₃ s₄ :=
    (handReportsAt_moves ..).andThen (.forEach _ _ (fun c _ s => stopPoint_moves none c p s) _)
  have judged := (judgeFlowing_moves u.state p r.flow s₄).andThen (judgeQuiet_moves u.state p _)
  exact (reached.andThen (ended.andThen (counted.andThen (stopped.andThen judged)))).mono (by decide)

theorem pointStopExpires_moves (p : PointId) (reading : Option Int) (leak : Bool) (s : State) :
    Moves orderParts ∅ s (pointStopExpires p reading leak s) := by
  unfold pointStopExpires
  dsimp only
  have leaks : Moves [.points] ∅ s (if leak then addSecondary p .valveLeak s else s) := by
    split <;> [exact addSecondary_moves ..; exact .refl ..]
  refine Moves.mend (J := {.pointMetered p}) ?_ ∅ fun x hx _ _ => ?_
  · exact ((leaks.weaken _).andThen ((endWindow_moves ..).andThen (((handReports_moves _).weaken _).andThen
      ((finishClose_moves ..).weaken _)))).mono (by decide)
  · obtain rfl : x = .pointMetered p := hx
    intro some
    rw [finishClose_order] at some
    cases some

end Sys2Proof.Machine

/-! # The inlets: closing, stopping, settling and the windows of deliveries -/

namespace Sys2Proof.Machine

open Sys2Proof

/-! ## Inlets changed in nothing that a law forbids -/

/-- The fifth law where an inlet's delivery has closed or no longer receives. -/
theorem TripsBut.of_inlets {P : Set PointId} {I : Set InletId} {s t : State} (h : s.TripsBut P I)
    (points : t.points = s.points) (latches : Part.latches.same s t) (sets : Part.tankSets.same s t)
    (inlets : ∀ j, t.inlet j = s.inlet j ∨ ∀ d ∈ (t.inlet j).delivery, ¬(t.inlet j).Going) : t.TripsBut P I := by
  obtain ⟨hp, hi, ident⟩ := h
  have point : t.point = s.point := by funext p; simp only [State.point, points]
  refine ⟨fun p hP => ?_, fun j hI d hd going => ?_, fun p => ?_⟩
  · rw [isSet_of_same latches, point]; exact hp p hP
  · rcases inlets j with same | still
    · rw [tankTripped_of_same latches sets]
      rw [same] at hd going
      exact hi j hI d hd going
    · exact absurd going (still d hd)
  · rw [point]; exact ident p

/-- An inlet changed in nothing that the laws read. -/
theorem updInlet_quiet_moves (i : InletId) (f : InletUnit → InletUnit) {s : State}
    (state : (f (s.inlet i)).state = (s.inlet i).state) (valve : (f (s.inlet i)).valve = (s.inlet i).valve)
    (delivery : (f (s.inlet i)).delivery = (s.inlet i).delivery)
    (meter : (f (s.inlet i)).meter.working = (s.inlet i).meter.working) : Moves [.inlets] ∅ s (s.updInlet i f) := by
  refine updInlet_moves i _ (fun _ h => ?_) (fun _ h => ?_) (fun _ going => ⟨?_, fun d hd => ⟨d, ?_, rfl, id⟩⟩) fun _ => ?_
  · simpa only [InletUnit.FitsButMeter, state, valve, delivery, meter] using h
  · simpa only [InletUnit.Metered, state, delivery, meter] using h
  · simpa only [InletUnit.Going, state] using going
  · rw [← delivery]; exact hd
  · rw [delivery]

/-! ## The close (R101) -/

theorem delivery_entriesSum (d : Delivery) : EntriesSum d.entries d.net := by
  unfold Delivery.entries EntriesSum entriesSum
  split
  · next h => simp [h]
  · simp

theorem deliveryRecord_entriesSum (i : InletId) (d : Delivery) (cause : Cause) (x : SettleOutcome) (now n : Nat) :
    (Record.delivery (deliveryRecord i d cause x now n)).entriesSum := delivery_entriesSum d

theorem recordDelivery_moves (i : InletId) (d : Delivery) (cause : Cause) (x : SettleOutcome) (s : State) :
    Moves [.journal, .links] {.reserve} s (recordDelivery i d cause x s) := by
  have written : Moves [.journal] {.reserve} s
      (journalWrite (fun n => .delivery (deliveryRecord i d cause x s.seconds n)) true s) :=
    journalWrite_moves true (.inl (deliveryRecord_entriesSum ..)) rfl
  exact (written.andThen ((post_moves ..).weaken _)).mono (by decide)

theorem recordDelivery_journal (i : InletId) (d : Delivery) (cause : Cause) (x : SettleOutcome) (s : State) :
    (recordDelivery i d cause x s).journal =
      (journalWrite (fun n => .delivery (deliveryRecord i d cause x s.seconds n)) true s).journal :=
  State.post_journal ..

/-- What the close of a delivery touches. -/
def inletParts : List Part := [.inlets, .tanks, .draws, .reports, .links, .journal]

section
variable {i : InletId} {x : SettleOutcome} {s : State}

theorem closeDelivery_none (h : (s.inlet i).delivery = none) : closeDelivery i x s = s := by
  rw [closeDelivery, h]

theorem closeDelivery_some {d : Delivery} (h : (s.inlet i).delivery = some d) :
    closeDelivery i x s = settledReportsAfterClose ((recordDelivery i (letGo d) (d.termination.getD .stopped) x
      (clearReceiving i s)).updInlet i InletUnit.closed) := by
  have gone : ((clearReceiving i s).inlet i).delivery = some (letGo d) := by
    rw [clearReceiving_inlet, if_pos rfl, h]; rfl
  rw [closeDelivery, h]
  dsimp only
  rw [gone]
  rfl

/-- The inlet of a closed delivery, and the other. -/
theorem closeDelivery_inlet {d : Delivery} (h : (s.inlet i).delivery = some d) (j : InletId) :
    (closeDelivery i x s).inlet j = if i = j then (s.inlet i).closed else s.inlet j := by
  rw [closeDelivery_some h]
  set t := clearReceiving i s with ht
  have inlets : (settledReportsAfterClose ((recordDelivery i (letGo d) (d.termination.getD .stopped) x t).updInlet i
      InletUnit.closed)).inlets = (t.updInlet i InletUnit.closed).inlets := by
    refine ((settledReportsAfterClose_moves _).same .inlets).trans ?_
    have same : (recordDelivery i (letGo d) (d.termination.getD .stopped) x t).inlets = t.inlets :=
      (recordDelivery_moves ..).same .inlets
    simp only [State.updInlet, same]
  have cleared (j : InletId) := clearReceiving_inlet i j s
  rw [show (settledReportsAfterClose ((recordDelivery i (letGo d) (d.termination.getD .stopped) x t).updInlet i
      InletUnit.closed)).inlet j = (t.updInlet i InletUnit.closed).inlet j from by simp only [State.inlet, inlets],
    inlet_updInlet, ht, cleared, cleared, if_pos rfl]
  split <;> rfl

theorem closeDelivery_delivery : ((closeDelivery i x s).inlet i).delivery = none := by
  cases h : (s.inlet i).delivery with
  | none => rw [closeDelivery_none h, h]
  | some d => rw [closeDelivery_inlet h, if_pos rfl]; rfl

/-- R101: the journal of a closed delivery. -/
theorem closeDelivery_journal {d : Delivery} (h : (s.inlet i).delivery = some d) :
    (closeDelivery i x s).journal = (journalWrite
      (fun n => .delivery (deliveryRecord i d (d.termination.getD .stopped) x s.seconds n)) true s).journal := by
  have cleared := clearReceiving_moves i (s := s) (H := tripLaws) (.inr (subset_refl _))
  have journal : (clearReceiving i s).journal = s.journal := cleared.same .journal
  have clock : (clearReceiving i s).clock = s.clock := cleared.same .clock
  rw [closeDelivery_some h]
  refine ((settledReportsAfterClose_moves _).same .journal).trans ?_
  rw [State.updInlet_journal, recordDelivery_journal]
  simp only [journalWrite, journal, State.seconds, clock]
  rfl

theorem closed_fits (u : InletUnit) : u.closed.FitsButMeter ∧ u.closed.Metered ∧ ¬u.closed.Going :=
  ⟨⟨rfl, rfl, rfl⟩, nofun, fun going => by rcases going with h | h <;> cases h⟩

theorem closeDelivery_moves (i : InletId) (x : SettleOutcome) (s : State) :
    Moves inletParts ∅ s (closeDelivery i x s) := by
  cases h : (s.inlet i).delivery with
  | none => rw [closeDelivery_none h]; exact .refl ..
  | some d =>
    have inlet := closeDelivery_inlet (x := x) h
    have journal := closeDelivery_journal (x := x) h
    have gone : ((closeDelivery i x s).inlet i).delivery = none := closeDelivery_delivery
    have closes (u : State) : Moves [.inlets] (insert .reserve tripLaws) u (u.updInlet i InletUnit.closed) :=
      updInlet_moves i _ (fun _ _ => (closed_fits _).1) (fun _ _ => (closed_fits _).2.1)
        (fun h => absurd (Set.subset_insert ..) h) (fun h => absurd (by simp) h)
    have frame : Moves inletParts (insert .reserve tripLaws) s (closeDelivery i x s) := by
      rw [closeDelivery_some h]
      exact ((clearReceiving_moves i (.inr (Set.subset_insert ..))).andThen
        (((recordDelivery_moves ..).mend _ fun y hy hn _ => absurd (by simp [show y = .reserve from hy]) hn).andThen
          ((closes _).andThen ((settledReportsAfterClose_moves _).weaken _)))).mono (by decide)
    refine frame.mend ∅ fun y hy _ hs => ?_
    rcases hy with rfl | ⟨P, I, rfl⟩
    · refine ReserveHeld.of_close (s := s) hs (openOperations_of_inlet_closed (i := i) (frame.same .points)
        (by simp [h]) gone fun j hj => ?_) (by rw [journal]; rfl) (by rw [journal]; rfl) (frame.same .curtailed)
      rw [inlet, if_neg (Ne.symm hj)]
    · refine TripsBut.of_inlets hs (frame.same .points) (frame.same .latches) (frame.same .tankSets) fun j => ?_
      by_cases hj : i = j
      · right
        intro d hd
        rw [← hj, gone] at hd
        cases hd
      · left
        rw [inlet, if_neg hj]

end

/-! ## The end of a window, and the close at once (R14, R91) -/

theorem endInletWindow_moves (i : InletId) (reading : Option Int) (s : State) :
    Moves (.inlets :: stockParts) {.inletMetered i} s (endInletWindow i reading s) := by
  unfold endInletWindow
  dsimp only
  split
  · exact .refl ..
  · have idles : Moves [.inlets] {.inletMetered i} s (s.updInlet i fun u => { u with meter := .idle }) := by
      refine updInlet_moves i _ (fun _ fits => ?_) (fun h => absurd rfl h) (fun _ going => ⟨going, fun d hd =>
        ⟨d, hd, rfl, id⟩⟩) fun _ => rfl
      unfold InletUnit.FitsButMeter at fits ⊢
      split at fits <;> simp_all
    exact (idles.andThen ((takeDeliveryResult_moves ..).weaken _)).mono (by decide)

theorem closeAwaiting_moves (i : InletId) (c : Cause) (s : State) : Moves inletParts ∅ s (closeAwaiting i c s) := by
  unfold closeAwaiting
  dsimp only
  refine Moves.mend (J := {.inletMetered i}) ?_ ∅ fun x hx _ _ => ?_
  · exact ((endInletWindow_moves ..).andThen (((updDelivery_moves i _ (fun _ => by rfl) fun _ h => by exact h).weaken
      _).andThen ((closeDelivery_moves ..).weaken _))).mono (by decide)
  · obtain rfl : x = .inletMetered i := hx
    intro some
    rw [closeDelivery_delivery] at some
    cases some

/-! ## Stopping (R94 to R97) -/

theorem enterInletStopping_moves {i : InletId} {s : State} (c : Cause) (receives : (s.inlet i).state = .receiving) :
    Moves [.inlets] ∅ s (enterInletStopping i c s) := by
  refine ((updInlet_moves i _ (fun _ fits => ?_) (fun _ h some _ => ?_) (fun _ going => ?_) (fun _ => ?_)).andThen
    (updDelivery_moves i _ (fun _ => by rfl) fun _ h => by exact h)).mono (by decide)
  · unfold InletUnit.FitsButMeter at fits ⊢
    rw [receives] at fits
    exact ⟨fits.1, rfl⟩
  · exact h some (by rw [receives]; decide)
  · rcases going with h | h <;> cases h
  · rfl

theorem addDeliverySecondary_moves (i : InletId) (c : Cause) (s : State) :
    Moves [.inlets] ∅ s (addDeliverySecondary i c s) := updDelivery_moves i _ (fun _ => rfl) fun _ h => h

theorem stopInlet_moves (c : Cause) (i : InletId) (s : State) : Moves inletParts ∅ s (stopInlet c i s) := by
  unfold stopInlet
  split
  · exact .refl ..
  · exact .refl ..
  · exact closeAwaiting_moves ..
  · next h => exact (enterInletStopping_moves c h).mono (by decide)
  · exact (addDeliverySecondary_moves ..).mono (by decide)

/-- R96, R98: an inlet with a delivery begins its settle. -/
theorem enterSettling_moves {i : InletId} {s : State} {H : Set Law}
    (held : (s.inlet i).delivery.isSome = true ∨ .units ∈ H) :
    Moves (.inlets :: stockParts) H s (enterSettling i s) := by
  unfold enterSettling
  dsimp only
  have settles (due : Option Nat) : Moves [.inlets] H s (s.updInlet i fun u =>
      { u with state := .settling, valve := false, meter := .idle, stopDue := none, settleDue := due }) := by
    refine updInlet_moves i _ (fun h _ => ⟨held.resolve_right h, rfl, rfl⟩) (fun _ _ _ h => absurd rfl h)
      (fun _ going => ?_) fun _ => rfl
    rcases going with h | h <;> cases h
  refine Moves.mono (K := [.inlets] ++ ([.inlets] ++ (.inlets :: stockParts))) ((settles _).andThen (.andThen
    ((updDelivery_moves i _ (fun _ => by rfl) fun _ h => by exact h).weaken H) (clearReceiving_moves i (.inl ?_)))) ?_
  · rw [inlet_updDelivery, if_pos rfl, inlet_updInlet_self]
    rintro (h | h) <;> cases h
  · decide

theorem cutSettle_moves (i : InletId) (s : State) : Moves inletParts ∅ s (cutSettle i s) := closeDelivery_moves ..

theorem stopDeliveryTaken_moves (i : InletId) (s : State) : Moves inletParts ∅ s (stopDeliveryTaken i s).state := by
  unfold stopDeliveryTaken
  split
  · exact cutSettle_moves ..
  · exact stopInlet_moves ..
  · exact ((stopInlet_moves ..).andThen (updInlet_quiet_moves i _ (by rfl) (by rfl) (by rfl) (by rfl))).mono (by decide)
  · exact stopInlet_moves ..
  · exact stopInlet_moves ..

/-! ## Coupling (R91, R95) -/

theorem couple_moves (i : InletId) (s : State) : Moves inletParts ∅ s (couple i s) := by
  unfold couple
  split
  · next d waits held =>
    split
    · exact closeAwaiting_moves ..
    · have coupled : Moves [.inlets] ∅ s (s.updInlet i fun u => { u with state := .receiving, valve := true }) :=
        updInlet_moves i _ (fun _ _ => ⟨by rw [held]; rfl, rfl⟩) (fun _ h some _ => h some (by rw [waits]; decide))
          (fun _ _ => ⟨.inl waits, fun d hd => ⟨d, hd, rfl, id⟩⟩) fun _ => rfl
      exact coupled.mono (by decide)
  · exact .refl ..

theorem inletCoupledActiveEvent_moves (i : InletId) (s : State) :
    Moves (.mode :: inletParts) ∅ s (inletCoupledActiveEvent i s) := by
  unfold inletCoupledActiveEvent
  split
  · exact .refl ..
  · exact ((wake_moves ..).andThen ((updInlet_quiet_moves i _ (by rfl) (by rfl) (by rfl) (by rfl)).andThen
      (couple_moves ..))).mono (by decide)

theorem inletCoupledInactiveEvent_moves (i : InletId) (s : State) :
    Moves inletParts ∅ s (inletCoupledInactiveEvent i s) := by
  have uncoupled : Moves [.inlets] ∅ s (s.updInlet i fun u => { u with coupled := false }) :=
    updInlet_quiet_moves i _ rfl rfl rfl rfl
  unfold inletCoupledInactiveEvent
  dsimp only
  split
  · split
    case h_1 | h_2 => exact (uncoupled.andThen (stopInlet_moves ..)).mono (by decide)
    all_goals exact uncoupled.mono (by decide)
  · exact .refl ..

/-! ## Window ends (R92, R96) -/

theorem nextInletWindow_moves (i : InletId) (w : Working) (reading : Option Int) (s : State) :
    Moves [.inlets] ∅ s (s.updInlet i fun u => { u with meter := nextWindow u.meter w reading }) :=
  updInlet_quiet_moves i _ rfl rfl rfl rfl

theorem countInletWindow_moves (i : InletId) (set : InletSettings) (flow : Nat) (s : State) :
    Moves [.inlets] ∅ s (s.updInlet i (countInletWindow set flow)) := updInlet_quiet_moves i _ rfl rfl rfl rfl

theorem stopInlet_stopping {c : Cause} {i : InletId} {s : State} (h : (s.inlet i).state = .stopping) :
    ((stopInlet c i s).inlet i).state = .stopping := by
  rw [stopInlet, h]
  change ((s.updDelivery i _).inlet i).state = _
  rw [inlet_updDelivery, if_pos rfl]
  exact h

/-- R13, R92: the inlets after a window of a delivery. -/
theorem takeDeliveryResult_inlets (i : InletId) (r : WindowResult) (s : State) :
    (takeDeliveryResult i r s).inlets = (s.updDelivery i (addDeliveryResult r)).inlets := by
  have same : (postDeliveryWindow i r.net s).inlets = s.inlets := (postDeliveryWindow_moves ..).same .inlets
  simp only [takeDeliveryResult, State.updDelivery, State.updInlet, same]

theorem takeDeliveryResult_inlet (i j : InletId) (r : WindowResult) (s : State) :
    (takeDeliveryResult i r s).inlet j = if i = j then
      { s.inlet i with delivery := (s.inlet i).delivery.map (addDeliveryResult r) } else s.inlet j := by
  rw [← inlet_updDelivery]
  simp only [State.inlet, takeDeliveryResult_inlets]

/-- R96: the quiet of a STOPPING inlet judged. -/
theorem judgeInletQuiet_moves {was : InletState} {i : InletId} {s : State}
    (still : was = .stopping → (s.inlet i).state = .stopping) :
    Moves (.inlets :: stockParts) ∅ s (judgeInletQuiet was i s) := by
  unfold judgeInletQuiet
  dsimp only
  split
  · next h =>
    by_cases held : (s.inlet i).delivery.isSome = true
    · exact enterSettling_moves (.inl held)
    · refine (enterSettling_moves (H := {.units}) (.inr rfl)).mend ∅ fun x hx _ hs => absurd ?_ held
      obtain rfl : x = .units := hx
      have fits := hs.2.1 i
      rw [InletUnit.FitsButMeter, still h.1] at fits
      exact fits.1
  · exact .refl ..

theorem inletWindowEnd_moves (i : InletId) (w : Working) (reading : Option Int) (s : State) :
    Moves (.clock :: inletParts) ∅ s (inletWindowEnd i w reading s) := by
  unfold inletWindowEnd
  extract_lets u s₁ r s₂ s₃ s₄ s₅
  have reached : Moves [.clock] ∅ s s₁ := reach_moves ..
  have ended : Moves ([.inlets] ++ (.inlets :: stockParts)) ∅ s₁ s₃ :=
    (nextInletWindow_moves i w reading s₁).andThen (takeDeliveryResult_moves i r _)
  have judged : Moves ([.inlets] ++ inletParts) ∅ s₃ s₅ := by
    have all := (countInletWindow_moves i (s₃.inletSet i) r.flow s₃).andThen
      (Moves.forEach (inletWindowCauses i s₄) _ (fun c _ s => stopInlet_moves c i s) _)
    change Moves _ ∅ s₃ (if _ then _ else _)
    split <;> [exact all; exact .refl ..]
  refine (reached.andThen (ended.andThen (judged.andThen (judgeInletQuiet_moves fun stops => ?_)))).mono (by decide)
  have before : (s₃.inlet i).state = .stopping := by
    change ((takeDeliveryResult i r (s₁.updInlet i _)).inlet i).state = _
    rw [takeDeliveryResult_inlet, if_pos rfl, inlet_updInlet_self]
    change (s₁.inlet i).state = _
    rw [show s₁.inlet i = s.inlet i from by simp [s₁, State.inlet]]
    exact stops
  change ((if _ then _ else _ : State).inlet i).state = _
  split
  · refine forEach_invariant (P := fun s => (s.inlet i).state = .stopping) _ _
      (fun c s h => stopInlet_stopping h) _ ?_
    rw [inlet_updInlet_self]
    exact before
  · exact before

/-! ## Timers (R96, R98) -/

theorem endInletWindow_delivery (i : InletId) (reading : Option Int) (s : State) :
    ((endInletWindow i reading s).inlet i).delivery.isSome = (s.inlet i).delivery.isSome := by
  unfold endInletWindow
  dsimp only
  split
  · rfl
  · rw [takeDeliveryResult_inlet, if_pos rfl, inlet_updInlet_self]
    simp

/-- R96: the end of the last window and the beginning of the settle; the meter is IDLE then. -/
theorem inletStopExpires_moves {i : InletId} {s : State} (reading : Option Int) (leak : Bool)
    (held : (s.inlet i).delivery.isSome = true) : Moves inletParts ∅ s (inletStopExpires i reading leak s) := by
  unfold inletStopExpires
  extract_lets s₁
  have leaks : Moves [.inlets] ∅ s s₁ := by
    change Moves _ _ _ (if _ then _ else _)
    split <;> [exact addDeliverySecondary_moves ..; exact .refl ..]
  have held' : (s₁.inlet i).delivery.isSome = true := by
    change ((if _ then _ else _ : State).inlet i).delivery.isSome = _
    split
    · change ((s.updDelivery i _).inlet i).delivery.isSome = _
      rw [inlet_updDelivery, if_pos rfl]
      simpa using held
    · exact held
  refine Moves.mend (J := {.inletMetered i}) ?_ ∅ fun x hx _ _ => ?_
  · exact ((leaks.weaken _).andThen ((endInletWindow_moves ..).andThen (enterSettling_moves (.inl
      (by rw [endInletWindow_delivery]; exact held'))))).mono (by decide)
  · obtain rfl : x = .inletMetered i := hx
    intro _ settling
    refine absurd ?_ settling
    change ((clearReceiving i _).inlet i).state = _
    rw [clearReceiving_inlet, if_pos rfl]
    change ((State.updDelivery i _ _).inlet i).state = _
    rw [inlet_updDelivery, if_pos rfl, inlet_updInlet_self]

theorem extendSettle_moves (i : InletId) (s : State) : Moves [.inlets] ∅ s (extendSettle i s) :=
  ((updInlet_quiet_moves i _ (by rfl) (by rfl) (by rfl) (by rfl)).andThen
    (updDelivery_moves i _ (fun _ => by rfl) fun _ h => by exact h)).mono (by decide)

theorem settleTimerEvent_moves (i : InletId) (s : State) :
    Moves (.clock :: inletParts) ∅ s (settleTimerEvent i s) := by
  have closes (x : SettleOutcome) (due : Nat) : Moves (.clock :: inletParts) ∅ s (closeDelivery i x (s.reach due)) :=
    ((reach_moves ..).andThen (closeDelivery_moves ..)).mono (by decide)
  unfold settleTimerEvent
  dsimp only
  split
  · split
    · exact closes ..
    · exact closes ..
    all_goals
      split
      · exact closes ..
      · split
        · exact ((reach_moves ..).andThen (extendSettle_moves ..)).mono (by decide)
        · exact closes ..
  · exact .refl ..

theorem judgeGaugeLevel_moves (t : TankId) (s : State) : Moves inletParts ∅ s (judgeGaugeLevel t s) :=
  .forEach _ _ (fun i _ s => by split <;> [exact stopInlet_moves ..; exact .refl ..]) s

end Sys2Proof.Machine

/-! # The shutdown unit: latches, what they hand on, the trip log and the inputs -/

namespace Sys2Proof.Machine

open Sys2Proof

/-! ## Latches -/

theorem latch_setLatch (x y : LatchId) (l : Latch) (s : State) :
    (s.setLatch x l).latch y = if x = y then l else s.latch y := by
  split
  · next h => subst h; exact latch_setLatch_self ..
  · next h =>
    cases x <;> cases y <;> try rfl
    case point.point p q => exact look_put_ne _ _ fun e => h (congrArg LatchId.point e)
    case bund.bund p q => exact look_put_ne _ _ fun e => h (congrArg LatchId.bund e)
    case bay.bay => exact absurd rfl h

theorem isSet_setLatch (x y : LatchId) (l : Latch) (s : State) :
    (s.setLatch x l).isSet y = if x = y then decide (l.state ≠ .normal) else s.isSet y := by
  unfold State.isSet
  rw [latch_setLatch]
  split <;> rfl

theorem setLatch_frame (x : LatchId) (l : Latch) (s : State) :
    Moves [.latches] (tripLaws ∪ drawLaws) s (s.setLatch x l) := by
  refine .of_frame (by simp) (by simp) (fun y hy => ?_) fun y hy touched _ => ?_
  · cases y <;> simp [Part.same] at hy ⊢
  · cases y <;> simp [Law.parts, drawLaws, tripLaws] at touched hy

/-- The fourth law of a state that has the same stock, chains and tank settings, from what it does to readiness. -/
theorem DrawsBut.of_ready {A B : Set ProductId} {s t : State} (h : s.DrawsBut A) (tanks : Part.tanks.same s t)
    (draws : t.stock.draws = s.stock.draws) (products : Part.products.same s t) (sets : Part.tankSets.same s t)
    (ready : ∀ k, k ∉ B → k ∉ A ∧ ∀ u, u ∈ (s.draw k).current ∧ (s.tankSet u).product = k →
      s.ready u = true → t.ready u = true) : t.DrawsBut B := by
  obtain ⟨conditions, chains, mem, was⟩ := h
  have draw : t.draw = s.draw := by funext k; simp only [State.draw, draws]
  refine ⟨fun u => ?_, fun k u => ?_, fun k u => ?_, fun k hk u hu => ?_⟩
  · rw [conditionsCurrent_of_same tanks products sets]; exact conditions u
  · rw [productSet_of_same products, tankSet_of_same sets]; exact chains k u
  · rw [productSet_of_same products, draw]; exact mem k u
  · rw [draw] at hu
    exact (ready k hk).2 u ⟨hu, chains k u (mem k u hu)⟩ (was k (ready k hk).1 u hu)

/-- A latch set to a state that is set only if it was: no point, inlet or tank has to stop for it. -/
theorem setLatch_moves {x : LatchId} {l : Latch} {s : State} (was : l.state ≠ .normal → s.isSet x = true) :
    Moves [.latches] ∅ s (s.setLatch x l) := by
  have set' (y : LatchId) (h : (s.setLatch x l).isSet y = true) : s.isSet y = true := by
    rw [isSet_setLatch] at h
    split at h
    · next e => subst e; exact was (by simpa using h)
    · exact h
  have frame := setLatch_frame x l s
  have sets : (s.setLatch x l).tankSet = s.tankSet := tankSet_of_same (frame.same .tankSets)
  have tripped (t : TankId) (h : s.tankTripped t = false) : (s.setLatch x l).tankTripped t = false := by
    rw [State.tankTripped, Bool.or_eq_false_iff] at h ⊢
    rw [sets]
    exact ⟨Bool.eq_false_iff.2 fun set => Bool.eq_false_iff.1 h.1 (set' _ set),
      Bool.eq_false_iff.2 fun set => Bool.eq_false_iff.1 h.2 (set' _ set)⟩
  refine frame.mend ∅ fun y hy _ hs => ?_
  rcases hy with ⟨P, I, rfl⟩ | ⟨B, rfl⟩
  · obtain ⟨points, inlets, idents⟩ := hs
    have point : (s.setLatch x l).point = s.point := by funext p; simp only [State.point, State.setLatch_points]
    have inlet : (s.setLatch x l).inlet = s.inlet := by funext p; simp only [State.inlet, State.setLatch_inlets]
    refine ⟨fun p hp set => ?_, fun i hi d hd going => ?_, fun p => ?_⟩
    · rw [point]
      refine points p hp ?_
      rw [Bool.or_eq_true] at set ⊢
      exact set.imp (set' _) (set' _)
    · rw [inlet] at hd going
      exact (inlets i hi d hd going).imp_left (tripped d.tank)
    · rw [point]; exact idents p
  · refine DrawsBut.of_ready hs (frame.same .tanks) (by simp) (frame.same .products) (frame.same .tankSets)
      fun k hk => ⟨hk, fun t _ was => ?_⟩
    have clear : s.tankTripped t = false := by
      rw [Bool.eq_false_iff]
      intro h
      have shows : s.tankShows t = .available := by simpa using (Bool.and_eq_true_iff.1 was).1
      rw [State.tankShows, h] at shows
      split at shows <;> cases shows
    rw [← was]
    simp only [State.ready, State.tankShows, sets, tank_of_same (frame.same .tanks), tripped t clear, clear]

/-! ## The trip log and the rest of the unit -/

theorem setLog_moves {log : List TripEntry} {s : State}
    (bounded : s.shutdown.log.length ≤ Config.maxTripLog → log.length ≤ Config.maxTripLog) :
    Moves [.log] ∅ s (s.setLog log) := by
  refine .of_frame rfl rfl (fun x hx => by cases x <;> simp [Part.same, State.setLog] at hx ⊢) fun x _ touched hs => ?_
  cases x <;> simp [Law.parts] at touched
  exact bounded hs

theorem changeEntry_moves (number : Option Nat) (f : TripEntry → TripEntry) (s : State) :
    Moves [.log] ∅ s (changeEntry number f s) := setLog_moves fun h => by simpa using h

theorem nextTrip_moves (n : Nat) (s : State) :
    Moves [.shutdownRest] ∅ s { s with shutdown := { s.shutdown with nextTrip := n } } :=
  .of_untouched rfl rfl (fun x hx => by cases x <;> simp [Part.same] at hx ⊢)
    (by intro x; cases x <;> simp [Law.parts])

theorem updDebounced_moves (x : DebouncedInput) (f : Input → Input) (s : State) :
    Moves [.shutdownRest] ∅ s (s.updDebounced x f) := by
  refine .of_untouched ?_ ?_ (fun y hy => ?_) (by intro x; cases x <;> simp [Law.parts]) <;> cases x
  all_goals first | rfl | (cases y <;> simp [Part.same, State.updDebounced] at hy ⊢)

theorem setBypass_moves (x : BypassId) (b : Option Bypass) (s : State) :
    Moves [.shutdownRest] ∅ s (s.setBypass x b) := by
  refine .of_untouched ?_ ?_ (fun y hy => ?_) (by intro x; cases x <;> simp [Law.parts]) <;> cases x
  all_goals first | rfl | (cases y <;> simp [Part.same, State.setBypass] at hy ⊢)

theorem setEstop_moves (level : Bool) (s : State) : Moves [.shutdownRest] ∅ s (s.setEstop level) :=
  .of_untouched rfl rfl (fun x hx => by cases x <;> simp [Part.same, State.setEstop] at hx ⊢)
    (by intro x; cases x <;> simp [Law.parts])

theorem setKey_moves (key : Bool) (s : State) : Moves [.shutdownRest] ∅ s (s.setKey key) :=
  .of_untouched rfl rfl (fun x hx => by cases x <;> simp [Part.same, State.setKey] at hx ⊢)
    (by intro x; cases x <;> simp [Law.parts])

/-- R152: an examination takes a TRIPPED latch to CLEARABLE, which is set as well. -/
theorem examine_moves (x : LatchId) (s : State) : Moves [.latches, .links] ∅ s (examine x s) := by
  unfold examine
  dsimp only
  split
  · next h =>
    exact ((setLatch_moves fun _ => by simp [State.isSet, h.1]).andThen (post_moves ..)).mono (by decide)
  · exact .refl ..

theorem examineHolding_moves (x : LineInput) (s : State) : Moves [.latches, .links] ∅ s (examineHolding x s) :=
  .forEach _ _ (fun x _ s => examine_moves x s) s

/-! ## Chain checks of the products that a latch covers (R155, R159) -/

theorem DrawsBut.mono {A B : Set ProductId} {s : State} (h : s.DrawsBut A) (sub : A ⊆ B) : s.DrawsBut B :=
  ⟨h.1, h.2.1, h.2.2.1, fun k hk => h.2.2.2 k fun hA => hk (sub hA)⟩

/-- R69: the products of a list, each checked: their draw tanks serve again. -/
theorem forEach_chainCheck_drawsBut {ks : List ProductId} {B : Set ProductId} {s : State}
    (h : s.DrawsBut (B ∪ {k | k ∈ ks})) : (forEach ks (fun k => chainCheck k false) s).DrawsBut B := by
  induction ks generalizing s with
  | nil => exact DrawsBut.mono h (by simp)
  | cons k ks ih =>
    refine ih (s := chainCheck k false s) (DrawsBut.mono (chainCheck_drawsBut false h) ?_)
    rintro j ⟨hj, hk⟩
    rcases hj with hj | hj
    · exact .inl hj
    · exact .inr ((List.mem_cons.1 hj).resolve_left hk)

theorem checkProducts_moves (x : LatchId) (s : State) : Moves [.draws, .reports, .links] ∅ s (checkProducts x s) :=
  .forEach _ _ (fun k _ s => chainCheck_moves k false s) s

/-! ## A latch that trips (R150) -/

theorem tripLatch_frame (h : Handing) (s : State) :
    Moves [.latches, .log, .shutdownRest] (tripLaws ∪ drawLaws) s (tripLatch h s) := by
  refine Moves.mono (K := [.latches] ++ ([.log] ++ [.shutdownRest])) ((setLatch_frame ..).andThen
    (((setLog_moves (log := logAfter s.shutdown.log (newEntry h s)) ?_).andThen (nextTrip_moves ..)).weaken _))
    (by decide)
  rw [State.setLatch_log]
  exact logAfter_length _ _

theorem tripLatch_latch (h : Handing) (s : State) (y : LatchId) :
    (tripLatch h s).latch y = if h.latch = y then trippedLatch h s else s.latch y := by
  rw [← latch_setLatch]
  cases y <;> rfl

theorem tripLatch_isSet (h : Handing) (s : State) (y : LatchId) :
    (tripLatch h s).isSet y = (decide (h.latch = y) || s.isSet y) := by
  unfold State.isSet
  rw [tripLatch_latch]
  split
  · next e => simp [e, trippedLatch]
  · next e => simp [e]

theorem mem_tanksOf {s : State} {x : LatchId} {t : TankId} :
    t ∈ s.tanksOf x ↔ x = .bund (s.tankSet t).bund ∨ x = .bay := by
  have all : t ∈ allTanks := by revert t; decide
  cases x <;> simp [State.tanksOf, all, eq_comm]

/-- R67: a tank is tripped by a latch that leaves NORMAL just where the latch covers it. -/
theorem tripLatch_tankTripped {h : Handing} {s : State} {t : TankId} (free : t ∉ s.tanksOf h.latch) :
    (tripLatch h s).tankTripped t = s.tankTripped t := by
  rw [mem_tanksOf, not_or] at free
  have sets : (tripLatch h s).tankSet = s.tankSet := tankSet_of_same ((tripLatch_frame h s).same .tankSets)
  simp only [State.tankTripped, tripLatch_isSet, sets, decide_eq_false free.1, decide_eq_false free.2, Bool.false_or]

/-- The points that a hand-on stops. -/
def Handing.points (h : Handing) : Set PointId := {p | p ∈ pointsOf h.latch ∧ h.exemptPoint ≠ some p}

theorem mem_pointsOf {x : LatchId} {p : PointId} : p ∈ pointsOf x ↔ x = .point p ∨ x = .bay := by
  cases x <;> simp [pointsOf, mem_allPoints, eq_comm]

/-- What makes a point or a tank's deliveries exempt from a hand-on: they are stopped already. -/
def Handing.Exempts (h : Handing) (s : State) : Prop :=
  (∀ p, h.exemptPoint = some p → (s.point p).Halted) ∧
  ∀ i, ∀ d ∈ (s.inlet i).delivery, h.exemptTank = some d.tank → ¬(s.inlet i).Going

theorem mem_inletsTripped {s : State} {h : Handing} {i : InletId} :
    i ∈ s.inletsTripped h ↔
      ∃ d ∈ (s.inlet i).delivery, d.tank ∈ s.tanksOf h.latch ∧ h.exemptTank ≠ some d.tank := by
  cases hd : (s.inlet i).delivery <;>
    simp [State.inletsTripped, State.inletsOf, mem_allInlets, hd, and_comm]

/-- R150: a latch that trips leaves its own points and inlets to be stopped. -/
theorem tripLatch_trips {h : Handing} {s : State} {P : Set PointId} {I : Set InletId} (exempt : h.Exempts s)
    (hs : s.TripsBut P I) : (tripLatch h s).TripsBut (P ∪ h.points) (I ∪ {i | i ∈ s.inletsTripped h}) := by
  obtain ⟨points, inlets, idents⟩ := hs
  have point : (tripLatch h s).point = s.point := by
    funext p
    simp only [State.point, show _ = _ from (tripLatch_frame h s).same .points]
  have inlet : (tripLatch h s).inlet = s.inlet := by
    funext i
    simp only [State.inlet, show _ = _ from (tripLatch_frame h s).same .inlets]
  refine ⟨fun p hp set => ?_, fun i hi d hd going => ?_, fun p => by rw [point]; exact idents p⟩
  · rw [point]
    simp only [Set.mem_union, not_or, Handing.points, Set.mem_ofPred_eq, not_and, not_not] at hp
    by_cases covers : p ∈ pointsOf h.latch
    · exact exempt.1 p (hp.2 covers)
    · rw [mem_pointsOf, not_or] at covers
      refine points p hp.1 ?_
      simpa only [tripLatch_isSet, decide_eq_false covers.1, decide_eq_false covers.2, Bool.false_or] using set
  · rw [inlet] at hd going
    simp only [Set.mem_union, not_or, Set.mem_ofPred_eq, mem_inletsTripped, not_exists, not_and, not_not] at hi
    have free : d.tank ∉ s.tanksOf h.latch := fun covers => exempt.2 i d hd (hi.2 d hd covers) going
    rw [tripLatch_tankTripped free]
    exact inlets i hi.1 d hd going

theorem mem_productsOf {s : State} {x : LatchId} {k : ProductId} :
    k ∈ s.productsOf x ↔ ∃ t ∈ s.tanksOf x, (s.tankSet t).product = k := by
  have all : k ∈ allProducts := by revert k; decide
  simp [State.productsOf, all]

/-- R150: a latch that trips leaves the draw tanks of its own products to be checked. -/
theorem tripLatch_drawsBut {h : Handing} {s : State} {B : Set ProductId} (hs : s.DrawsBut B) :
    (tripLatch h s).DrawsBut (B ∪ {k | k ∈ s.productsOf h.latch}) := by
  have frame := tripLatch_frame h s
  refine DrawsBut.of_ready hs (frame.same .tanks) (frame.same .draws) (frame.same .products) (frame.same .tankSets)
    fun k hk => ?_
  simp only [Set.mem_union, not_or, Set.mem_ofPred_eq, mem_productsOf, not_exists, not_and] at hk
  refine ⟨hk.1, fun t ht was => ?_⟩
  have free : t ∉ s.tanksOf h.latch := fun covers => hk.2 t covers ht.2
  refine (ready_of_standing (tripLatch_tankTripped free) ?_ ?_).trans was
  · rw [tankSet_of_same (frame.same .tankSets)]
  · rw [tank_of_same (frame.same .tanks)]
    exact ⟨rfl, rfl, rfl⟩

/-- R151: a further cause leaves a set latch set. -/
theorem furtherCause_moves {h : Handing} {s : State} (set : s.isSet h.latch = true) :
    Moves [.latches, .log] ∅ s (furtherCause h s) :=
  ((setLatch_moves fun _ => set).andThen (changeEntry_moves ..)).mono (by decide)

/-! ## The hand-on (R155, R156) -/

theorem stopInlet_stopped (c : Cause) (i : InletId) (s : State) :
    ∀ d ∈ ((stopInlet c i s).inlet i).delivery, ¬((stopInlet c i s).inlet i).Going := by
  intro d hd going
  unfold stopInlet at hd going
  split at hd <;> next state =>
    rw [state] at going
    dsimp only at going
    first
    | (rcases going with h | h <;> rw [state] at h <;> cases h)
    | (rw [closeAwaiting, closeDelivery_delivery] at hd; cases hd)
    | (rw [enterInletStopping, InletUnit.Going, inlet_updDelivery, if_pos rfl, inlet_updInlet_self] at going
       rcases going with h | h <;> cases h)
    | (rw [addDeliverySecondary, InletUnit.Going, inlet_updDelivery, if_pos rfl] at going
       rcases going with h | h <;> rw [state] at h <;> cases h)

theorem stopPoint_halted (ended : Option PointId) (c : Cause) (p : PointId) (s : State) :
    ((stopPoint ended c p s).point p).Halted := by
  unfold stopPoint
  split
  · next h => exact fun _ => .inl h
  · next h => exact fun _ => .inr (.inl h)
  · intro some
    rw [closeAtOnce, finishClose_order] at some
    cases some
  · intro some
    rw [closeAtOnce, finishClose_order] at some
    cases some
  · rw [enterStopping, point_updOrder, if_pos rfl, point_updPoint_self]
    exact fun _ => .inr (.inr rfl)
  · rw [enterStopping, point_updOrder, if_pos rfl, point_updPoint_self]
    exact fun _ => .inr (.inr rfl)
  · next h =>
    rw [addSecondary, point_updOrder, if_pos rfl]
    exact fun _ => .inr (.inr h)

theorem forEach_stopInlet_trips {c : Cause} {is : List InletId} {P : Set PointId} {I : Set InletId} {s : State}
    (h : s.TripsBut P (I ∪ {i | i ∈ is})) : (forEach is (stopInlet c) s).TripsBut P I := by
  induction is generalizing s with
  | nil => simpa [forEach] using h
  | cons i is ih =>
    refine ih (s := stopInlet c i s) ?_
    obtain ⟨points, inlets, idents⟩ := (stopInlet_moves c i s).law (.trips _ _) (Set.notMem_empty _) h
    refine ⟨points, fun j hj d hd going => ?_, idents⟩
    simp only [Set.mem_union, Set.mem_ofPred_eq, not_or] at hj
    by_cases e : j = i
    · exact absurd going (e ▸ stopInlet_stopped c i s d (e ▸ hd))
    · exact inlets j (by simp [e, hj.1, hj.2]) d hd going

theorem forEach_stopPoint_trips {c : Cause} {ps : List PointId} {P : Set PointId} {I : Set InletId} {s : State}
    (h : s.TripsBut (P ∪ {p | p ∈ ps}) I) : (forEach ps (stopPoint none c) s).TripsBut P I := by
  induction ps generalizing s with
  | nil => simpa [forEach] using h
  | cons p ps ih =>
    refine ih (s := stopPoint none c p s) ?_
    obtain ⟨points, inlets, idents⟩ := (stopPoint_moves none c p s).law (.trips _ _) (Set.notMem_empty _) h
    refine ⟨fun q hq set => ?_, inlets, idents⟩
    simp only [Set.mem_union, Set.mem_ofPred_eq, not_or] at hq
    by_cases e : q = p
    · rw [e]; exact stopPoint_halted none c p s
    · exact points q (by simp [e, hq.1, hq.2]) set

/-- The state in which a hand-on stops the inlets: its products checked, and the pumps of the bay tripped. -/
def handOnStock (h : Handing) (leaves : Bool) (s : State) : State :=
  if leaves && h.latch = .bay then bayTripPumps (checkProducts h.latch s) else checkProducts h.latch s

theorem handOnStock_moves (h : Handing) (leaves : Bool) (s : State) :
    Moves [.draws, .reports, .links, .pumps] ∅ s (handOnStock h leaves s) := by
  unfold handOnStock
  split
  · exact ((checkProducts_moves ..).andThen (bayTripPumps_moves _)).mono (by decide)
  · exact (checkProducts_moves ..).mono (by decide)

theorem handOn_eq (h : Handing) (leaves : Bool) (s : State) :
    handOn h leaves s = handReports
      (forEach ((pointsOf h.latch).filter fun p => h.exemptPoint ≠ some p) (stopPoint none .trip)
        (forEach ((handOnStock h leaves s).inletsTripped h) (stopInlet .trip) (handOnStock h leaves s))) := rfl

theorem inletsTripped_of_same {h : Handing} {s t : State} (inlets : t.inlets = s.inlets)
    (sets : Part.tankSets.same s t) : t.inletsTripped h = s.inletsTripped h := by
  have inlet : t.inlet = s.inlet := by funext i; simp only [State.inlet, inlets]
  simp only [State.inletsTripped, State.inletsOf, State.tanksOf, inlet, tankSet_of_same sets]

/-- R156: the units that a hand-on stops, and the exhaustion reports that follow. -/
theorem handOnUnits_moves (is : List InletId) (ps : List PointId) (s : State) :
    Moves orderParts ∅ s (handReports (forEach ps (stopPoint none .trip) (forEach is (stopInlet .trip) s))) :=
  ((Moves.forEach is (stopInlet .trip) (fun i _ s => stopInlet_moves .trip i s) s).andThen
    ((Moves.forEach ps (stopPoint none .trip) (fun p _ s => stopPoint_moves none .trip p s) _).andThen
      (handReports_moves _))).mono (by decide)

theorem handOn_moves (h : Handing) (leaves : Bool) (s : State) : Moves orderParts ∅ s (handOn h leaves s) := by
  rw [handOn_eq]
  exact ((handOnStock_moves ..).andThen (handOnUnits_moves ..)).mono (by decide)

/-- R155: the points and inlets that a latch covers are stopped. -/
theorem handOn_trips {h : Handing} {s : State} {P : Set PointId} {I : Set InletId} (leaves : Bool)
    (hs : s.TripsBut (P ∪ h.points) (I ∪ {i | i ∈ s.inletsTripped h})) : (handOn h leaves s).TripsBut P I := by
  have stock := handOnStock_moves h leaves s
  rw [handOn_eq]
  refine (handReports_moves _).law (.trips P I) (Set.notMem_empty _) (forEach_stopPoint_trips
    (forEach_stopInlet_trips ?_))
  rw [inletsTripped_of_same (stock.same .inlets) (stock.same .tankSets)]
  have points : {p | p ∈ (pointsOf h.latch).filter fun p => h.exemptPoint ≠ some p} = h.points := by
    ext p
    simp [Handing.points]
  rw [points]
  exact stock.law (.trips _ _) (Set.notMem_empty _) hs

/-- R155: the products that a latch covers are checked. -/
theorem handOn_drawsBut {h : Handing} {s : State} {B : Set ProductId} (leaves : Bool)
    (hs : s.DrawsBut (B ∪ {k | k ∈ s.productsOf h.latch})) : (handOn h leaves s).DrawsBut B := by
  have stock : (handOnStock h leaves s).DrawsBut B := by
    have checked : (checkProducts h.latch s).DrawsBut B := forEach_chainCheck_drawsBut hs
    unfold handOnStock
    split
    · exact (bayTripPumps_moves _).law (.draws B) (Set.notMem_empty _) checked
    · exact checked
  exact (handOnUnits_moves _ _ _).law (.draws B) (Set.notMem_empty _) stock

/-- What an event in which a latch trips touches. -/
def tripParts : List Part := [.latches, .log, .shutdownRest, .stockRest, .points, .inlets, .tanks, .draws, .reports,
  .links, .pumps, .journal, .table, .deferred]

theorem whileTripping_moves {K : List Part} {H : Set Law} {f : State → State} {s : State}
    (h : ∀ s, Moves K H s (f s)) : Moves (.stockRest :: K) H s (whileTripping f s) :=
  (((tripping_moves true s).weaken H).andThen ((h _).andThen ((tripping_moves false _).weaken H))).mono
    (by intro x; simp; tauto)

/-- R150, R151: the latch as a cause leaves it. -/
def latchTaken (h : Handing) (s : State) : State :=
  if (s.latch h.latch).state = .normal then tripLatch h s else furtherCause h s

theorem latchTaken_moves (h : Handing) (s : State) :
    Moves [.latches, .log, .shutdownRest] (tripLaws ∪ drawLaws) s (latchTaken h s) := by
  unfold latchTaken
  split
  · exact tripLatch_frame ..
  · next set => exact ((furtherCause_moves (by simpa [State.isSet] using set)).weaken _).mono (by decide)

theorem TripsBut.mono {P Q : Set PointId} {I J : Set InletId} {s : State} (h : s.TripsBut P I) (hP : P ⊆ Q)
    (hI : I ⊆ J) : s.TripsBut Q J :=
  ⟨fun p hp => h.1 p fun hm => hp (hP hm), fun i hi => h.2.1 i fun hm => hi (hI hm), h.2.2⟩

theorem latchTaken_trips {h : Handing} {s : State} {P : Set PointId} {I : Set InletId} (exempt : h.Exempts s)
    (hs : s.TripsBut P I) : (latchTaken h s).TripsBut (P ∪ h.points) (I ∪ {i | i ∈ s.inletsTripped h}) := by
  unfold latchTaken
  split
  · exact tripLatch_trips exempt hs
  · next set =>
    exact TripsBut.mono ((furtherCause_moves (by simpa [State.isSet] using set)).law (.trips P I) (Set.notMem_empty _) hs)
      Set.subset_union_left Set.subset_union_left

theorem latchTaken_drawsBut {h : Handing} {s : State} {B : Set ProductId} (hs : s.DrawsBut B) :
    (latchTaken h s).DrawsBut (B ∪ {k | k ∈ s.productsOf h.latch}) := by
  unfold latchTaken
  split
  · exact tripLatch_drawsBut hs
  · next set =>
    exact DrawsBut.mono ((furtherCause_moves (by simpa [State.isSet] using set)).law (.draws B) (Set.notMem_empty _) hs)
      Set.subset_union_left

/-- R150, R151, R155, R160: the notice of a cause and its hand-on. -/
def handedOn (h : Handing) (leaves : Bool) (s : State) : State :=
  whileTripping (handOn h leaves)
    (s.post (.trip h.latch ((s.latch h.latch).trip.getD 0) h.cause leaves (s.stateAfter h)))

theorem handCause_eq (h : Handing) (s : State) :
    ∃ n, handCause h s = examine h.latch (changeEntry ((latchTaken h s).latch h.latch).trip
      (fun e => { e with stopped := e.stopped + n })
        (handedOn h (decide ((s.latch h.latch).state = .normal)) (latchTaken h s))) := ⟨_, rfl⟩

/-- The notice of a cause and the mark of a tripping event: no law but that of the queues speaks of them. -/
theorem announced_moves (n : Notice) (s : State) :
    Moves [.links, .stockRest] ∅ s { s.post n with stock := { (s.post n).stock with tripping := true } } :=
  ((post_moves n s).andThen (tripping_moves true _)).mono (by decide)

theorem handCause_moves {h : Handing} {s : State} (exempt : h.Exempts s) : Moves tripParts ∅ s (handCause h s) := by
  obtain ⟨n, e⟩ := handCause_eq h s
  have leaves := decide ((s.latch h.latch).state = .normal)
  have handed (leaves : Bool) (t : State) : Moves (.links :: .stockRest :: orderParts) ∅ t (handedOn h leaves t) :=
    ((post_moves ..).andThen (whileTripping_moves (handOn_moves h leaves))).mono (by simp)
  have after (t : State) : Moves [.log, .latches, .links] ∅ t (examine h.latch (changeEntry
      ((latchTaken h s).latch h.latch).trip (fun e => { e with stopped := e.stopped + n }) t)) :=
    ((changeEntry_moves ..).andThen (examine_moves ..)).mono (by decide)
  rw [e]
  refine Moves.mend (((latchTaken_moves h s).andThen (((handed ..).andThen (after _)).weaken _)).mono (by decide)) ∅
    fun x hx _ hs => (after _).law x (Set.notMem_empty _) ?_
  have taken := latchTaken_moves h s
  rcases hx with ⟨P, I, rfl⟩ | ⟨B, rfl⟩
  · refine (tripping_moves false _).law (.trips P I) (Set.notMem_empty _) (handOn_trips _ ?_)
    have announced := announced_moves (.trip h.latch (((latchTaken h s).latch h.latch).trip.getD 0) h.cause
      (decide ((s.latch h.latch).state = .normal)) ((latchTaken h s).stateAfter h)) (latchTaken h s)
    rw [inletsTripped_of_same (announced.same .inlets) (announced.same .tankSets),
      inletsTripped_of_same (taken.same .inlets) (taken.same .tankSets)]
    exact announced.law (.trips _ _) (Set.notMem_empty _) (latchTaken_trips exempt hs)
  · refine (tripping_moves false _).law (.draws B) (Set.notMem_empty _) (handOn_drawsBut _ ?_)
    have announced := announced_moves (.trip h.latch (((latchTaken h s).latch h.latch).trip.getD 0) h.cause
      (decide ((s.latch h.latch).state = .normal)) ((latchTaken h s).stateAfter h)) (latchTaken h s)
    have products {u v : State} (same : Part.tankSets.same u v) : v.productsOf h.latch = u.productsOf h.latch := by
      simp only [State.productsOf, State.tanksOf, tankSet_of_same same]
    rw [products (announced.same .tankSets), products (taken.same .tankSets)]
    exact announced.law (.draws _) (Set.notMem_empty _) (latchTaken_drawsBut hs)

end Sys2Proof.Machine

/-! # What stops leave of the other units -/

namespace Sys2Proof.Machine

open Sys2Proof

/-! ## A window's mark on its order -/

/-- R71, R72: the tank entries of an order after a window of so much net. -/
def State.entriesAfter (s : State) (net : Nat) (o : Order) : List TankEntry :=
  if net = 0 then o.entries
  else match s.postingTank o.product with
    | none => o.entries
    | some t => addEntry t (signedNet o.kind net) o.entries

/-- R13, R72: an order after a window. -/
def State.orderAfter (s : State) (r : WindowResult) (o : Order) : Order :=
  { addResult r o with entries := s.entriesAfter r.net o }

theorem updOrder_congr {p : PointId} {f g : Order → Order} {s : State} (h : ∀ o ∈ (s.point p).order, f o = g o) :
    s.updOrder p f = s.updOrder p g := by
  have same : (s.point p).order.map f = (s.point p).order.map g := Option.map_congr h
  simp only [State.updOrder, State.updPoint, adjust]
  change { s with points := put s.points p { s.point p with order := (s.point p).order.map f } } =
    { s with points := put s.points p { s.point p with order := (s.point p).order.map g } }
  rw [same]

/-- R13, R71, R72: the points after a window. -/
theorem takeResult_points (p : PointId) (r : WindowResult) (s : State) :
    (takeResult p r s).points = (s.updOrder p (s.orderAfter r)).points := by
  have order' : ((s.updOrder p (addResult r)).point p).order = (s.point p).order.map (addResult r) := by simp
  unfold takeResult
  rcases postOrderWindow_cases p r.net (s.updOrder p (addResult r)) with ⟨same, why⟩ | ⟨o, t, net, ho, ht, posts⟩
  · rw [same]
    refine congrArg State.points (updOrder_congr fun o ho => ?_)
    have entries : s.entriesAfter r.net o = o.entries := by
      unfold State.entriesAfter
      rcases why with zero | idle | ⟨o', ho', idle⟩
      · rw [if_pos zero]
      · rw [order', show (s.point p).order = some o from ho] at idle
        cases idle
      · rw [order', show (s.point p).order = some o from ho] at ho'
        obtain rfl : addResult r o = o' := by simpa using ho'
        rw [show s.postingTank o.product = none from idle]
        split <;> rfl
    rw [State.orderAfter, entries]
    rfl
  · rw [posts]
    refine ((((addTallies_moves t (signedNet o.kind r.net) _).andThen (postToTank_moves t (signedNet o.kind r.net) _)).same
      .points).trans (congrArg State.points (updOrder_updOrder ..))).trans ?_
    refine congrArg State.points (updOrder_congr fun o' ho' => ?_)
    rw [order', show (s.point p).order = some o' from ho'] at ho
    obtain rfl : addResult r o' = o := by simpa using ho
    simp only [State.orderAfter, State.entriesAfter, if_neg net, show s.postingTank o'.product = some t from ht]
    rfl

theorem takeResult_point (p q : PointId) (r : WindowResult) (s : State) :
    (takeResult p r s).point q =
      if p = q then { s.point p with order := (s.point p).order.map (s.orderAfter r) } else s.point q := by
  rw [← point_updOrder]
  simp only [State.point, takeResult_points]

/-! ## The other points -/

theorem endWindow_point_ne {p q : PointId} (reading : Option Int) (s : State) (h : p ≠ q) :
    (endWindow p reading s).point q = s.point q := by
  unfold endWindow
  dsimp only
  split
  · rfl
  · rw [takeResult_point, if_neg h, point_updPoint, if_neg h]

theorem finishClose_point_ne {p q : PointId} (s : State) (h : p ≠ q) : (finishClose p s).point q = s.point q := by
  cases ho : (s.point p).order with
  | none => rw [finishClose_none ho]
  | some o => rw [finishClose_point ho, if_neg h]

theorem closeAtOnce_point_ne {p q : PointId} (ended : Option PointId) (c : Cause) (s : State) (h : p ≠ q) :
    (closeAtOnce ended p c s).point q = s.point q := by
  unfold closeAtOnce
  dsimp only
  rw [finishClose_point_ne _ h]
  split
  · rw [point_updOrder, if_neg h]
  · rw [endWindow_point_ne _ _ h, point_updOrder, if_neg h]

/-- R38: a stop at one point leaves every other point as it is. -/
theorem stopPoint_point_ne {p q : PointId} (ended : Option PointId) (c : Cause) (s : State) (h : p ≠ q) :
    (stopPoint ended c p s).point q = s.point q := by
  unfold stopPoint
  split
  · rfl
  · rfl
  · exact closeAtOnce_point_ne _ _ _ h
  · exact closeAtOnce_point_ne _ _ _ h
  · rw [enterStopping, point_updOrder, if_neg h, point_updPoint, if_neg h]
  · rw [enterStopping, point_updOrder, if_neg h, point_updPoint, if_neg h]
  · rw [addSecondary, point_updOrder, if_neg h]

/-! ## The other inlet -/

theorem closeDelivery_inlet_ne {i j : InletId} (x : SettleOutcome) (s : State) (h : i ≠ j) :
    (closeDelivery i x s).inlet j = s.inlet j := by
  cases hd : (s.inlet i).delivery with
  | none => rw [closeDelivery_none hd]
  | some d => rw [closeDelivery_inlet hd, if_neg h]

theorem endInletWindow_inlet_ne {i j : InletId} (reading : Option Int) (s : State) (h : i ≠ j) :
    (endInletWindow i reading s).inlet j = s.inlet j := by
  unfold endInletWindow
  dsimp only
  split
  · rfl
  · rw [takeDeliveryResult_inlet, if_neg h, inlet_updInlet, if_neg h]

/-- R95: a stop at one inlet leaves the other as it is. -/
theorem stopInlet_inlet_ne {i j : InletId} (c : Cause) (s : State) (h : i ≠ j) :
    (stopInlet c i s).inlet j = s.inlet j := by
  unfold stopInlet
  split
  · rfl
  · rfl
  · rw [closeAwaiting, closeDelivery_inlet_ne _ _ h, inlet_updDelivery, if_neg h, endInletWindow_inlet_ne _ _ h]
  · rw [enterInletStopping, inlet_updDelivery, if_neg h, inlet_updInlet, if_neg h]
  · rw [addDeliverySecondary, inlet_updDelivery, if_neg h]

/-! ## Inlets through the stops of points -/

/-- R72: a delivery apart from its debit tally. -/
def Delivery.untallied (d : Delivery) : Delivery := { d with tally := 0 }

/-- R72: an inlet apart from the debit tally of its delivery. -/
def InletUnit.untallied (u : InletUnit) : InletUnit := { u with delivery := u.delivery.map Delivery.untallied }

/-- R72: the inlets of two states differ in nothing but the debit tallies of their deliveries. -/
structure State.SameButTallies (s t : State) : Prop where
  inlet : ∀ i, (t.inlet i).untallied = (s.inlet i).untallied

namespace State.SameButTallies

variable {s t u : State}

theorem of_inlets (h : t.inlets = s.inlets) : s.SameButTallies t := ⟨fun i => by simp only [State.inlet, h]⟩

theorem trans (h : s.SameButTallies t) (h' : t.SameButTallies u) : s.SameButTallies u :=
  ⟨fun i => (h'.inlet i).trans (h.inlet i)⟩

theorem state (h : s.SameButTallies t) (i : InletId) : (t.inlet i).state = (s.inlet i).state :=
  (congrArg InletUnit.state (h.inlet i) :)

theorem delivery (h : s.SameButTallies t) (i : InletId) :
    (t.inlet i).delivery.map Delivery.untallied = (s.inlet i).delivery.map Delivery.untallied :=
  (congrArg InletUnit.delivery (h.inlet i) :)

/-- A delivery keeps everything but its tally. -/
theorem mem (h : s.SameButTallies t) {i : InletId} {d : Delivery} (hd : d ∈ (t.inlet i).delivery) :
    ∃ d' ∈ (s.inlet i).delivery, d.untallied = d'.untallied := by
  have := h.delivery i
  rw [show (t.inlet i).delivery = some d from hd] at this
  obtain ⟨d', hd', e⟩ := Option.map_eq_some_iff.1 this.symm
  exact ⟨d', hd', e.symm⟩

theorem forEach {α : Type} (xs : List α) (f : α → State → State) (h : ∀ x s, State.SameButTallies s (f x s)) (s : State) :
    s.SameButTallies (Machine.forEach xs f s) := by
  induction xs generalizing s with
  | nil => exact of_inlets rfl
  | cons x xs ih => exact (h x s).trans (ih (f x s))

end State.SameButTallies

theorem addTallies_tallies (t : TankId) (amount : Int) (s : State) : s.SameButTallies (addTallies t amount s) := by
  refine State.SameButTallies.forEach _ _ (fun i s => ⟨fun j => ?_⟩) s
  rw [inlet_updDelivery]
  split
  · next h =>
    subst h
    have same (d : Delivery) : (if d.tank = t then { d with tally := d.tally - amount } else d).untallied =
        d.untallied := by split <;> rfl
    simp only [InletUnit.untallied, Option.map_map, Function.comp_def, same]
  · rfl

theorem takeResult_tallies (p : PointId) (r : WindowResult) (s : State) : s.SameButTallies (takeResult p r s) := by
  unfold takeResult
  rcases postOrderWindow_cases p r.net (s.updOrder p (addResult r)) with ⟨same, -⟩ | ⟨o, t, -, -, -, posts⟩
  · rw [same]; exact .of_inlets rfl
  · rw [posts]
    exact .trans (.of_inlets (t := (s.updOrder p (addResult r)).updOrder p _) rfl)
      ((addTallies_tallies ..).trans (.of_inlets ((postToTank_moves ..).same .inlets)))

theorem endWindow_tallies (p : PointId) (reading : Option Int) (s : State) :
    s.SameButTallies (endWindow p reading s) := by
  unfold endWindow
  dsimp only
  split
  · exact .of_inlets rfl
  · exact .trans (.of_inlets (t := s.updPoint p _) rfl) (takeResult_tallies ..)

theorem stopPoint_tallies (ended : Option PointId) (c : Cause) (p : PointId) (s : State) :
    s.SameButTallies (stopPoint ended c p s) := by
  have closes : s.SameButTallies (closeAtOnce ended p c s) := by
    unfold closeAtOnce
    dsimp only
    refine .trans ?_ (.of_inlets ((finishClose_moves ..).same .inlets))
    split
    · exact .of_inlets rfl
    · exact .trans (.of_inlets (t := s.updOrder p _) rfl) (endWindow_tallies ..)
  unfold stopPoint
  split <;> first | exact closes | exact .of_inlets rfl

theorem handReportsUpTo_tallies (ended : Option PointId) (n : Nat) (s : State) :
    s.SameButTallies (handReportsUpTo ended n s) := by
  induction n generalizing s with
  | zero => exact .of_inlets rfl
  | succ n ih =>
    unfold handReportsUpTo
    split
    · exact .of_inlets rfl
    · next r rest _ =>
      refine .trans (.of_inlets (t := { s with stock := { s.stock with reports := rest } }) rfl) (.trans ?_ (ih _))
      exact .forEach _ _ (fun p s => by split <;> [exact stopPoint_tallies ..; exact .of_inlets rfl]) _

/-- R70: the reports of an event change no more of a delivery than its debit tally. -/
theorem handReports_tallies (s : State) : s.SameButTallies (handReports s) := handReportsUpTo_tallies ..

end Sys2Proof.Machine

/-! # The events of inputs, bypasses, meters and gauges -/

namespace Sys2Proof.Machine

open Sys2Proof

/-! ## Causes handed with nothing exempt -/

theorem exempts_none (x : LatchId) (c : TripCause) (input : Option LineInput) (already : Nat)
    (final : Option LatchState) (s : State) : Handing.Exempts ⟨x, c, input, none, none, already, final⟩ s :=
  ⟨fun _ h => absurd h (by simp), fun _ _ _ h => absurd h (by simp)⟩

/-- What an event touches that hands a cause. -/
def inputParts : List Part := .clock :: tripParts

theorem handInput_moves (x : DebouncedInput) (s : State) : Moves tripParts ∅ s (handInput x s) :=
  handCause_moves (exempts_none ..)

/-! ## Inputs (R146, R148) -/

theorem handHighHigh_moves (t : TankId) (s : State) : Moves orderParts ∅ s (handHighHigh t s) :=
  ((Moves.forEach _ _ (fun i _ s => stopInlet_moves .highHigh i s) s).andThen (handReports_moves _)).mono (by decide)

/-- R95: HIGH_HIGH stops every delivery into its tank. -/
theorem forEach_stopInlet_stopped {c : Cause} {is : List InletId} {i : InletId} (s : State)
    (h : i ∈ is ∨ ∀ d ∈ (s.inlet i).delivery, ¬(s.inlet i).Going) :
    ∀ d ∈ ((forEach is (stopInlet c) s).inlet i).delivery, ¬((forEach is (stopInlet c) s).inlet i).Going := by
  induction is generalizing s with
  | nil => exact h.resolve_left (by simp)
  | cons j is ih =>
    refine ih (stopInlet c j s) ?_
    by_cases e : j = i
    · exact .inr (e ▸ stopInlet_stopped c j s)
    · rw [stopInlet_inlet_ne c s e]
      exact h.imp_left fun mem => (List.mem_cons.1 mem).resolve_left (Ne.symm e)

theorem forEach_stopInlet_tank {c : Cause} {is : List InletId} {i : InletId} (s : State) {d : Delivery}
    (h : d ∈ ((forEach is (stopInlet c) s).inlet i).delivery) : i ∈ is ∨ d ∈ (s.inlet i).delivery := by
  induction is generalizing s with
  | nil => exact .inr h
  | cons j is ih =>
    rcases ih (stopInlet c j s) h with mem | hd
    · exact .inl (List.mem_cons_of_mem _ mem)
    · by_cases e : j = i
      · exact .inl (by simp [e])
      · rw [stopInlet_inlet_ne c s e] at hd
        exact .inr hd

theorem handHighHigh_stopped (t : TankId) (s : State) (i : InletId) :
    ∀ d ∈ ((handHighHigh t s).inlet i).delivery, some t = some d.tank → ¬((handHighHigh t s).inlet i).Going := by
  intro d hd tank going
  have tallies : (forEach (allInlets.filter fun i => (s.inlet i).delivery.any fun d => d.tank = t) (stopInlet .highHigh)
    s).SameButTallies (handHighHigh t s) := handReports_tallies _
  obtain ⟨d', hd', e⟩ := tallies.mem hd
  have tank' : d'.tank = t := (congrArg Delivery.tank e).symm.trans (Option.some.inj tank).symm
  rw [InletUnit.Going, tallies.state i] at going
  refine forEach_stopInlet_stopped s (.inl ?_) d' hd' going
  rcases forEach_stopInlet_tank s hd' with mem | old
  · exact mem
  · rw [List.mem_filter]
    exact ⟨mem_allInlets i, by rw [show (s.inlet i).delivery = some d' from old]; simpa using tank'⟩

theorem whileTripping_eq (f : State → State) (s : State) :
    ∃ u : State, u = { s with stock := { s.stock with tripping := true } } ∧
      whileTripping f s = { f u with stock := { (f u).stock with tripping := false } } := ⟨_, rfl, rfl⟩

theorem highHighTakesEffect_moves (t : TankId) (s : State) : Moves tripParts ∅ s (highHighTakesEffect t s) := by
  unfold highHighTakesEffect
  dsimp only
  refine Moves.mono (K := (.stockRest :: orderParts) ++ tripParts)
    ((whileTripping_moves (handHighHigh_moves t)).andThen (handCause_moves ⟨fun _ h => absurd h (by simp [handing]), fun i d hd exempt => ?_⟩)) (by decide)
  have tank : some t = some d.tank := by
    dsimp only at exempt
    split at exempt
    · cases exempt
    · exact exempt
  exact handHighHigh_stopped t { s with stock := { s.stock with tripping := true } } i d hd tank

theorem takesEffect_moves (x : DebouncedInput) (s : State) : Moves tripParts ∅ s (takesEffect x s) := by
  unfold takesEffect
  split
  · exact .refl ..
  · split
    · exact highHighTakesEffect_moves ..
    all_goals exact handInput_moves ..

theorem settleInput_moves (x : DebouncedInput) (s : State) : Moves tripParts ∅ s (settleInput x s) := by
  unfold settleInput
  extract_lets i new s₁
  have settled : Moves [.shutdownRest] ∅ s s₁ := updDebounced_moves ..
  split
  · exact settled.mono (by decide)
  · split
    · exact (settled.andThen (takesEffect_moves ..)).mono (by decide)
    · exact (settled.andThen (examineHolding_moves ..)).mono (by decide)

theorem debounceEvent_moves (x : DebouncedInput) (s : State) : Moves inputParts ∅ s (debounceEvent x s) := by
  unfold debounceEvent
  split
  · exact ((reach_moves ..).andThen (settleInput_moves ..)).mono (by decide)
  · exact .refl ..

theorem lineInputEvent_moves (x : DebouncedInput) (level : Bool) (s : State) :
    Moves [.shutdownRest] ∅ s (lineInputEvent x level s) := by
  unfold lineInputEvent
  split <;> [exact .refl ..; exact updDebounced_moves ..]

theorem estopEvent_moves (level : Bool) (s : State) : Moves tripParts ∅ s (estopEvent level s) := by
  unfold estopEvent
  dsimp only
  split
  · exact .refl ..
  · split
    · exact ((setEstop_moves ..).andThen (handCause_moves (exempts_none ..))).mono (by decide)
    · exact ((setEstop_moves ..).andThen (examineHolding_moves ..)).mono (by decide)

/-! ## Releases and bypasses (R153 to R163) -/

theorem releaseLatch_moves (x : LatchId) (l : Link) (s : State) : Moves tripParts ∅ s (releaseLatch x l s) := by
  unfold releaseLatch
  extract_lets number s₁ s₂ s₃
  have cleared : Moves [.latches, .links] ∅ s₁ s₂ :=
    ((setLatch_moves (l := .clear) fun set => absurd rfl set).andThen (post_moves ..)).mono (by decide)
  have checks : Moves ([.log] ++ ([.latches, .links] ++ [.draws, .reports, .links])) ∅ s s₃ :=
    (changeEntry_moves ..).andThen (cleared.andThen (checkProducts_moves ..))
  split
  · exact (checks.andThen (startHead_moves _)).mono (by decide)
  · exact checks.mono (by decide)

theorem bypassEnds_moves (x : BypassId) (s : State) : Moves tripParts ∅ s (bypassEnds x s) := by
  unfold bypassEnds
  dsimp only
  split <;> [exact handInput_moves ..; exact .refl ..]

theorem bypassOn_moves (x : BypassId) (minutes : Nat) (l : Link) (s : State) :
    Moves tripParts ∅ s (bypassOn x minutes l s) :=
  ((setBypass_moves ..).andThen (examineHolding_moves ..)).mono (by decide)

theorem bypassOff_moves (x : BypassId) (s : State) : Moves tripParts ∅ s (bypassOff x s) := by
  unfold bypassOff
  dsimp only
  split
  · exact ((setBypass_moves ..).andThen (bypassEnds_moves ..)).mono (by decide)
  · exact (setBypass_moves ..).mono (by decide)

theorem badBypassCode_moves (x : BypassId) (s : State) : Moves tripParts ∅ s (badBypassCode x s) := by
  unfold badBypassCode
  dsimp only
  split
  · exact ((setBypass_moves ..).andThen ((handCause_moves (exempts_none ..)).andThen (handInput_moves ..))).mono
      (by decide)
  · exact ((setBypass_moves ..).andThen (handCause_moves (exempts_none ..))).mono (by decide)

theorem bypassExpiryEvent_moves (x : BypassId) (s : State) : Moves inputParts ∅ s (bypassExpiryEvent x s) := by
  unfold bypassExpiryEvent
  split
  · exact ((reach_moves ..).andThen (bypassOff_moves ..)).mono (by decide)
  · exact .refl ..

/-! ## Findings of the meters and gauges (R149) -/

theorem findingEvent_moves {K : List Part} {f : State → State} {s : State} (h : ∀ s, Moves K ∅ s (f s)) (x : LatchId)
    (c : TripCause) : Moves (.stockRest :: K ++ tripParts) ∅ s (findingEvent f x c s) :=
  (whileTripping_moves h).andThen (handCause_moves (exempts_none ..))

theorem meterPulseEvent_moves (m : MeterId) (s : State) : Moves [.points, .inlets] ∅ s (meterPulseEvent m s) := by
  have working (now : Nat) (u : Meter) : (countPulse now u).working = u.working := by
    unfold countPulse
    split <;> [rfl; (split <;> rfl)]
  cases m with
  | point p => exact (updPoint_quiet_moves p _ (by rfl) (by rfl) (by rfl) (working ..) (by exact id)).mono (by decide)
  | inlet i => exact (updInlet_quiet_moves i _ (by rfl) (by rfl) (by rfl) (working ..)).mono (by decide)

theorem stopTimerEvent_moves (p : PointId) (reading : Option Int) (s : State) :
    Moves inputParts ∅ s (stopTimerEvent p reading s) := by
  unfold stopTimerEvent
  dsimp only
  split
  · exact .refl ..
  · split
    · exact ((reach_moves ..).andThen (findingEvent_moves (fun s => pointStopExpires_moves p reading true s) _ _)).mono
        (by decide)
    · exact ((reach_moves ..).andThen (pointStopExpires_moves ..)).mono (by decide)

theorem inletWindowEvent_moves (i : InletId) (reading : Option Int) (s : State) :
    Moves inputParts ∅ s (inletWindowEvent i reading s) := by
  unfold inletWindowEvent
  split
  · exact .refl ..
  · exact ((inletWindowEnd_moves ..).andThen (handReports_moves _)).mono (by decide)

/-- R96: the stop timer of an inlet with a delivery, which a mark of a tripping event leaves open. -/
theorem inletStopTimerEvent_moves (i : InletId) (reading : Option Int) (s : State) :
    Moves inputParts ∅ s (inletStopTimerEvent i reading s) := by
  unfold inletStopTimerEvent
  split
  · next due d _ hd =>
    have stops (leak : Bool) (t : State) (same : t.inlets = s.inlets) :
        Moves orderParts ∅ t (handReports (inletStopExpires i reading leak t)) := by
      have held : (t.inlet i).delivery.isSome = true := by
        rw [show t.inlet i = s.inlet i from by simp only [State.inlet, same], hd]; rfl
      exact ((inletStopExpires_moves reading leak held).andThen (handReports_moves _)).mono (by decide)
    dsimp only
    split
    · have finds (x : LatchId) (t : State) (same : t.inlets = s.inlets) : Moves tripParts ∅ t
          (findingEvent (fun s => handReports (inletStopExpires i reading true s)) x .valveLeak t) :=
        ((((tripping_moves true t).andThen ((stops true _ (by exact same)).andThen (tripping_moves false _)))).andThen
          (handCause_moves (exempts_none ..))).mono (by decide)
      exact ((reach_moves ..).andThen (finds _ _ (by simp))).mono (by decide)
    · exact ((reach_moves ..).andThen (stops false _ (by simp))).mono (by decide)
  · exact .refl ..

theorem gaugeReadingEvent_moves (t : TankId) (report : Option GaugeReport) (s : State) :
    Moves inputParts ∅ s (gaugeReadingEvent t report s) := by
  unfold gaugeReadingEvent
  split
  · exact (invalidReading_moves ..).mono (by decide)
  · next r _ =>
    extract_lets s₁
    have taken : Moves (stockParts ++ (orderParts ++ inletParts)) ∅ s s₁ :=
      (takeReading_moves ..).andThen ((handReports_moves _).andThen (judgeGaugeLevel_moves ..))
    split
    · exact (taken.andThen ((restartQuiet_moves ..).andThen (handCause_moves (exempts_none ..)))).mono (by decide)
    · exact taken.mono (by decide)

/-! ## The hose break of a window (R36, R156) -/

/-- R35, R36: a cause of a window end stops the order of its point. -/
theorem forEach_stopPoint_halted {p : PointId} {causes : List Cause} (some : causes ≠ []) (s : State) :
    ((forEach causes (fun c => stopPoint none c p) s).point p).Halted := by
  induction causes generalizing s with
  | nil => exact absurd rfl some
  | cons c rest ih =>
    cases rest with
    | nil => exact stopPoint_halted none c p s
    | cons d rest => exact ih (by simp) (stopPoint none c p s)

theorem judgeFlowing_halted {was : PointState} {p : PointId} {flow : Nat} {s : State} (h : (s.point p).Halted) :
    ((judgeFlowing was p flow s).point p).Halted := by
  unfold judgeFlowing
  split
  · next c =>
    rw [point_updPoint_self]
    intro open'
    rcases h open' with e | e | e <;> rw [c.2.1] at e <;> cases e
  · exact h

theorem judgeQuiet_halted {was : PointState} {p : PointId} {s : State} (h : (s.point p).Halted) :
    ((judgeQuiet was p s).point p).Halted := by
  unfold judgeQuiet
  dsimp only
  split
  · intro open'
    rw [finishClose_order] at open'
    cases open'
  · exact h

/-- R36: a window end that hands HOSE_BREAK leaves its point's order stopped or closed. -/
theorem pointWindowEnd_halted {p : PointId} {w : Working} {s : State} (reading : Option Int)
    (breaks : s.handsHoseBreak p w = true) : ((pointWindowEnd p w reading s).point p).Halted := by
  simp only [State.handsHoseBreak, Bool.and_eq_true, decide_eq_true_eq] at breaks
  obtain ⟨⟨judged, ordered⟩, second⟩ := breaks
  unfold pointWindowEnd
  extract_lets u s₁ net r s₂ s₃ causes s₄
  refine judgeQuiet_halted (judgeFlowing_halted (forEach_stopPoint_halted ?_ _))
  have reached : s₁.point p = u := by simp [s₁, State.point, u]
  have taken : s₂.point p = { u with
      meter := nextWindow u.meter w reading
      order := u.order.map ((s₁.updPoint p fun u => { u with meter := nextWindow u.meter w reading }).orderAfter r) } := by
    change (takeResult p r _).point p = _
    rw [takeResult_point, if_pos rfl, point_updPoint_self, reached]
  have set' : s₂.pointSet p = s.pointSet p := by
    have moved : Moves ([.clock] ++ ([.points] ++ postingParts)) ∅ s s₂ :=
      (reach_moves ..).andThen ((nextWindow_moves ..).andThen (takeResult_moves ..))
    simp only [State.pointSet, (moved.same .storeRest).1]
  have counted : s₃.point p = countWindow u.state (s.pointSet p) r.flow (s₂.point p) := by
    change (State.updPoint p (countWindow u.state (s₂.pointSet p) r.flow) s₂).point p = _
    rw [point_updPoint_self, set']
  have broken : (s₃.point p).hoseBreak = 2 := by
    rw [counted, countWindow, if_pos judged, taken]
    exact second
  obtain ⟨o, ho⟩ : ∃ o, (s₃.point p).order = some o := by
    rw [← Option.isSome_iff_exists, counted, countWindow, if_pos judged, taken]
    simpa using ordered
  change s₃.causesAtWindow u.state p ≠ []
  simp only [State.causesAtWindow, show u.state.judged = true from judged, ho, windowCauses, broken]
  simp

theorem hoseBreakWindow_moves {p : PointId} {w : Working} {s : State} (reading : Option Int)
    (breaks : s.handsHoseBreak p w = true) : Moves inputParts ∅ s (hoseBreakWindow p w reading s) := by
  unfold hoseBreakWindow
  extract_lets termination after other
  have ended : Moves (.stockRest :: timedParts) ∅ s after := whileTripping_moves fun s => pointWindowEnd_moves p w reading s
  refine (ended.andThen (handCause_moves ⟨fun q exempt => ?_, fun _ _ _ h => absurd h (by simp [handing])⟩)).mono (by decide)
  dsimp only at exempt
  split at exempt
  · cases exempt
  · obtain rfl : p = q := Option.some.inj exempt
    exact pointWindowEnd_halted (s := { s with stock := { s.stock with tripping := true } }) reading breaks

theorem pointWindowEvent_moves (p : PointId) (reading : Option Int) (s : State) :
    Moves inputParts ∅ s (pointWindowEvent p reading s) := by
  unfold pointWindowEvent
  split
  · exact .refl ..
  · split
    · next breaks => exact hoseBreakWindow_moves reading breaks
    · exact (pointWindowEnd_moves ..).mono (by decide)

end Sys2Proof.Machine

/-! # Orders and deliveries accepted -/

namespace Sys2Proof.Machine

open Sys2Proof

/-! ## Checks -/

/-- Every check of a list is passed when none of them is the first to fail. -/
theorem firstFailure_eq_none {checks : List (Bool × Status)} :
    firstFailure checks = none ↔ ∀ c ∈ checks, c.1 = false := by
  induction checks with
  | nil => simp [firstFailure]
  | cons c rest ih =>
    obtain ⟨failed, st⟩ := c
    cases failed <;> simp [firstFailure, ih]

theorem checked_none {checks : List (Bool × Status)} {act : State → Answer} {s : State}
    (h : firstFailure checks = none) : checked checks act s = act s := by rw [checked, h]

theorem checked_moves {K : List Part} {H : Set Law} {checks : List (Bool × Status)} {act : State → Answer} {s : State}
    (h : firstFailure checks = none → Moves K H s (act s).state) : Moves K H s (checked checks act s).state := by
  unfold checked
  split
  · exact .refl ..
  · next none => exact h none

/-! ## The reserve at an opening (R169, R176) -/

/-- R176: the curtailment flag after an opening. -/
theorem judgeCurtail_curtailed (s : State) :
    (judgeCurtail s).bay.curtailed = (s.bay.curtailed || decide (Config.curtailAt ≤ s.journal.reserve)) := by
  unfold judgeCurtail
  split
  · next h => simp [h.1]
  · next h =>
    rw [not_and, Bool.not_eq_false] at h
    by_cases full : Config.curtailAt ≤ s.journal.reserve
    · simp [h full]
    · simp [full]

/-- R22, R90, R176: one operation more is open, and the flag is set at a reserve of 480. -/
theorem ReserveHeld.of_open {s t : State} (h : s.ReserveHeld) (clear : s.bay.curtailed = false)
    (opened : t.openOperations.length = s.openOperations.length + 1)
    (counts : t.journal.openCount = s.journal.openCount + 1) (uncollected : t.journal.uncollected = s.journal.uncollected)
    (flag : t.bay.curtailed = (s.bay.curtailed || decide (Config.curtailAt ≤ t.journal.reserve))) : t.ReserveHeld := by
  obtain ⟨count, -, below⟩ := h
  have low := below clear
  have reserve : t.journal.reserve = s.journal.reserve + 1 := by
    simp only [Journal.reserve, counts, uncollected]; omega
  refine ⟨by omega, by omega, fun off => ?_⟩
  rw [flag, clear, Bool.false_or, decide_eq_false_iff_not] at off
  omega

/-! ## An order accepted (R22) -/

theorem point_of_points {s t : State} (h : t.points = s.points) : t.point = s.point := by
  funext p; simp only [State.point, h]

theorem inlet_of_inlets {s t : State} (h : t.inlets = s.inlets) : t.inlet = s.inlet := by
  funext p; simp only [State.inlet, h]

/-- The rows of the tables of point and inlet states, but for the metering units. -/
def State.UnitsStand (s : State) : Prop := (∀ p, (s.point p).FitsButMeter) ∧ ∀ i, (s.inlet i).FitsButMeter

theorem State.UnitsStand.of_same {s t : State} (h : s.UnitsStand) (points : Part.points.same s t)
    (inlets : Part.inlets.same s t) : t.UnitsStand := by
  rw [State.UnitsStand, point_of_points points, inlet_of_inlets inlets]
  exact h

/-- R30, R33: a point that enters AWAIT_PUMP, and the others. -/
theorem enterAwaitPump_point (p q : PointId) (s : State) :
    (enterAwaitPump p s).point q = if p = q then
        let m := (s.pointSet p).pump
        let waiting := { s.point p with state := .awaitPump, identDue := none }
        if ((claimPump p m (s.updPoint p fun u => { u with state := .awaitPump, identDue := none })).pump m).state = .running
        then { waiting with
          state := .priming, valve := true, primeDue := some (s.after (s.pointSet p).primeTime)
          attendDue := (attendanceSeconds (s.pointSet p).attendance).map s.after }
        else waiting
      else s.point q := by
  have claims (t : State) (m : PumpId) := claimPump_moves p m t
  have points (t : State) (m : PumpId) (r : PointId) : (claimPump p m t).point r = t.point r := by
    rw [point_of_points ((claims t m).same .points)]
  have set' (t : State) (m : PumpId) : (claimPump p m t).pointSet p = t.pointSet p := by
    simp only [State.pointSet, ((claims t m).same .storeRest).1]
  have clock (t : State) (m : PumpId) (n : Nat) : (claimPump p m t).after n = t.after n := by
    simp only [State.after, show (claimPump p m t).clock = t.clock from (claims t m).same .clock]
  unfold enterAwaitPump
  dsimp only
  by_cases e : p = q
  · subst e
    rw [if_pos rfl]
    split
    · rw [reportRunning, points, point_updPoint_self, if_pos rfl, enterPriming, point_updPoint_self, points,
        point_updPoint_self, set']
      have after : (claimPump p (s.pointSet p).pump (s.updPoint p fun u => { u with state := .awaitPump, identDue := none })
          ).after = s.after := funext fun n => clock ..
      rw [after]
      rfl
    · rw [points, point_updPoint_self]
  · rw [if_neg e]
    split
    · unfold reportRunning
      split
      · rw [enterPriming, point_updPoint, if_neg e, points, point_updPoint, if_neg e]
      · rw [points, point_updPoint, if_neg e]
    · rw [points, point_updPoint, if_neg e]

theorem enterFirstState_point_ne {p q : PointId} (s : State) (h : p ≠ q) :
    (enterFirstState p s).point q = s.point q := by
  unfold enterFirstState
  dsimp only
  split
  · rw [point_updPoint, if_neg h]
  · rw [enterAwaitPump_point, if_neg h]

/-- R19, R30: the first state of an order. -/
theorem enterFirstState_point (p : PointId) (s : State) :
    ((enterFirstState p s).point p).order = (s.point p).order ∧ ((enterFirstState p s).point p).IdentFits ∧
      ((s.point p).order.isSome = true → (s.point p).valve = false → ((enterFirstState p s).point p).FitsButMeter) := by
  unfold enterFirstState
  dsimp only
  split
  · rw [point_updPoint_self]
    exact ⟨rfl, fun _ => rfl, fun ordered shut => ⟨ordered, shut⟩⟩
  · rw [enterAwaitPump_point, if_pos rfl]
    dsimp only
    split
    · exact ⟨rfl, nofun, fun ordered _ => ⟨ordered, rfl⟩⟩
    · exact ⟨rfl, nofun, fun ordered shut => ⟨ordered, shut⟩⟩

/-- The laws that an opening order breaks until its point is in its first state. -/
def openingLaws : Set Law := insert .units (insert .reserve (insert .entries tripLaws))

theorem enterFirstState_moves (p : PointId) (s : State) :
    Moves [.points, .pumps] openingLaws s (enterFirstState p s) := by
  unfold enterFirstState
  dsimp only
  split
  · refine (updPoint_moves (H := openingLaws) p _ (fun h => absurd (by simp [openingLaws]) h) (fun _ h => h)
      (fun h => absurd ?_ h) (fun _ => rfl) fun h => absurd (by simp [openingLaws]) h).mono (by decide)
    exact fun x hx => by simp [openingLaws, hx]
  · exact enterAwaitPump_moves (.inr ⟨by simp [openingLaws], fun x hx => by simp [openingLaws, hx]⟩)

/-- What the opening of an order touches. -/
def openingParts : List Part := [.journal, .points, .table, .pumps, .curtailed, .links]

/-- R22: the state in which an accepted order has its record, before its first state. -/
def State.orderOpened (r : OrderRequest) (s : State) : State :=
  let o := openedOrder r s
  let meter := enterMetering (s.pointSet r.point).meter (s.productSet (s.pointSet r.point).product).beta s.clock
  let s := (countOpen s).updPoint r.point (openPoint o meter)
  judgeCurtail (match r.machine with
    | some machine => joinOpenSet machine o.number s
    | none => s)

theorem acceptOrder_state (r : OrderRequest) (s : State) :
    (acceptOrder r s).state = enterFirstState r.point (s.orderOpened r) := rfl

section
variable {r : OrderRequest} {s : State}

/-- The order's record is that of the opening request. -/
theorem openedOrder_facts (r : OrderRequest) (s : State) :
    (openedOrder r s).product = (s.pointSet r.point).product ∧ (openedOrder r s).net = 0 ∧
      (openedOrder r s).entries = [] := by
  unfold openedOrder
  dsimp only
  split <;> exact ⟨rfl, rfl, rfl⟩

theorem orderOpened_moves (r : OrderRequest) (s : State) :
    Moves openingParts openingLaws s (s.orderOpened r) := by
  have opens (u : State) (o : Order) (m : Meter) (metering : m.working.isSome) :
      Moves [.points] openingLaws u (u.updPoint r.point (openPoint o m)) :=
    updPoint_moves (H := openingLaws) r.point _ (fun h => absurd (by simp [openingLaws]) h) (fun _ _ _ => metering)
      (fun h => absurd (fun x hx => by simp [openingLaws, hx]) h) (fun h => absurd (by simp [openingLaws]) h)
      fun h => absurd (by simp [openingLaws]) h
  have counts : Moves [.journal] openingLaws s (countOpen s) :=
    (countOpen_moves s).mend _ fun x hx hn _ => absurd (by simp [openingLaws, show x = .reserve from hx]) hn
  have joins (u : State) (o : Order) : Moves [.table] openingLaws u (match r.machine with
      | some machine => joinOpenSet machine o.number u
      | none => u) := by
    split <;> [exact (joinOpenSet_moves ..).weaken _; exact .refl ..]
  exact (counts.andThen ((opens _ _ _ rfl).andThen ((joins ..).andThen ((judgeCurtail_moves _).weaken _)))).mono
    (by decide)

/-- R22: the points once the order has its record. -/
theorem orderOpened_point (q : PointId) :
    (s.orderOpened r).point q = if r.point = q then openPoint (openedOrder r s)
      (enterMetering (s.pointSet r.point).meter (s.productSet (s.pointSet r.point).product).beta s.clock)
      (s.point r.point) else s.point q := by
  unfold State.orderOpened
  dsimp only
  rw [point_of_points ((judgeCurtail_moves _).same .points)]
  have joins (u : State) (number : Nat) : (match r.machine with
      | some machine => joinOpenSet machine number u
      | none => u : State).point = u.point := by
    split <;> rfl
  rw [joins, point_updPoint]
  rfl

theorem orderOpened_journal : (s.orderOpened r).journal = (countOpen s).journal := by
  unfold State.orderOpened
  dsimp only
  refine ((judgeCurtail_moves _).same .journal).trans ?_
  split <;> rfl

theorem orderOpened_curtailed :
    (s.orderOpened r).bay.curtailed = (s.bay.curtailed || decide (Config.curtailAt ≤ (countOpen s).journal.reserve)) := by
  unfold State.orderOpened
  dsimp only
  rw [judgeCurtail_curtailed]
  split <;> rfl

/-- R22: an accepted order keeps the laws; that its point held no order before is the first law's. -/
theorem acceptOrder_moves {v : Via} {H : Set Law} (passes : firstFailure (orderChecks v r s) = none)
    (fit : s.UnitsStand ∨ .reserve ∈ H) : Moves openingParts H s (acceptOrder r s).state := by
  have checks : s.bay.curtailed = false ∧ (s.point r.point).state = .idle ∧ s.isSet (.point r.point) = false ∧
      s.isSet .bay = false ∧ (s.draw (s.pointSet r.point).product).current.isSome = true := by
    have := firstFailure_eq_none.1 passes
    simp only [orderChecks, List.mem_append, List.mem_cons, List.not_mem_nil, or_false] at this
    refine ⟨?_, ?_, ?_, ?_, ?_⟩
    · simpa using this (s.bay.curtailed, .journalFull) (by simp)
    · simpa using this (decide ((s.point r.point).state ≠ .idle), .pointBusy) (by simp)
    · exact (Bool.or_eq_false_iff.1 (this (s.isSet (.point r.point) || s.isSet .bay, .tripped) (by simp))).1
    · exact (Bool.or_eq_false_iff.1 (this (s.isSet (.point r.point) || s.isSet .bay, .tripped) (by simp))).2
    · simpa using this ((s.draw (s.pointSet r.point).product).current.isNone, .productEmpty) (by simp)
  obtain ⟨clear, idle, pointClear, bayClear, drawn⟩ := checks
  rw [acceptOrder_state]
  have opened := orderOpened_moves r s
  have first := enterFirstState_moves r.point (s.orderOpened r)
  have frame : Moves openingParts openingLaws s (enterFirstState r.point (s.orderOpened r)) :=
    (opened.andThen first).mono (by decide)
  have other {q : PointId} (hq : r.point ≠ q) : (enterFirstState r.point (s.orderOpened r)).point q = s.point q := by
    rw [enterFirstState_point_ne _ hq, orderOpened_point, if_neg hq]
  have journal : (enterFirstState r.point (s.orderOpened r)).journal = (countOpen s).journal :=
    (show _ = _ from first.same .journal).trans orderOpened_journal
  have record : ((s.orderOpened r).point r.point).order = some (openedOrder r s) := by
    rw [orderOpened_point, if_pos rfl]; rfl
  have valve : ((s.orderOpened r).point r.point).valve = (s.point r.point).valve := by
    rw [orderOpened_point, if_pos rfl]; rfl
  obtain ⟨order, ident, fits⟩ := enterFirstState_point r.point (s.orderOpened r)
  rw [record] at order fits
  refine frame.mend H fun x hx hn hs => ?_
  rcases hx with rfl | rfl | rfl | ⟨P, I, rfl⟩
  · obtain ⟨points, inlets, idents⟩ := hs
    have row := points r.point
    rw [PointUnit.FitsButMeter, idle] at row
    refine ⟨fun q => ?_, fun i => ?_, fun q => ?_⟩
    · by_cases e : r.point = q
      · exact e ▸ fits rfl (valve.trans row.2.2)
      · rw [other e]; exact points q
    · rw [inlet_of_inlets (frame.same .inlets)]; exact inlets i
    · by_cases e : r.point = q
      · exact e ▸ ident
      · rw [other e]; exact idents q
  · have row := (fit.resolve_right hn).1 r.point
    rw [PointUnit.FitsButMeter, idle] at row
    refine ReserveHeld.of_open (s := s) hs clear (openOperations_of_closed (p := r.point)
      (frame.same .inlets).symm (by rw [order]; rfl) row.1 fun q hq => by rw [other (Ne.symm hq)])
      (by rw [journal]; rfl) (by rw [journal]; rfl) ?_
    rw [journal]
    exact (show _ = _ from first.same .curtailed).trans orderOpened_curtailed
  · obtain ⟨run, chains, orders, records⟩ := hs
    obtain ⟨product, net, entries⟩ := openedOrder_facts r s
    have products := productSet_of_same (frame.same .products)
    have draws : (enterFirstState r.point (s.orderOpened r)).stock.draws = s.stock.draws := frame.same .draws
    have posting : (enterFirstState r.point (s.orderOpened r)).postingTank = s.postingTank := by
      funext k
      simp only [State.postingTank, State.draw, draws]
    refine ⟨frame.running.2 run, fun k => ?_, fun q o ho => ?_, fun x hx => ?_⟩
    · simp only [State.draw, draws, products]
      exact chains k
    · rw [posting, products, frame.running]
      by_cases e : r.point = q
      · subst e
        obtain rfl : openedOrder r s = o := by rw [order] at ho; exact Option.some.inj ho
        obtain ⟨t, ht⟩ := Option.isSome_iff_exists.1 drawn
        rw [product, net, entries, signedNet_zero]
        refine ⟨⟨List.nodup_nil, by simp, rfl⟩, fun _ => ⟨by simp, t, (chains _).2 t ht, ?_⟩⟩
        rw [postingTank_eq, ht]; rfl
      · rw [other e] at ho
        exact orders q o ho
    · rw [journal] at hx
      exact records x hx
  · obtain ⟨points, inlets, idents⟩ := hs
    refine ⟨fun q hq set => ?_, fun i hi d hd going => ?_, fun q => ?_⟩
    · rw [isSet_of_same (frame.same .latches)] at set
      by_cases e : r.point = q
      · subst e
        rw [pointClear, bayClear] at set
        cases set
      · rw [other e]; exact points q hq set
    · rw [inlet_of_inlets (frame.same .inlets)] at hd going
      rw [tankTripped_of_same (frame.same .latches) (frame.same .tankSets)]
      exact inlets i hi d hd going
    · by_cases e : r.point = q
      · exact e ▸ ident
      · rw [other e]; exact idents q

end

/-- What a request that wakes the bay touches, an order opened or refused. -/
theorem openOrderRequest_moves {v : Via} {f : OpenOrder} {s : State} {H : Set Law}
    (fit : s.UnitsStand ∨ .reserve ∈ H) :
    Moves (.mode :: openingParts) H s (openOrderRequest v f s).state := by
  have woken := wake_moves (.openOrder v.link) s
  refine Moves.mono (K := [.mode, .links] ++ openingParts) ((woken.weaken H).andThen ?_) (by decide)
  rw [openOrderRequest, openOrderChecked]
  split
  · exact .refl ..
  · exact checked_moves fun passes => acceptOrder_moves passes (fit.imp_left (·.of_same (woken.same .points) (woken.same .inlets)))

/-! ## A delivery accepted (R90) -/

/-- R90, R100: a delivery that opens, and the mark of a shared tank on both. -/
theorem markShared_moves (t : TankId) (s : State) : Moves [.inlets] ∅ s (markShared t s) := by
  unfold markShared
  dsimp only
  split
  · exact .forEach _ _ (fun i _ s => updDelivery_moves i _ (fun _ => by rfl) fun _ h => by exact h) s
  · exact .refl ..

theorem markShared_isSome (t : TankId) (s : State) (i : InletId) :
    ((markShared t s).inlet i).delivery.isSome = (s.inlet i).delivery.isSome := by
  unfold markShared
  dsimp only
  split
  · refine forEach_invariant (P := fun u => (u.inlet i).delivery.isSome = (s.inlet i).delivery.isSome) _ _
      (fun j u h => ?_) s rfl
    rw [inlet_updDelivery]
    split
    · next e => subst e; simpa using h
    · exact h
  · rfl

/-- What the opening of a delivery touches. -/
def deliveryParts : List Part := [.journal, .inlets, .draws, .reports, .links, .curtailed]

theorem openInlet_fits (d : Delivery) (m : Meter) (u : InletUnit) (metering : m.working.isSome) :
    (openInlet d m u).FitsButMeter ∧ (openInlet d m u).Metered := by
  refine ⟨?_, fun _ _ => metering⟩
  unfold InletUnit.FitsButMeter openInlet
  cases u.coupled <;> exact ⟨rfl, rfl⟩

section
variable {v : Via} {r : DeliveryRequest} {s : State}

/-- R90: the inlets with the new delivery, and its count. -/
def State.deliveryOpened (v : Via) (r : DeliveryRequest) (s : State) : State :=
  (countOpen s).updInlet r.inlet (openInlet (newDelivery v r s)
    (enterMetering (s.inletSet r.inlet).meter (s.productSet r.product).beta s.clock))

theorem acceptDelivery_state (v : Via) (r : DeliveryRequest) (s : State) :
    (acceptDelivery v r s).state =
      judgeCurtail (chainCheck r.product false (markShared r.tank (s.deliveryOpened v r))) := rfl

theorem deliveryOpened_inlet (v : Via) (r : DeliveryRequest) (s : State) (i : InletId) :
    (s.deliveryOpened v r).inlet i = if r.inlet = i then openInlet (newDelivery v r s)
      (enterMetering (s.inletSet r.inlet).meter (s.productSet r.product).beta s.clock) (s.inlet i) else s.inlet i := by
  rw [State.deliveryOpened, inlet_updInlet]
  split
  · next h => subst h; rfl
  · rfl

theorem deliveryOpened_moves (v : Via) (r : DeliveryRequest) (s : State) :
    Moves [.journal, .inlets] (insert .reserve tripLaws) s (s.deliveryOpened v r) := by
  have counts : Moves [.journal] (insert .reserve tripLaws) s (countOpen s) :=
    (countOpen_moves s).mend _ fun x hx hn _ => absurd (by simp [show x = .reserve from hx]) hn
  exact (counts.andThen (updInlet_moves r.inlet _ (fun _ _ => (openInlet_fits _ _ _ rfl).1)
    (fun _ _ => (openInlet_fits _ _ _ rfl).2) (fun h => absurd (Set.subset_insert ..) h)
    fun h => absurd (by simp) h)).mono (by decide)

theorem acceptDelivery_moves {H : Set Law} (passes : firstFailure (deliveryChecks v r s) = none)
    (fit : s.UnitsStand ∨ .reserve ∈ H) : Moves deliveryParts H s (acceptDelivery v r s).state := by
  have checks : s.bay.curtailed = false ∧ (s.inlet r.inlet).state = .idle ∧ s.tankTripped r.tank = false := by
    have := firstFailure_eq_none.1 passes
    simp only [deliveryChecks, List.mem_cons, List.not_mem_nil, or_false] at this
    have unavailable := this ((s.tankSet r.tank).outOfService || s.isSet (.bund (s.tankSet r.tank).bund) ||
      (s.tank r.tank).rebasePending || s.bookAtHighCut r.tank, .tankUnavailable) (by simp)
    simp only [Bool.or_eq_false_iff] at unavailable
    refine ⟨?_, ?_, ?_⟩
    · simpa using this (s.bay.curtailed, .journalFull) (by simp)
    · simpa using this (decide ((s.inlet r.inlet).state ≠ .idle), .inletBusy) (by simp)
    · rw [State.tankTripped, unavailable.1.1.2, Bool.false_or]
      exact this (s.isSet .bay, .tripped) (by simp)
  obtain ⟨clear, idle, untripped⟩ := checks
  have opened := deliveryOpened_moves v r s
  have shared := markShared_moves r.tank (s.deliveryOpened v r)
  have checked := chainCheck_moves r.product false (markShared r.tank (s.deliveryOpened v r))
  have judged := judgeCurtail_moves (chainCheck r.product false (markShared r.tank (s.deliveryOpened v r)))
  have rest := shared.andThen (checked.andThen judged)
  rw [acceptDelivery_state]
  have frame : Moves deliveryParts (insert .reserve tripLaws) s
      (judgeCurtail (chainCheck r.product false (markShared r.tank (s.deliveryOpened v r)))) :=
    (opened.andThen (rest.weaken _)).mono (by decide)
  refine frame.mend H fun x hx hn hs => ?_
  rcases hx with rfl | ⟨P, I, rfl⟩
  · have row := (fit.resolve_right hn).2 r.inlet
    rw [InletUnit.FitsButMeter, idle] at row
    have journal : (judgeCurtail (chainCheck r.product false (markShared r.tank (s.deliveryOpened v r)))).journal =
        (countOpen s).journal := rest.same .journal
    have before : (s.deliveryOpened v r).openOperations.length = s.openOperations.length + 1 := by
      refine openOperations_of_inlet_closed (i := r.inlet) rfl ?_ row.1 fun j hj => ?_
      · rw [deliveryOpened_inlet, if_pos rfl]; rfl
      · rw [deliveryOpened_inlet, if_neg (Ne.symm hj)]
    refine ReserveHeld.of_open (s := s) hs clear ?_ (by rw [journal]; rfl) (by rw [journal]; rfl) ?_
    · have later := checked.andThen judged
      rw [← before, openOperations_length, openOperations_length, point_of_points (rest.same .points),
        inlet_of_inlets (later.same .inlets)]
      simp only [markShared_isSome]
    · rw [journal, judgeCurtail_curtailed]
      have same := shared.andThen checked
      rw [show (chainCheck r.product false (markShared r.tank (s.deliveryOpened v r))).bay.curtailed = s.bay.curtailed from
        same.same .curtailed, show (chainCheck r.product false (markShared r.tank (s.deliveryOpened v r))).journal =
        (countOpen s).journal from same.same .journal]
  · refine rest.law (.trips P I) (Set.notMem_empty _) ?_
    obtain ⟨points, inlets, idents⟩ := hs
    refine ⟨points, fun i hi d hd going => ?_, idents⟩
    rw [deliveryOpened_inlet] at hd going
    split at hd
    · obtain rfl : newDelivery v r s = d := by simpa [openInlet] using hd
      exact ⟨untripped, rfl⟩
    · next e => rw [if_neg e] at going; exact inlets i hi d hd going

end

theorem openDeliveryRequest_moves {v : Via} {f : OpenDelivery} {s : State} {H : Set Law}
    (fit : s.UnitsStand ∨ .reserve ∈ H) :
    Moves (.mode :: deliveryParts) H s (openDeliveryRequest v f s).state := by
  have woken := wake_moves (.openDelivery v.link) s
  refine Moves.mono (K := [.mode, .links] ++ deliveryParts) ((woken.weaken H).andThen ?_) (by decide)
  rw [openDeliveryRequest, openDeliveryChecked]
  split
  · exact .refl ..
  · exact checked_moves fun passes => acceptDelivery_moves passes (fit.imp_left (·.of_same (woken.same .points) (woken.same .inlets)))

end Sys2Proof.Machine

/-! # Settings written -/

namespace Sys2Proof.Machine

open Sys2Proof

/-! ## Settings that no law speaks of -/

theorem storePoints_moves (x : Table 8 PointSettings) (s : State) :
    Moves [.storeRest] ∅ s { s with store := { s.store with points := x } } :=
  .of_untouched rfl rfl (fun x hx => by cases x <;> simp [Part.same] at hx ⊢)
    (by intro x; cases x <;> simp [Law.parts])

theorem storePumps_moves (x : Table 6 PumpSettings) (s : State) :
    Moves [.storeRest] ∅ s { s with store := { s.store with pumps := x } } :=
  .of_untouched rfl rfl (fun x hx => by cases x <;> simp [Part.same] at hx ⊢)
    (by intro x; cases x <;> simp [Law.parts])

theorem storeInlets_moves (x : Table 2 InletSettings) (s : State) :
    Moves [.storeRest] ∅ s { s with store := { s.store with inlets := x } } :=
  .of_untouched rfl rfl (fun x hx => by cases x <;> simp [Part.same] at hx ⊢)
    (by intro x; cases x <;> simp [Law.parts])

theorem storeTiming_moves (x : SetStockTiming) (s : State) :
    Moves [.storeRest] ∅ s { s with store := { s.store with timing := x } } :=
  .of_untouched rfl rfl (fun x hx => by cases x <;> simp [Part.same] at hx ⊢)
    (by intro x; cases x <;> simp [Law.parts])

theorem storeDebounce_moves (x : DebounceTimes) (s : State) :
    Moves [.storeRest] ∅ s { s with store := { s.store with debounce := x } } :=
  .of_untouched rfl rfl (fun x hx => by cases x <;> simp [Part.same] at hx ⊢)
    (by intro x; cases x <;> simp [Law.parts])

theorem storeShifts_moves (x : List Nat) (s : State) :
    Moves [.storeRest] ∅ s { s with store := { s.store with shifts := x } } :=
  .of_untouched rfl rfl (fun x hx => by cases x <;> simp [Part.same] at hx ⊢)
    (by intro x; cases x <;> simp [Law.parts])

theorem setNextShift_moves (calendar : Nat) (s : State) : Moves [.bayRest] ∅ s (setNextShift calendar s) :=
  .of_untouched rfl rfl (fun x hx => by cases x <;> simp [Part.same, setNextShift] at hx ⊢)
    (by intro x; cases x <;> simp [Law.parts])

theorem setOffset_moves (offset : Int) (s : State) :
    Moves [.bayRest] ∅ s { s with bay := { s.bay with offset := offset, clockSet := true } } :=
  .of_untouched rfl rfl (fun x hx => by cases x <;> simp [Part.same] at hx ⊢)
    (by intro x; cases x <;> simp [Law.parts])

theorem setCursor_moves (l : Link) (n : Nat) (s : State) : Moves [.accountsRest] ∅ s (s.setCursor l n) :=
  .of_untouched rfl rfl (fun x hx => by cases x <;> simp [Part.same, State.setCursor] at hx ⊢)
    (by intro x; cases x <;> simp [Law.parts])

theorem setClasses_moves (x : Table 16 ClassRecord) (s : State) :
    Moves [.accountsRest] ∅ s { s with accounts := { s.accounts with classes := x } } :=
  .of_untouched rfl rfl (fun x hx => by cases x <;> simp [Part.same] at hx ⊢)
    (by intro x; cases x <;> simp [Law.parts])

/-! ## Links (R184, R192) -/

theorem setLinkSettings_moves (l : Link) (x : LinkSettings) {s : State}
    (configure : s.ConfigureHeld → (s.setLinkSettings l x).ConfigureHeld) :
    Moves [.linkSets] ∅ s (s.setLinkSettings l x) :=
  .of_frame rfl rfl (fun x hx => by cases x <;> simp [Part.same, State.setLinkSettings] at hx ⊢)
    fun x _ touched hs => by cases x <;> simp [Law.parts] at touched; exact configure hs

theorem perms_setLinkSettings (l m : Link) (x : LinkSettings) (s : State) :
    (s.setLinkSettings l x).perms m = if l = m then x.perms else s.perms m := by
  simp only [State.perms, State.setLinkSettings, look_put]
  split <;> rfl

theorem mem_allLinks (l : Link) : l ∈ allLinks := by revert l; decide

theorem setPermissionsRequest_moves (v : Via) (f : SetPermissions) (s : State) :
    Moves [.linkSets] ∅ s (setPermissionsRequest v f s).state := by
  unfold setPermissionsRequest
  split
  · exact .refl ..
  · split
    · next l perms _ _ =>
      split
      · next held =>
        refine setLinkSettings_moves l _ fun _ => ?_
        obtain ⟨m, -, hm⟩ := List.any_eq_true.1 held
        refine ⟨m, ?_⟩
        rw [perms_setLinkSettings]
        by_cases e : m = l
        · rw [if_pos e.symm]; rwa [if_pos e] at hm
        · rw [if_neg (Ne.symm e)]; rwa [if_neg e] at hm
      · exact .refl ..
    · exact .refl ..

theorem setSubscriptionRequest_moves (v : Via) (f : SetSubscription) (s : State) :
    Moves [.linkSets, .links] ∅ s (setSubscriptionRequest v f s).state := by
  unfold setSubscriptionRequest
  split
  · exact .refl ..
  · split
    · next l classes _ _ =>
      split
      · refine ((setLinkSettings_moves l _ ?_).andThen (updLink_moves l _ id)).mono (by decide)
        rintro ⟨m, hm⟩
        refine ⟨m, ?_⟩
        rw [perms_setLinkSettings]
        split
        · next e => subst e; exact hm
        · exact hm
      · exact .refl ..
    · exact .refl ..

/-! ## Points and inlets (R18, R87) -/

/-- The laws that a request may only keep while the rows of the units hold. -/
def fitLaws : Set Law := insert .reserve tripLaws

/-- Section 2.2: a point with no order is IDLE or DISABLED. -/
theorem PointUnit.FitsButMeter.of_free {u : PointUnit} (fits : u.FitsButMeter) (free : u.order = none) :
    (u.state = .idle ∨ u.state = .disabled) ∧ u.meter.working = none ∧ u.valve = false := by
  unfold FitsButMeter at fits
  rw [free] at fits
  split at fits
  · next h => exact ⟨.inr h, fits.2⟩
  · next h => exact ⟨.inl h, fits.2⟩
  all_goals cases fits.1

/-- R18: what the writing of a point's settings leaves of its unit. -/
theorem applyPointSettings_facts (old new : PointSettings) (now : Nat) (u : PointUnit) :
    (applyPointSettings old new now u).state = (if new.enabled then .idle else .disabled) ∧
      (applyPointSettings old new now u).order = u.order ∧ (applyPointSettings old new now u).meter = u.meter ∧
      (applyPointSettings old new now u).valve = u.valve ∧
      (applyPointSettings old new now u).identDue = u.identDue := by
  unfold applyPointSettings
  dsimp only
  split <;> exact ⟨rfl, rfl, rfl, rfl, rfl⟩

theorem applyPointSettings_moves {p : PointId} {s : State} {H : Set Law} (old new : PointSettings) (now : Nat)
    (free : (s.point p).order = none) (fit : (s.point p).FitsButMeter ∨ fitLaws ⊆ H) :
    Moves [.points] H s (s.updPoint p (applyPointSettings old new now)) := by
  obtain ⟨state, order, meter, valve, identDue⟩ := applyPointSettings_facts old new now (s.point p)
  have stopped (fits : (s.point p).FitsButMeter) (ident : (s.point p).IdentFits) :
      ¬(s.point p).identDue.isSome = true := by
    intro some
    have := ident some
    rcases (fits.of_free free).1 with h | h <;> rw [h] at this <;> cases this
  refine updPoint_moves p _ (fun _ ident fits => ⟨fun some => ?_, ?_⟩) (fun _ _ some => ?_)
    (fun held ident => ⟨fun some => ?_, fun _ some => ?_⟩) (fun _ => ?_) fun _ o ho => ?_
  · rw [identDue] at some; exact absurd some (stopped fits ident)
  · obtain ⟨-, working, shut⟩ := fits.of_free free
    unfold PointUnit.FitsButMeter
    rw [state, order, meter, valve]
    cases new.enabled <;> exact ⟨free, working, shut⟩
  · rw [order, free] at some; cases some
  · have fits := fit.resolve_right fun h => held fun x hx => h (Set.subset_insert _ _ hx)
    rw [identDue] at some; exact absurd some (stopped fits ident)
  · rw [order, free] at some; cases some
  · rw [order]
  · rw [order, free] at ho; cases ho

theorem setPointRequest_moves {v : Via} {f : SetPoint} {s : State} {H : Set Law}
    (fit : s.UnitsStand ∨ fitLaws ⊆ H) : Moves [.storeRest, .points] H s (setPointRequest v f s).state := by
  unfold setPointRequest
  dsimp only
  split
  · exact .refl ..
  split
  · exact .refl ..
  next p _ =>
    split
    · exact .refl ..
    next free =>
      split
      · exact .refl ..
      next new _ =>
        have stored := storePoints_moves (put s.store.points p new) s
        exact ((stored.weaken H).andThen (applyPointSettings_moves _ _ _ (Option.not_isSome_iff_eq_none.1 free)
          (fit.imp_left fun h => h.1 p))).mono (by decide)

theorem setInletRequest_moves (v : Via) (f : SetInlet) (s : State) :
    Moves [.storeRest] ∅ s (setInletRequest v f s).state := by
  unfold setInletRequest
  split
  · exact .refl ..
  split
  · exact .refl ..
  split
  · exact .refl ..
  split
  · exact .refl ..
  · exact storeInlets_moves ..

theorem setPumpRequest_moves (v : Via) (f : SetPump) (s : State) :
    Moves [.storeRest] ∅ s (setPumpRequest v f s).state := by
  unfold setPumpRequest
  split
  · exact .refl ..
  split
  · exact .refl ..
  split
  · exact storePumps_moves ..
  · exact .refl ..

theorem setStockTimingRequest_moves (v : Via) (f : SetStockTiming) (s : State) :
    Moves [.storeRest, .stockRest] ∅ s (setStockTimingRequest v f s).state := by
  unfold setStockTimingRequest
  split
  · exact .refl ..
  split
  · exact ((storeTiming_moves f s).andThen (checkDue_moves ..)).mono (by decide)
  · exact .refl ..

theorem setDebounceRequest_moves (v : Via) (f : SetDebounce) (s : State) :
    Moves [.storeRest] ∅ s (setDebounceRequest v f s).state := by
  unfold setDebounceRequest
  split
  · exact .refl ..
  split
  · exact .refl ..
  split
  · exact storeDebounce_moves ..
  · exact .refl ..

theorem setShiftTableRequest_moves (v : Via) (minutes : Coded (List Nat)) (s : State) :
    Moves [.storeRest, .bayRest] ∅ s (setShiftTableRequest v minutes s).state := by
  unfold setShiftTableRequest
  split
  · exact .refl ..
  split
  · exact .refl ..
  split
  · exact ((storeShifts_moves _ s).andThen (setNextShift_moves ..)).mono (by decide)
  · exact .refl ..

/-! ## Tanks (R64, R82) -/

/-- The settings of a tank written. -/
theorem tankSet_setTankSettings (t u : TankId) (x : TankSettings) (s : State) :
    (s.setTankSettings t x).tankSet u = if t = u then x else s.tankSet u := look_put ..

theorem setTankSettings_frame (t : TankId) (x : TankSettings) (s : State) :
    Moves [.tankSets] (tripLaws ∪ drawLaws) s (s.setTankSettings t x) :=
  .of_frame rfl rfl (fun y hy => by cases y <;> simp [Part.same, State.setTankSettings] at hy ⊢)
    fun y hy touched _ => by cases y <;> simp [Law.parts, tripLaws, drawLaws] at touched hy

/-- R64, R82: tank settings written while no delivery may come into the tank. -/
theorem setTankSettings_trips {t : TankId} {x : TankSettings} {s : State} {P : Set PointId} {I : Set InletId}
    (h : s.TripsBut P I) (quiet : s.receiving t = false ∨ x.bund = (s.tankSet t).bund) :
    (s.setTankSettings t x).TripsBut P I := by
  obtain ⟨points, inlets, idents⟩ := h
  refine ⟨points, fun i hi d hd going => ?_, idents⟩
  obtain ⟨clear, flag⟩ := inlets i hi d hd going
  refine ⟨?_, flag⟩
  have same : ((s.setTankSettings t x).tankSet d.tank).bund = (s.tankSet d.tank).bund := by
    rw [tankSet_setTankSettings]
    split
    · next e =>
      refine quiet.elim (fun still => ?_) fun same => e ▸ same
      rw [State.receiving, List.any_eq_false] at still
      have := still i (mem_allInlets i)
      rw [show (s.inlet i).delivery = some d from hd] at this
      simp [flag, e] at this
    · rfl
  rw [State.tankTripped, same]
  exact clear

/-- The fourth law where the settings and the marks of one tank have changed, its conditions following its book. -/
theorem DrawsBut.of_tank {t : TankId} {s s' : State} {B : Set ProductId} (h : s.DrawsBut B)
    (current : s'.conditionsCurrent t) (tanks : ∀ u, u ≠ t → s'.tank u = s.tank u)
    (sets : ∀ u, u ≠ t → s'.tankSet u = s.tankSet u) (draws : Part.draws.same s s')
    (products : Part.products.same s s') (latches : Part.latches.same s s')
    (leaves : ∀ k, t ∈ (s.productSet k).chain → (s'.tankSet t).product = k) :
    s'.DrawsBut (insert (s'.tankSet t).product B) := by
  obtain ⟨conditions, chains, mem, ready⟩ := h
  have draw : s'.draw = s.draw := by funext k; simp only [State.draw, show s'.stock.draws = s.stock.draws from draws]
  refine ⟨fun u => ?_, fun k u hu => ?_, fun k u hu => ?_, fun k hk u hu => ?_⟩
  · by_cases e : u = t
    · exact e ▸ current
    · have := conditions u
      simp only [State.conditionsCurrent, tanks u e, sets u e, isWaste_of_same products] at this ⊢
      exact this
  · rw [productSet_of_same products] at hu
    by_cases e : u = t
    · subst e; exact leaves k hu
    · rw [sets u e]; exact chains k u hu
  · rw [draw] at hu
    rw [productSet_of_same products]; exact mem k u hu
  · rw [draw] at hu
    simp only [Set.mem_insert_iff, not_or] at hk
    have e : u ≠ t := fun e => hk.1 (leaves k (e ▸ mem k u hu)).symm
    refine (ready_of_standing ?_ (by rw [sets u e]) (by rw [tanks u e]; exact ⟨rfl, rfl, rfl⟩)).trans (ready k hk.2 u hu)
    rw [State.tankTripped, State.tankTripped, sets u e, isSet_of_same latches]

/-- What a write of a tank's settings or of its service condition touches. -/
def tankParts : List Part := [.tankSets, .tanks, .draws, .reports, .links]

/-- R64: the settings of a tank written, its conditions evaluated and the chain of its product checked. -/
theorem writeTank_moves {t : TankId} {new : TankSettings} {s : State} (stays : s.leavesChain t new = false)
    (quiet : s.receiving t = false) :
    Moves tankParts ∅ s (chainCheck new.product false (evaluateConditions t (s.setTankSettings t new))) := by
  have check := chainCheck_moves new.product false (evaluateConditions t (s.setTankSettings t new))
  have frame : Moves tankParts (tripLaws ∪ drawLaws) s
      (chainCheck new.product false (evaluateConditions t (s.setTankSettings t new))) :=
    ((setTankSettings_frame t new s).andThen (((evaluateConditions_frame ..).mend _ fun x hx hn _ =>
      absurd (.inr hx) hn).andThen (check.weaken _))).mono (by decide)
  refine frame.mend ∅ fun x hx _ hs => ?_
  rcases hx with ⟨P, I, rfl⟩ | ⟨B, rfl⟩
  · refine check.law (.trips P I) (Set.notMem_empty _) ((evaluateConditions_frame ..).law (.trips P I) ?_
      (setTankSettings_trips hs (.inl quiet)))
    rintro ⟨B, h⟩
    cases h
  · have own : (evaluateConditions t (s.setTankSettings t new)).tankSet t = new := by
      change (s.setTankSettings t new).tankSet t = new
      rw [tankSet_setTankSettings, if_pos rfl]
    have evaluated : (evaluateConditions t (s.setTankSettings t new)).DrawsBut (insert new.product B) := by
      have of := DrawsBut.of_tank (t := t) (s' := evaluateConditions t (s.setTankSettings t new)) hs
        (evaluateConditions_current t _)
        (fun u hu => by rw [evaluateConditions_eq, tank_updTank, if_neg (Ne.symm hu)]; rfl)
        (fun u hu => by change (s.setTankSettings t new).tankSet u = _; rw [tankSet_setTankSettings, if_neg (Ne.symm hu)])
        rfl rfl ⟨rfl, rfl, rfl⟩ fun k hk => ?_
      · rwa [own] at of
      · rw [own]
        have old := hs.2.1 k t hk
        by_contra other
        simp only [State.leavesChain, Bool.and_eq_false_iff] at stays
        rcases stays with same | gone
        · exact other (by simpa [old] using same)
        · rw [old] at gone
          simp [hk] at gone
    obtain ⟨conditions, chains, mem, ready⟩ := chainCheck_drawsBut false evaluated
    exact ⟨conditions, chains, mem, fun j hj => ready j fun ⟨hin, hne⟩ => hin.elim hne hj⟩

theorem receiving_of_not_busy {s : State} {t : TankId} (h : ¬s.tankBusy t = true) : s.receiving t = false := by
  simp only [State.tankBusy, Bool.or_eq_true, not_or, Bool.not_eq_true] at h
  exact h.2

theorem setTankRequest_moves (v : Via) (f : SetTank) (s : State) :
    Moves tankParts ∅ s (setTankRequest v f s).state := by
  unfold setTankRequest
  dsimp only
  split
  · exact .refl ..
  split
  · exact .refl ..
  split
  · exact .refl ..
  split
  · exact .refl ..
  next stays =>
    split
    · exact .refl ..
    next free => exact writeTank_moves (by simpa using stays) (receiving_of_not_busy free)

/-- R82: a tank taken out of service or put back, and the chain of its product checked. -/
theorem writeService_moves (t : TankId) (out : Bool) (s : State) :
    Moves tankParts ∅ s
      (chainCheck (s.tankSet t).product false (s.setTankSettings t { s.tankSet t with outOfService := out })) := by
  set new := { s.tankSet t with outOfService := out } with hnew
  have check := chainCheck_moves (s.tankSet t).product false (s.setTankSettings t new)
  have frame : Moves tankParts (tripLaws ∪ drawLaws) s
      (chainCheck (s.tankSet t).product false (s.setTankSettings t new)) :=
    ((setTankSettings_frame t new s).andThen (check.weaken _)).mono (by decide)
  refine frame.mend ∅ fun x hx _ hs => ?_
  rcases hx with ⟨P, I, rfl⟩ | ⟨B, rfl⟩
  · exact check.law (.trips P I) (Set.notMem_empty _) (setTankSettings_trips hs (.inr rfl))
  · have own : (s.setTankSettings t new).tankSet t = new := by rw [tankSet_setTankSettings, if_pos rfl]
    have written : (s.setTankSettings t new).DrawsBut (insert (s.tankSet t).product B) := by
      have of := DrawsBut.of_tank (t := t) (s' := s.setTankSettings t new) hs ?_ (fun _ _ => rfl)
        (fun u hu => by rw [tankSet_setTankSettings, if_neg (Ne.symm hu)]) rfl rfl ⟨rfl, rfl, rfl⟩ fun k hk => ?_
      · rwa [own] at of
      · have := hs.1 t
        simp only [State.conditionsCurrent, own] at this ⊢
        exact this
      · rw [own]; exact hs.2.1 k t hk
    obtain ⟨conditions, chains, mem, ready⟩ := chainCheck_drawsBut false written
    exact ⟨conditions, chains, mem, fun j hj => ready j fun ⟨hin, hne⟩ => hin.elim hne hj⟩

theorem setTankServiceRequest_moves (v : Via) (f : SetTankService) (s : State) :
    Moves tankParts ∅ s (setTankServiceRequest v f s).state := by
  unfold setTankServiceRequest
  dsimp only
  split
  · exact .refl ..
  split
  · split
    · exact .refl ..
    split
    · exact .refl ..
    · exact writeService_moves ..
  · exact .refl ..

end Sys2Proof.Machine

/-! # A product record written (R63) -/

namespace Sys2Proof.Machine

open Sys2Proof

/-! ## Conditions of several tanks evaluated (R66) -/

theorem conditionsCurrent_updTank {t u : TankId} {f : Tank → Tank} {s : State} (other : u ≠ t)
    (h : s.conditionsCurrent u) : (s.updTank t f).conditionsCurrent u := by
  simp only [State.conditionsCurrent, tank_updTank, if_neg (Ne.symm other)] at h ⊢
  exact h

theorem evaluateAll_current (ts : List TankId) {s : State} (h : ∀ u ∉ ts, s.conditionsCurrent u) (u : TankId) :
    (forEach ts evaluateConditions s).conditionsCurrent u := by
  induction ts generalizing s with
  | nil => exact h u (by simp)
  | cons t ts ih =>
    refine ih fun v hv => ?_
    by_cases e : v = t
    · exact e ▸ evaluateConditions_current t s
    · exact conditionsCurrent_updTank e (h v (by simp [e, hv]))

theorem evaluateAll_tank (ts : List TankId) {u : TankId} (hu : u ∉ ts) (s : State) :
    (forEach ts evaluateConditions s).tank u = s.tank u := by
  induction ts generalizing s with
  | nil => rfl
  | cons t ts ih =>
    simp only [List.mem_cons, not_or] at hu
    calc (forEach (t :: ts) evaluateConditions s).tank u
        = (evaluateConditions t s).tank u := ih hu.2 _
      _ = s.tank u := by rw [evaluateConditions_eq, tank_updTank, if_neg (Ne.symm hu.1)]

theorem evaluateAll_frame (ts : List TankId) (s : State) :
    Moves [.tanks] drawLaws s (forEach ts evaluateConditions s) :=
  .forEach _ _ (fun t _ s => evaluateConditions_frame t s) s

/-! ## The record written -/

/-- A product record stored. -/
def State.setProduct (k : ProductId) (new : ProductSettings) (s : State) : State :=
  { s with store := { s.store with products := put s.store.products k new } }

theorem productSet_setProduct (k j : ProductId) (new : ProductSettings) (s : State) :
    (s.setProduct k new).productSet j = if k = j then new else s.productSet j := look_put ..

theorem setProduct_frame (k : ProductId) (new : ProductSettings) (s : State) :
    Moves [.products] (insert .entries drawLaws) s (s.setProduct k new) :=
  .of_frame rfl rfl (fun y hy => by cases y <;> simp [Part.same, State.setProduct] at hy ⊢)
    fun y hy touched _ => by cases y <;> simp [Law.parts, drawLaws] at touched hy

theorem mem_allTanks (t : TankId) : t ∈ allTanks := by revert t; decide

/-- The tanks of a product. -/
def State.tanksOfProduct (s : State) (k : ProductId) : List TankId :=
  allTanks.filter fun t => (s.tankSet t).product = k

/-- R63: a product record stored, with the conditions that its change of kind calls for. -/
def State.productEvaluated (k : ProductId) (new : ProductSettings) (s : State) : State :=
  if ((s.productSet k).kind = .waste) ≠ (new.kind = .waste) then
    forEach (s.tanksOfProduct k) evaluateConditions (s.setProduct k new)
  else s.setProduct k new

/-- R63: whether a product record changes the kind or the chain. -/
def State.rechains (s : State) (k : ProductId) (new : ProductSettings) : Prop :=
  (s.productSet k).kind ≠ new.kind ∨ (s.productSet k).chain ≠ new.chain

theorem writeProduct_changed {k : ProductId} {new : ProductSettings} {s : State} (h : s.rechains k new) :
    writeProduct k new s = chainCheck k true (s.productEvaluated k new) := if_pos h

/-- R63: a record that keeps kind and chain is stored, and nothing else. -/
theorem writeProduct_unchanged {k : ProductId} {new : ProductSettings} {s : State} (h : ¬s.rechains k new) :
    writeProduct k new s = s.setProduct k new := by
  have kind : (s.productSet k).kind = new.kind := by
    by_contra e
    exact h (.inl e)
  exact (if_neg h).trans (if_neg (by rw [kind]; simp))

theorem productEvaluated_frame (k : ProductId) (new : ProductSettings) (s : State) :
    Moves [.products, .tanks] (insert .entries drawLaws) s (s.productEvaluated k new) := by
  unfold State.productEvaluated
  split
  · exact (setProduct_frame k new s).andThen ((evaluateAll_frame ..).mend _ fun x hx hn _ => absurd (.inr hx) hn)
  · exact (setProduct_frame k new s).mono (by decide)

theorem productEvaluated_productSet (k j : ProductId) (new : ProductSettings) (s : State) :
    (s.productEvaluated k new).productSet j = if k = j then new else s.productSet j := by
  have same : (s.productEvaluated k new).productSet = (s.setProduct k new).productSet := by
    unfold State.productEvaluated
    split
    · exact productSet_of_same ((evaluateAll_frame ..).same .products)
    · rfl
  rw [same, productSet_setProduct]

/-- R63: no tank of another product is evaluated. -/
theorem productEvaluated_tank {k : ProductId} {new : ProductSettings} {s : State} {u : TankId}
    (other : (s.tankSet u).product ≠ k) : (s.productEvaluated k new).tank u = s.tank u := by
  unfold State.productEvaluated
  split
  · exact evaluateAll_tank _ (by simp [State.tanksOfProduct, other]) _
  · rfl

/-- R63, R66: the conditions follow the books after a change of kind too. -/
theorem productEvaluated_current {k : ProductId} {new : ProductSettings} {s : State} (h : ∀ u, s.conditionsCurrent u)
    (u : TankId) : (s.productEvaluated k new).conditionsCurrent u := by
  have stored (u : TankId) (waste : (s.setProduct k new).isWaste (s.tankSet u).product = s.isWaste (s.tankSet u).product) :
      (s.setProduct k new).conditionsCurrent u := by
    have := h u
    simp only [State.conditionsCurrent] at this ⊢
    change (s.tank u).rebasePending = false → if (s.setProduct k new).isWaste (s.tankSet u).product then _ else _
    rw [waste]
    exact this
  unfold State.productEvaluated
  split
  · refine evaluateAll_current _ (fun u hu => stored u ?_) u
    have other : k ≠ (s.tankSet u).product := fun e => hu (by simp [State.tanksOfProduct, e, mem_allTanks])
    rw [State.isWaste, State.isWaste, productSet_setProduct, if_neg other]
  · next same =>
    refine stored u ?_
    rw [State.isWaste, State.isWaste, productSet_setProduct]
    split
    · next e => subst e; simp only [ne_eq, not_not] at same; simp [same]
    · rfl

theorem drawAfter_start (s : State) (k : ProductId) :
    s.drawAfter k true = s.firstEligible k (s.productSet k).chain := by
  unfold State.drawAfter
  cases (s.draw k).current <;> rfl

/-- What a write of a product record touches. -/
def productParts : List Part := [.products, .tanks, .draws, .reports, .links]

theorem setProduct_moves {k : ProductId} {new : ProductSettings} {s : State} (same : ¬s.rechains k new) :
    Moves [.products] ∅ s (s.setProduct k new) := by
  simp only [State.rechains, ne_eq, not_or, not_not] at same
  have kind (j : ProductId) : ((s.setProduct k new).productSet j).kind = (s.productSet j).kind := by
    rw [productSet_setProduct]; split <;> [(next e => subst e; exact same.1.symm); rfl]
  have chain (j : ProductId) : ((s.setProduct k new).productSet j).chain = (s.productSet j).chain := by
    rw [productSet_setProduct]; split <;> [(next e => subst e; exact same.2.symm); rfl]
  refine (setProduct_frame k new s).mend ∅ fun x hx _ hs => ?_
  rcases hx with rfl | ⟨B, rfl⟩
  · obtain ⟨run, chains, orders, records⟩ := hs
    refine ⟨run, fun j => ?_, fun p o ho => ?_, records⟩
    · rw [chain]; exact chains j
    · rw [chain]; exact orders p o ho
  · obtain ⟨conditions, chains, mem, ready⟩ := hs
    refine ⟨fun u => ?_, fun j => ?_, fun j => ?_, ready⟩
    · have := conditions u
      have waste : (s.setProduct k new).isWaste (s.tankSet u).product = s.isWaste (s.tankSet u).product := by
        simp only [State.isWaste, kind]
      simp only [State.conditionsCurrent] at this ⊢
      change (s.tank u).rebasePending = false → if (s.setProduct k new).isWaste (s.tankSet u).product then _ else _
      rw [waste]
      exact this
    · rw [chain]; exact chains j
    · rw [chain]; exact mem j

theorem order_product_ne {s : State} {k : ProductId} (free : s.openOnProduct k = false) {p : PointId} {o : Order}
    (ho : o ∈ (s.point p).order) : o.product ≠ k := by
  simp only [State.openOnProduct, Bool.or_eq_false_iff, List.any_eq_false] at free
  have := free.1 p (mem_allPoints p)
  rw [show (s.point p).order = some o from ho] at this
  simpa using this

/-- R63: a product record written: its chain is valid, and no operation is open on the product where it changes. -/
theorem writeProduct_moves {k : ProductId} {new : ProductSettings} {s : State}
    (short : new.chain.length ≤ 4) (own : ∀ t ∈ new.chain, (s.tankSet t).product = k)
    (free : s.rechains k new → s.openOnProduct k = false) : Moves productParts ∅ s (writeProduct k new s) := by
  by_cases changed : s.rechains k new
  swap
  · rw [writeProduct_unchanged changed]
    exact (setProduct_moves changed).mono (by decide)
  rw [writeProduct_changed changed]
  have evaluated := productEvaluated_frame k new s
  have check := chainCheck_moves k true (s.productEvaluated k new)
  have frame : Moves productParts (insert .entries drawLaws) s (chainCheck k true (s.productEvaluated k new)) :=
    (evaluated.andThen (check.weaken _)).mono (by decide)
  have draw (j : ProductId) : (chainCheck k true (s.productEvaluated k new)).draw j = if k = j then
      (s.draw k).moved ((s.productEvaluated k new).firstEligible k new.chain) else s.draw j := by
    rw [chainCheck_draw, drawAfter_start, productEvaluated_productSet, if_pos rfl]
    simp only [State.draw, show (s.productEvaluated k new).stock.draws = s.stock.draws from evaluated.same .draws]
  have products (j : ProductId) : (chainCheck k true (s.productEvaluated k new)).productSet j =
      if k = j then new else s.productSet j := by
    rw [productSet_of_same (check.same .products), productEvaluated_productSet]
  have sets : (chainCheck k true (s.productEvaluated k new)).tankSet = s.tankSet :=
    (tankSet_of_same (check.same .tankSets)).trans (tankSet_of_same (evaluated.same .tankSets))
  refine frame.mend ∅ fun x hx _ hs => ?_
  rcases hx with rfl | ⟨B, rfl⟩
  · obtain ⟨run, chains, orders, records⟩ := hs
    have points : (chainCheck k true (s.productEvaluated k new)).point = s.point := by
      funext p
      simp only [State.point, show (chainCheck k true (s.productEvaluated k new)).points = s.points from frame.same .points]
    refine ⟨frame.stopped.trans run, fun j => ?_, fun p o ho => ?_, fun r hr => records r ?_⟩
    · rw [products, draw]
      split
      · exact ⟨short, fun t ht => (firstEligible_some ht).1⟩
      · exact chains j
    · rw [points] at ho
      rw [products, if_neg (order_product_ne (free changed) ho).symm, postingTank_eq, draw,
        if_neg (order_product_ne (free changed) ho).symm, ← postingTank_eq]
      obtain ⟨sums, serve⟩ := orders p o ho
      exact ⟨sums, fun _ => serve run⟩
    · rwa [show (chainCheck k true (s.productEvaluated k new)).journal = s.journal from frame.same .journal] at hr
  · obtain ⟨conditions, chains, mem, ready⟩ := hs
    have tanks : (chainCheck k true (s.productEvaluated k new)).tank = (s.productEvaluated k new).tank :=
      tank_of_same (check.same .tanks)
    refine ⟨?_, fun j t ht => ?_, fun j t ht => ?_, fun j hj t ht => ?_⟩
    · rw [conditionsCurrent_of_same (check.same .tanks) (check.same .products) (check.same .tankSets)]
      exact productEvaluated_current conditions
    · rw [products] at ht
      rw [sets]
      split at ht
      · next e => subst e; exact own t ht
      · exact chains j t ht
    · rw [draw] at ht
      rw [products]
      split
      · next e => subst e; rw [if_pos rfl] at ht; exact (firstEligible_some ht).1
      · next e => rw [if_neg e] at ht; exact mem j t ht
    · rw [draw] at ht
      rw [ready_of_same (check.same .tanks) (check.same .latches) (check.same .tankSets)]
      split at ht
      · exact ready_of_eligible (firstEligible_some ht).2
      · next e =>
        have other : (s.tankSet t).product ≠ k := by rw [chains j t (mem j t ht)]; exact Ne.symm e
        refine (ready_of_standing ?_ ?_ (by rw [productEvaluated_tank other]; exact ⟨rfl, rfl, rfl⟩)).trans
          (ready j hj t ht)
        · exact congrFun (tankTripped_of_same (evaluated.same .latches) (evaluated.same .tankSets)) t
        · rw [tankSet_of_same (evaluated.same .tankSets)]

theorem readChain_some {k : ProductId} {chain : Coded (List Nat)} {s : State} {ts : List TankId}
    (h : readChain k chain s = some ts) : ts.length ≤ 4 ∧ ∀ t ∈ ts, (s.tankSet t).product = k := by
  unfold readChain at h
  split at h
  · cases h
  split at h
  · next good =>
    cases h
    obtain ⟨_, short, _, own⟩ := good
    exact ⟨short, by simpa using own⟩
  · cases h

theorem readProduct_chain {k : ProductId} {f : SetProduct} {s : State} {new : ProductSettings}
    (h : readProduct k f s = some new) : readChain k f.chain s = some new.chain := by
  unfold readProduct at h
  split at h
  · next chain =>
    split at h
    · cases h; exact chain
    · cases h
  · cases h

theorem setProductRequest_moves (v : Via) (f : SetProduct) (s : State) :
    Moves productParts ∅ s (setProductRequest v f s).state := by
  unfold setProductRequest
  split
  · exact .refl ..
  split
  · exact .refl ..
  next k _ =>
    split
    · exact .refl ..
    next new hnew =>
      obtain ⟨short, own⟩ := readChain_some (readProduct_chain hnew)
      dsimp only
      split
      · exact .refl ..
      · next free => exact writeProduct_moves short own fun changed => Bool.eq_false_iff.2 fun open' => free ⟨changed, open'⟩

end Sys2Proof.Machine

/-! # Requests on the account table, and long operations -/

namespace Sys2Proof.Machine

open Sys2Proof

/-! ## Accounts added, written and deleted (R108, R109, R138) -/

theorem newAccount_machine {f : AddAccount} {now : Nat} {a : Account} (h : newAccount f now = some a) :
    a.machine = f.machine := by
  unfold newAccount at h
  split at h
  · split at h
    · cases h; rfl
    · cases h
  · cases h

theorem addAccountRequest_moves {v : Via} {f : AddAccount} {s : State} {H : Set Law}
    (fresh : s.account f.machine = none → hoursOf f.machine ⊆ H) :
    Moves [.table, .links] H s (addAccountRequest v f s).state := by
  unfold addAccountRequest
  split
  · exact .refl ..
  split
  · exact .refl ..
  next a ha =>
    have machine : a.machine = f.machine := newAccount_machine ha
    split
    · exact .refl ..
    next new =>
      split
      · exact .refl ..
      next room =>
        rw [Option.not_isSome_iff_eq_none, machine] at new
        have kept : (reevaluate a).1.machine = f.machine := machine
        have inserted : Moves [.table] (hoursOf f.machine) s
            (s.setTable (insertAccount (reevaluate a).1 s.accounts.table)) :=
          kept ▸ insertAccount_moves (kept ▸ new) (Nat.lt_of_not_le room)
        exact ((inserted.mend H fun x hx hH _ => absurd (fresh new hx) hH).andThen
          ((postAll_moves ..).weaken H)).mono (by decide)

theorem deleteAccountRequest_moves (v : Via) (machine : Nat) (s : State) :
    Moves [.table, .deferred] ∅ s (deleteAccountRequest v machine s).state := by
  unfold deleteAccountRequest
  split
  · exact .refl ..
  split
  · exact .refl ..
  split
  · exact .refl ..
  next a ha =>
    split
    · next empty =>
      refine (removeAccount_moves fun hn ho e he hm => ?_).mono (by decide)
      obtain ⟨b, hb, hbm, open'⟩ := hn.2.2 e he
      rw [hm, ← (mem_of_account ha).2] at hbm
      exact open' (eq_of_mem_table ho.1 hb (mem_of_account ha).1 hbm ▸ List.isEmpty_iff.1 empty)
    · next open' =>
      split
      · exact .refl ..
      · next queue hq =>
        exact (deferChanges_moves (mem_of_account ha).1 (mem_of_account ha).2 (by simpa using open') hq (.inl (by simp [DeferredChange.code]))).mono (by decide)

/-- R112: the hour meter is among the writes only where the request names it. -/
theorem writesOf_isHour {f : WriteAccount} {ws : List AccountWrite} (h : writesOf f = some ws)
    (none : f.hourMeter = none) : ∀ w ∈ ws, w.isHour = false := by
  have field {α : Type} {x : Option α} {g : α → Option AccountWrite} {xs : List AccountWrite}
      (hx : readField x g = some xs) (other : ∀ y w, g y = some w → w.isHour = false) : ∀ w ∈ xs, w.isHour = false := by
    unfold readField at hx
    split at hx
    · cases hx; simp
    · obtain ⟨w, hw, rfl⟩ := Option.map_eq_some_iff.1 hx
      simpa using other _ w hw
  unfold writesOf at h
  split at h
  · next a b c d e g ha hb hc hd he hg =>
    cases h
    rw [none] at hd
    cases hd
    intro w hw
    simp only [List.mem_append, List.not_mem_nil, or_false] at hw
    rcases hw with (((hw | hw) | hw) | hw) | hw
    · exact field ha (by simp +contextual [AccountWrite.isHour]) w hw
    · exact field hb (by simp +contextual [AccountWrite.isHour]) w hw
    · exact field hc (by simp +contextual [AccountWrite.isHour]) w hw
    · exact field he (by simp +contextual [AccountWrite.isHour]) w hw
    · exact field hg (by simp +contextual [AccountWrite.isHour]) w hw
  · cases h

theorem code_write_hour {w : AccountWrite} (h : w.isHour = false) : (DeferredChange.write w).code ≠ 4 := by
  cases w <;> simp_all [DeferredChange.code, AccountWrite.isHour]

theorem writeAccountRequest_moves {v : Via} {f : WriteAccount} {s : State} {H : Set Law}
    (hours : f.hourMeter.isSome → hoursOf f.machine ⊆ H) :
    Moves [.table, .deferred, .links] H s (writeAccountRequest v f s).state := by
  unfold writeAccountRequest
  split
  · exact .refl ..
  split
  · exact .refl ..
  · exact .refl ..
  next ws _ hws =>
    have written : (∀ w ∈ ws, w.isHour = false) ∨ hoursOf f.machine ⊆ H := by
      cases named : f.hourMeter with
      | none => exact .inl (writesOf_isHour hws named)
      | some x => exact .inr (hours (by rw [named]; rfl))
    split
    · exact .refl ..
    split
    · exact .refl ..
    next a ha =>
      split
      · exact .refl ..
      split
      · exact (writeNow_moves s written).mono (by decide)
      · next open' =>
        split
        · exact .refl ..
        · next queue hq =>
          refine (deferChanges_moves (mem_of_account ha).1 (mem_of_account ha).2 (by simpa using open') hq (written.imp_left fun h c hc => ?_)).mono (by decide)
          obtain ⟨w, hw, rfl⟩ := List.mem_map.1 hc
          exact code_write_hour (h w hw)

theorem setClassRequest_moves (v : Via) (f : SetClass) (s : State) :
    Moves [.accountsRest] ∅ s (setClassRequest v f s).state := by
  unfold setClassRequest
  split
  · exact .refl ..
  split
  · exact .refl ..
  split
  · exact setClasses_moves ..
  · exact .refl ..

/-! ## Cursors (R129, R130) -/

theorem setCursorRequest_moves (v : Via) (machine : Nat) (s : State) :
    Moves [.accountsRest] ∅ s (setCursorRequest v machine s).state := by
  unfold setCursorRequest
  split
  · exact .refl ..
  · exact setCursor_moves ..

theorem readNextAccountRequest_moves (v : Via) (s : State) :
    Moves [.accountsRest] ∅ s (readNextAccountRequest v s).state := by
  unfold readNextAccountRequest
  split
  · exact setCursor_moves ..
  split
  · exact setCursor_moves ..
  · exact .refl ..

/-! ## Long operations (R131 to R137, R188) -/

theorem continueLong_moves (l : Link) (work : LongWork) (s : State) : Moves [.links] ∅ s (continueLong l work s) :=
  updLink_moves l _ id

theorem scanAccountsRequest_moves (v : Via) (f : ScanAccounts) (s : State) :
    Moves [.links] ∅ s (scanAccountsRequest v f s).state := by
  unfold scanAccountsRequest
  split
  · split
    · exact startLong_moves ..
    · exact .refl ..
  · exact .refl ..

theorem setRangeStatusRequest_moves (v : Via) (f : SetRangeStatus) (s : State) :
    Moves [.links] ∅ s (setRangeStatusRequest v f s).state := by
  unfold setRangeStatusRequest
  split
  · exact .refl ..
  split
  · split
    · exact startLong_moves ..
    · exact .refl ..
  · exact .refl ..

theorem stopLongRequest_moves (v : Via) (s : State) : Moves [.links] ∅ s (stopLongRequest v s).state := by
  unfold stopLongRequest
  split
  · exact .refl ..
  · exact completeLong_moves ..

theorem scanVisitWork_moves (l : Link) (w : ScanWork) (s : State) : Moves [.links] ∅ s (scanVisitWork l w s) := by
  unfold scanVisitWork
  split
  · exact completeLong_moves ..
  next a _ =>
    dsimp only
    generalize (if scanMatches w a then w.hits ++ [a.machine] else w.hits) = hits
    split
    · exact completeLong_moves ..
    · exact continueLong_moves ..

theorem scanVisitEvent_moves (l : Link) (s : State) : Moves [.links] ∅ s (scanVisitEvent l s) := by
  unfold scanVisitEvent
  split
  · exact scanVisitWork_moves ..
  · exact .refl ..

theorem account_of_accountAbove {s : State} {n : Nat} {a : Account} (h : s.accountAbove n = some a) :
    a ∈ s.accounts.table := List.mem_of_find?_eq_some h

/-- R136: one visit writes or defers the status, and nothing else, of one account. -/
theorem rangeVisitWork_moves (l : Link) (w : RangeWork) (s : State) :
    Moves [.table, .deferred, .links] ∅ s (rangeVisitWork l w s) := by
  unfold rangeVisitWork
  split
  · exact (completeLong_moves ..).mono (by decide)
  next a ha =>
    split
    · exact (completeLong_moves ..).mono (by decide)
    dsimp only
    split
    · exact (continueLong_moves ..).mono (by decide)
    split
    · exact (continueLong_moves ..).mono (by decide)
    split
    · exact ((writeNow_moves s (.inl (by simp [AccountWrite.isHour]))).andThen (continueLong_moves ..)).mono (by decide)
    next open' =>
      split
      · next queue hq =>
        exact ((deferChanges_moves (account_of_accountAbove ha) rfl (by simpa using open') hq
          (.inl (by simp [DeferredChange.code]))).andThen (continueLong_moves ..)).mono (by decide)
      · exact (completeLong_moves ..).mono (by decide)

theorem rangeVisitEvent_moves (l : Link) (s : State) :
    Moves [.table, .deferred, .links] ∅ s (rangeVisitEvent l s) := by
  unfold rangeVisitEvent
  split
  · exact rangeVisitWork_moves ..
  · exact .refl ..

end Sys2Proof.Machine

/-! # Adjustments, stops, releases, modes and the clock -/

namespace Sys2Proof.Machine

open Sys2Proof

@[simp] theorem done_state (s : State) : (done s).state = s := rfl

/-! ## Adjustments (R80, R81) -/

theorem openOperations_length_of_same {s t : State} (points : Part.points.same s t) (inlets : Part.inlets.same s t) :
    t.openOperations.length = s.openOperations.length := by
  rw [openOperations_length, openOperations_length, point_of_points points, inlet_of_inlets inlets]

/-- R81, R176: one record more waits to be collected, and the flag is set at a reserve of 480. -/
theorem ReserveHeld.of_adjusted {s t : State} (h : s.ReserveHeld) (clear : s.bay.curtailed = false)
    (opened : t.openOperations.length = s.openOperations.length)
    (counts : t.journal.openCount = s.journal.openCount) (uncollected : t.journal.uncollected = s.journal.uncollected + 1)
    (flag : t.bay.curtailed = (s.bay.curtailed || decide (Config.curtailAt ≤ t.journal.reserve))) : t.ReserveHeld := by
  obtain ⟨count, -, below⟩ := h
  have low := below clear
  have reserve : t.journal.reserve = s.journal.reserve + 1 := by
    simp only [Journal.reserve, counts, uncollected]; omega
  refine ⟨by omega, by omega, fun off => ?_⟩
  rw [flag, clear, Bool.false_or, decide_eq_false_iff_not] at off
  omega

/-- What an adjustment touches. -/
def adjustParts : List Part := [.journal, .tanks, .draws, .reports, .links, .curtailed]

/-- R81: the stock after an adjustment, before its record. -/
def State.adjusted (s : State) (t : TankId) (form : AdjustForm) : State :=
  (recomputeVariance t (postToTank t (adjustChange form (s.tank t)) (takeOrderNumber s))).updTank t
    fun x => { x with rebased := false }

theorem adjustTaken_state (v : Via) (t : TankId) (form : AdjustForm) (s : State) :
    (adjustTaken v t form s).state =
      judgeCurtail (journalWrite (adjustmentRecord t form v.link s) false (s.adjusted t form)) := rfl

theorem adjusted_moves (t : TankId) (form : AdjustForm) (s : State) :
    Moves [.journal, .tanks, .draws, .reports, .links] ∅ s (s.adjusted t form) :=
  ((takeOrderNumber_moves s).andThen ((postToTank_moves ..).andThen ((recomputeVariance_moves ..).andThen
    (updTank_moves t _ rfl)))).mono (by decide)

theorem adjusted_journal (t : TankId) (form : AdjustForm) (s : State) :
    (s.adjusted t form).journal = (takeOrderNumber s).journal := by
  have posted := postToTank_moves t (adjustChange form (s.tank t)) (takeOrderNumber s)
  exact show (postToTank t (adjustChange form (s.tank t)) (takeOrderNumber s)).journal = _ from posted.same .journal

theorem adjustTaken_moves (v : Via) (t : TankId) (form : AdjustForm) {s : State} (clear : s.bay.curtailed = false) :
    Moves adjustParts ∅ s (adjustTaken v t form s).state := by
  rw [adjustTaken_state]
  have stock := adjusted_moves t form s
  have written : Moves [.journal] {.reserve} (s.adjusted t form)
      (journalWrite (adjustmentRecord t form v.link s) false (s.adjusted t form)) :=
    journalWrite_moves false (.inl trivial) rfl
  have frame := (stock.weaken {.reserve}).andThen (written.andThen ((judgeCurtail_moves ..).weaken _))
  refine Moves.mono (frame.mend ∅ fun x hx _ hs => ?_) (by decide)
  rw [Set.mem_singleton_iff] at hx
  subst hx
  have judged := judgeCurtail_moves (journalWrite (adjustmentRecord t form v.link s) false (s.adjusted t form))
  refine ReserveHeld.of_adjusted hs clear (openOperations_length_of_same (frame.same .points) (frame.same .inlets))
    ?_ ?_ ?_
  · rw [show (judgeCurtail (journalWrite _ _ _)).journal = _ from judged.same .journal]
    exact (congrArg Journal.openCount (adjusted_journal t form s) :)
  · rw [show (judgeCurtail (journalWrite _ _ _)).journal = _ from judged.same .journal]
    exact (congrArg (fun j => j.uncollected + 1) (adjusted_journal t form s) :)
  · rw [judgeCurtail_curtailed, show (judgeCurtail (journalWrite _ _ _)).journal = _ from judged.same .journal]
    exact congrArg (· || _) (show _ = _ from stock.same .curtailed)

theorem adjustChecked_moves (v : Via) (t : TankId) (form : AdjustForm) (s : State) :
    Moves adjustParts ∅ s (adjustChecked v t form s).state := by
  unfold adjustChecked
  refine checked_moves fun passes => adjustTaken_moves v t form ?_
  simpa using firstFailure_eq_none.1 passes (s.bay.curtailed, .journalFull) (by simp)

theorem adjustSetToGaugeRequest_moves (v : Via) (tank : Nat) (s : State) :
    Moves adjustParts ∅ s (adjustSetToGaugeRequest v tank s).state := by
  unfold adjustSetToGaugeRequest
  split
  · exact .refl ..
  split
  · exact .refl ..
  · exact adjustChecked_moves ..

theorem adjustDeltaRequest_moves (v : Via) (tank : Nat) (f : AdjustDelta) (s : State) :
    Moves adjustParts ∅ s (adjustDeltaRequest v tank f s).state := by
  unfold adjustDeltaRequest
  split
  · exact .refl ..
  split
  · exact .refl ..
  split
  · exact adjustChecked_moves ..
  · exact .refl ..

theorem stockReportSettledRequest_moves (v : Via) (product : Nat) (s : State) :
    Moves [.links] ∅ s (stockReportSettledRequest v product s).state := by
  unfold stockReportSettledRequest
  split
  · exact .refl ..
  · extract_lets a
    refine Moves.mono (Moves.andThen (t := a.state) (startLong_moves ..) ?_) (K := [.links] ++ [.links]) (by decide)
    change Moves _ _ a.state (if a.status = .accepted then settledReportCheck v.link a.state else a.state)
    split <;> [exact settledReportCheck_moves ..; exact .refl ..]

/-! ## Stops (R38, R94) -/

theorem stopOrderRequest_moves (v : Via) (f : StopOrder) (s : State) :
    Moves orderParts ∅ s (stopOrderRequest v f s).state := by
  unfold stopOrderRequest
  split
  · exact .refl ..
  split
  · exact .refl ..
  split
  · exact stopPoint_moves ..
  · exact .refl ..

theorem stopDeliveryRequest_moves (v : Via) (f : StopDelivery) (s : State) :
    Moves inletParts ∅ s (stopDeliveryRequest v f s).state := by
  unfold stopDeliveryRequest
  split
  · exact .refl ..
  split
  · exact .refl ..
  split
  · exact stopDeliveryTaken_moves ..
  · exact .refl ..

/-! ## Latches, bypasses and the journal (R153, R161, R174) -/

theorem releaseTripRequest_moves (v : Via) (name : Coded LatchName) (s : State) :
    Moves tripParts ∅ s (releaseTripRequest v name s).state := by
  unfold releaseTripRequest
  split
  · exact .refl ..
  split
  · exact .refl ..
  · exact checked_moves fun _ => releaseLatch_moves ..

theorem setBypassRequest_moves (v : Via) (f : SetBypass) (s : State) :
    Moves tripParts ∅ s (setBypassRequest v f s).state := by
  unfold setBypassRequest
  split
  · exact .refl ..
  split
  · exact .refl ..
  split
  · split
    · exact bypassOn_moves ..
    · exact .refl ..
  split
  · exact bypassOff_moves ..
  split
  · exact badBypassCode_moves ..
  · exact .refl ..

theorem releaseJournalRequest_moves (v : Via) (p : Nat) (s : State) :
    Moves [.journal, .curtailed, .links] ∅ s (releaseJournalRequest v p s).state := by
  unfold releaseJournalRequest
  split
  · exact .refl ..
  split
  · exact .refl ..
  split
  · exact .refl ..
  · exact ((releaseTo_moves p s).andThen (judgeLift_moves _)).mono (by decide)

/-! ## Modes and the clock (R195 to R198) -/

theorem stopAll_moves (s : State) : Moves orderParts ∅ s (stopAll s) :=
  ((Moves.forEach _ _ (fun p _ s => stopPoint_moves none .stopped p s) s).andThen
    ((Moves.forEach _ _ (fun i _ s => stopInlet_moves .stopped i s) _).andThen (handReports_moves _))).mono (by decide)

theorem setModeOpenRequest_moves (v : Via) (s : State) :
    Moves [.mode, .links] ∅ s (setModeOpenRequest v s).state := by
  unfold setModeOpenRequest
  split
  · exact .refl ..
  split
  · exact .refl ..
  · exact wake_moves ..
  · exact .refl ..

theorem setModeStandbyRequest_moves (v : Via) (s : State) :
    Moves [.mode, .pumps, .links] ∅ s (setModeStandbyRequest v s).state := by
  unfold setModeStandbyRequest
  split
  · exact .refl ..
  split
  · split
    · exact .refl ..
    · exact ((standbyPumps_moves s).andThen (changeMode_moves ..)).mono (by decide)
  · exact .refl ..
  · exact .refl ..

theorem setModeLockRequest_moves (v : Via) (s : State) :
    Moves (.mode :: orderParts) ∅ s (setModeLockRequest v s).state := by
  have locked := ((changeMode_moves .locked (.request v.link) s).andThen (stopAll_moves _)).mono
    (L := .mode :: orderParts) (by decide)
  unfold setModeLockRequest
  split
  · exact .refl ..
  split
  · rw [done_state]; exact locked
  · rw [done_state]; exact locked
  · exact .refl ..

theorem setModeUnlockRequest_moves (v : Via) (s : State) :
    Moves [.mode, .links] ∅ s (setModeUnlockRequest v s).state := by
  unfold setModeUnlockRequest
  split
  · exact .refl ..
  split
  · exact .refl ..
  · exact .refl ..
  · exact changeMode_moves ..

theorem shiftIfReached_moves (calendar : Nat) (s : State) :
    Moves [.table, .accountsRest] ∅ s (shiftIfReached calendar s) := by
  unfold shiftIfReached
  split <;> [exact shiftChange_moves ..; exact .refl ..]

theorem setClockRequest_moves (v : Via) (calendar : Nat) (s : State) :
    Moves [.table, .accountsRest, .bayRest] ∅ s (setClockRequest v calendar s).state := by
  unfold setClockRequest
  split
  · exact .refl ..
  split
  · exact .refl ..
  · exact ((setOffset_moves _ s).andThen ((shiftIfReached_moves ..).andThen (setNextShift_moves ..))).mono (by decide)

theorem shiftStartEvent_moves (s : State) :
    Moves [.clock, .table, .accountsRest, .bayRest] ∅ s (shiftStartEvent s) :=
  ((reach_moves ..).andThen ((shiftChange_moves _).andThen (setNextShift_moves ..))).mono (by decide)

theorem restartRequestTaken_moves (v : Via) (s : State) : Moves [.links] ∅ s (restartRequestTaken v s).state := by
  unfold restartRequestTaken
  split
  · exact .refl ..
  · exact updLink_moves v.link _ id

theorem fetchNoticesRequest_moves (v : Via) (count : Nat) (s : State) :
    Moves [.links] ∅ s (fetchNoticesRequest v count s).state := by
  unfold fetchNoticesRequest
  split
  · refine updLink_moves v.link _ fun bounded => ?_
    simp only [LinkUnit.lineAt, List.length_drop]
    omega
  · exact .refl ..

end Sys2Proof.Machine

/-! # What every request and every event may change, and the laws it keeps -/

namespace Sys2Proof.Machine

open Sys2Proof

/-! ## Requests that read leave the state as it is -/

@[simp] theorem refuse_state (st : Status) (s : State) : (refuse st s).state = s := rfl

section
variable (v : Via) (n : Nat) (s : State)

@[simp] theorem fetchResultRequest_state : (fetchResultRequest v s).state = s := by
  unfold fetchResultRequest; dsimp only; split <;> rfl

@[simp] theorem readSettingsRequest_state (name : Coded SettingsName) : (readSettingsRequest name s).state = s := by
  unfold readSettingsRequest; split <;> rfl

@[simp] theorem pointStatusRequest_state : (pointStatusRequest n s).state = s := by
  unfold pointStatusRequest; split <;> rfl

@[simp] theorem inletStatusRequest_state : (inletStatusRequest n s).state = s := by
  unfold inletStatusRequest; split <;> rfl

@[simp] theorem stockReportNowRequest_state : (stockReportNowRequest n s).state = s := by
  unfold stockReportNowRequest; split <;> rfl

@[simp] theorem readAccountRequest_state : (readAccountRequest n s).state = s := by
  unfold readAccountRequest; split <;> [rfl; (split <;> rfl)]

@[simp] theorem readClassRequest_state : (readClassRequest n s).state = s := by
  unfold readClassRequest; split <;> rfl

@[simp] theorem readDeferredRequest_state (machine : Option Nat) : (readDeferredRequest machine s).state = s := by
  unfold readDeferredRequest; split <;> rfl

@[simp] theorem readTripLogRequest_state (name : Coded TripLogName) : (readTripLogRequest name s).state = s := by
  rcases name with _ | n | _
  · rfl
  · simp only [readTripLogRequest, decide_eq_true_eq]
    split
    · rfl
    · cases s.tripEntry (.number n) <;> rfl
  · simp only [readTripLogRequest, Bool.false_eq_true, if_false]
    cases s.tripEntry .newest <;> rfl

@[simp] theorem readJournalRequest_state (name : Coded JournalName) : (readJournalRequest name s).state = s := by
  unfold readJournalRequest
  split
  · rfl
  · split_ifs
    · rfl
    · rfl
    · rfl
    · split <;> rfl
  · split_ifs
    · rfl
    · split <;> rfl

end

/-! ## Requests -/

/-- Every part of the state. -/
def allParts : List Part :=
  [.clock, .curtailed, .mode, .bayRest, .points, .pumps, .inlets, .tanks, .draws, .reports, .stockRest, .table,
    .deferred, .accountsRest, .latches, .log, .shutdownRest, .journal, .links, .products, .tankSets, .linkSets, .storeRest]

theorem mem_allParts (x : Part) : x ∈ allParts := by cases x <;> decide

theorem Moves.all {K : List Part} {H : Set Law} {s t : State} (h : Moves K H s t) : Moves allParts H s t :=
  h.mono fun x _ => mem_allParts x

/-- R112: a request writes the hour meter of a machine. -/
def writesHours (i : Instr) (machine : Nat) : Prop :=
  ∃ v f, i = .writeAccount v f ∧ f.machine = machine ∧ f.hourMeter.isSome

/-- The tenth law is not asked for where the request writes the hour meter, or the machine has no account. -/
def State.HoursFree (i : Instr) (H : Set Law) (s : State) : Prop :=
  ∀ machine, s.account machine = none ∨ writesHours i machine → hoursOf machine ⊆ H

/-- The first law, where a law that rests on it is asked for. -/
def State.FitFor (H : Set Law) (s : State) : Prop := s.UnitsStand ∨ fitLaws ⊆ H

theorem State.FitFor.reserve {H : Set Law} {s : State} (fit : s.FitFor H) : s.UnitsStand ∨ .reserve ∈ H :=
  fit.imp_right fun all => all (.inl rfl)

/-- Section 10.4: what a request does keeps the laws. -/
theorem requestAnswer_moves {i : Instr} {s : State} {H : Set Law} (fit : s.FitFor H) (hours : s.HoursFree i H) :
    Moves allParts H s (requestAnswer i s).state := by
  have quiet {K : List Part} {a : Answer} (h : Moves K ∅ s a.state) : Moves allParts H s a.state := (h.weaken H).all
  have reads {a : Answer} (h : a.state = s) : Moves allParts H s a.state := h ▸ .refl ..
  have keyed {K : List Part} {a : State → Answer} (key : Bool) (h : ∀ s, Moves K ∅ s (a s).state) :
      Moves allParts H s (a (s.setKey key)).state := (((setKey_moves key s).andThen (h _)).weaken H).all
  cases i
  case fetchResult v => exact reads (fetchResultRequest_state v s)
  case stopLong v => exact quiet (stopLongRequest_moves v s)
  case fetchNotices v count => exact quiet (fetchNoticesRequest_moves v count s)
  case setSubscription v f => exact quiet (setSubscriptionRequest_moves v f s)
  case setPermissions v f => exact quiet (setPermissionsRequest_moves v f s)
  case readSettings v name => exact reads (readSettingsRequest_state s name)
  case openOrder v f => exact (openOrderRequest_moves fit.reserve).all
  case stopOrder v f => exact quiet (stopOrderRequest_moves v f s)
  case pointStatus v n => exact reads (pointStatusRequest_state n s)
  case openDelivery v f => exact (openDeliveryRequest_moves fit.reserve).all
  case stopDelivery v f => exact quiet (stopDeliveryRequest_moves v f s)
  case inletStatus v n => exact reads (inletStatusRequest_state n s)
  case stockReportNow v n => exact reads (stockReportNowRequest_state n s)
  case stockReportSettled v n => exact quiet (stockReportSettledRequest_moves v n s)
  case adjustStockSetToGauge v tank => exact quiet (adjustSetToGaugeRequest_moves v tank s)
  case adjustStockDelta v tank f => exact quiet (adjustDeltaRequest_moves v tank f s)
  case setTankService v f => exact quiet (setTankServiceRequest_moves v f s)
  case readAccount v n => exact reads (readAccountRequest_state n s)
  case readNextAccount v => exact quiet (readNextAccountRequest_moves v s)
  case setCursor v n => exact quiet (setCursorRequest_moves v n s)
  case addAccount v f => exact (addAccountRequest_moves fun fresh => hours _ (.inl fresh)).all
  case writeAccount v f => exact (writeAccountRequest_moves fun named => hours _ (.inr ⟨v, f, rfl, rfl, named⟩)).all
  case deleteAccount v n => exact quiet (deleteAccountRequest_moves v n s)
  case scanAccounts v f => exact quiet (scanAccountsRequest_moves v f s)
  case setRangeStatus v f => exact quiet (setRangeStatusRequest_moves v f s)
  case readDeferred v n => exact reads (readDeferredRequest_state s n)
  case readClass v n => exact reads (readClassRequest_state n s)
  case setClass v f => exact quiet (setClassRequest_moves v f s)
  case shutdownStatus v key => exact keyed key fun s => .refl [] ∅ s
  case releaseTrip v name key => exact keyed key (releaseTripRequest_moves v name)
  case setBypass v f => exact quiet (setBypassRequest_moves v f s)
  case readTripLog v name => exact reads (readTripLogRequest_state s name)
  case readJournal v name => exact reads (readJournalRequest_state s name)
  case releaseJournal v n => exact quiet (releaseJournalRequest_moves v n s)
  case setModeOpen v => exact quiet (setModeOpenRequest_moves v s)
  case setModeStandby v => exact quiet (setModeStandbyRequest_moves v s)
  case setModeLock v => exact quiet (setModeLockRequest_moves v s)
  case setModeUnlock v => exact quiet (setModeUnlockRequest_moves v s)
  case setClock v calendar => exact quiet (setClockRequest_moves v calendar s)
  case setShiftTable v minutes => exact quiet (setShiftTableRequest_moves v minutes s)
  case restartRequest v => exact quiet (restartRequestTaken_moves v s)
  case setPoint v f => exact (setPointRequest_moves fit).all
  case setPump v f => exact quiet (setPumpRequest_moves v f s)
  case setInlet v f => exact quiet (setInletRequest_moves v f s)
  case setProduct v f => exact quiet (setProductRequest_moves v f s)
  case setTank v f => exact quiet (setTankRequest_moves v f s)
  case setStockTiming v f => exact quiet (setStockTimingRequest_moves v f s)
  case setDebounce v f => exact quiet (setDebounceRequest_moves v f s)
  all_goals exact .refl ..

theorem wakeBy_moves (i : Instr) (s : State) : Moves [.mode, .links] ∅ s (wakeBy i s) := by
  unfold wakeBy
  split
  · exact wake_moves ..
  · exact wake_moves ..
  · exact .refl ..

theorem State.FitFor.of_same {H : Set Law} {s t : State} (fit : s.FitFor H) (points : Part.points.same s t)
    (inlets : Part.inlets.same s t) : t.FitFor H := fit.imp_left (·.of_same points inlets)

theorem State.HoursFree.of_same {i : Instr} {H : Set Law} {s t : State} (hours : s.HoursFree i H)
    (same : Part.table.same s t) : t.HoursFree i H := by
  have account : t.account = s.account := by
    funext n; rw [State.account, State.account, show t.accounts.table = s.accounts.table from same]
  rwa [State.HoursFree, account]

theorem serve_moves {v : Via} {code : Nat} {request : State → Answer} {s : State} {H : Set Law}
    (h : Moves allParts H s (request s).state) : Moves allParts H s (serve v code request s) := by
  unfold serve
  dsimp only
  split
  · exact ((reply_moves ..).weaken H).all
  · exact (h.andThen ((reply_moves ..).weaken H)).all

/-- R182: a request taken on its link keeps the laws. -/
theorem takeRequest_moves {v : Via} {code : Nat} {i : Instr} {s : State} {H : Set Law} (fit : s.FitFor H)
    (hours : s.HoursFree i H) : Moves allParts H s (takeRequest v code i s) := by
  have woken := wakeBy_moves i s
  have answer := requestAnswer_moves (fit.of_same (woken.same .points) (woken.same .inlets)) (hours.of_same (woken.same .table))
  exact ((woken.weaken H).andThen (serve_moves (answer.andThen ((handReports_moves _).weaken H)).all)).all

theorem whileRunning_moves {K : List Part} {H : Set Law} {f : State → State} {s : State}
    (h : s.Running → Moves K H s (f s)) : Moves K H s (whileRunning f s) := by
  unfold whileRunning
  split
  · exact .refl ..
  · next run => exact h (Bool.eq_false_iff.2 run)

/-! ## Links -/

theorem huntAgain_moves (l : Link) (s : State) : Moves [.links] ∅ s (huntAgain l s) := by
  unfold huntAgain
  split <;> [exact updLink_moves l _ id; exact .refl ..]

theorem rateSeekEvent_moves (l : Link) (width : Nat) (char : Byte) (stopGood : Bool) (s : State) :
    Moves [.links] ∅ s (rateSeekEvent l width char stopGood s) := by
  unfold rateSeekEvent
  split <;> [exact updLink_moves l _ id; exact .refl ..]

theorem breakEvent_moves (l : Link) (s : State) : Moves [.links] ∅ s (breakEvent l s) := by
  unfold breakEvent
  split <;> [exact updLink_moves l _ id; exact .refl ..]

theorem replySentEvent_moves (l : Link) (s : State) : Moves [.links] ∅ s (replySentEvent l s) := by
  unfold replySentEvent
  split
  · exact .refl ..
  have ended : Moves [.links] ∅ s (s.updLink l fun u => { u with service := none, restartOwed := u.restartOwed.ended }) :=
    updLink_moves l _ id
  dsimp only
  split
  · exact ended
  · exact (ended.andThen ((updLink_moves l _ id).andThen (reply_moves ..))).mono (by decide)

/-- R182: a good frame keeps the laws, the tenth but for the hour meter that it writes. -/
theorem goodFrameEvent_moves {l : Link} {bytes : List Byte} {key : Bool} {s : State} {H : Set Law} (fit : s.FitFor H)
    (hours : ∀ g i, readFrame bytes = some g → frameContent l g key = .request i → s.HoursFree i H) :
    Moves allParts H s (goodFrameEvent l bytes key s) := by
  have hunting := huntAgain_moves l s
  unfold goodFrameEvent
  dsimp only
  split
  swap
  · exact .refl ..
  split
  · exact (hunting.weaken H).all
  next g hg =>
    split
    · exact (((hunting.andThen (updLink_moves l _ id)).mono (L := [.links]) (by decide)).weaken H).all
    · unfold takeFrame
      split
      · next i hi =>
        exact ((hunting.weaken H).andThen
          (takeRequest_moves (fit.of_same (hunting.same .points) (hunting.same .inlets)) ((hours g i hg hi).of_same (hunting.same .table)))).all
      · exact ((hunting.andThen (reply_moves ..)).weaken H).all
      · exact ((hunting.andThen (reply_moves ..)).weaken H).all

/-! ## Events and lines -/

theorem takeEvent_moves {K : List Part} {H : Set Law} {f : State → State} {s : State} (h : Moves K ∅ s (f s)) :
    Moves allParts H s (takeEvent f s) :=
  ((whileRunning_moves fun _ => h.andThen (handReports_moves _)).weaken H).all

theorem takeLine_moves {K L : List Part} {H : Set Law} {follow event : State → State} {s : State}
    (follows : Moves K ∅ s (follow s)) (h : Moves L ∅ s (event s)) : Moves allParts H s (takeLine follow event s) := by
  unfold takeLine
  split
  · exact (follows.weaken H).all
  · exact ((h.andThen (handReports_moves _)).weaken H).all

theorem followFault_moves (m : PumpId) (level : Bool) (s : State) : Moves [.pumps] ∅ s (followFault m level s) :=
  updPump_moves m _ id

theorem followCoupled_moves (i : InletId) (level : Bool) (s : State) : Moves [.inlets] ∅ s (followCoupled i level s) :=
  updInlet_quiet_moves i _ rfl rfl rfl rfl

theorem followEstop_moves (level : Bool) (s : State) : Moves [.shutdownRest] ∅ s (followEstop level s) :=
  .of_untouched rfl rfl (fun x hx => by cases x <;> simp [Part.same, followEstop] at hx ⊢)
    (by intro x; cases x <;> simp [Law.parts])

/-! ## Every command but the restarts -/

/-- A command that stops or starts the controller. -/
def isRestart : Instr → Bool
  | .powerOn _ _ | .supplyDip | .requestedRestart _ _ | .supplyReturn _ => true
  | _ => false

/-- R112: a command that writes the hour meter of a machine, in a row of its own or in a good frame. -/
def asksHours (i : Instr) (machine : Nat) : Prop :=
  writesHours i machine ∨ ∃ l bytes key g j, i = .goodFrame l bytes key ∧ readFrame bytes = some g ∧
    frameContent l g key = .request j ∧ writesHours j machine

theorem windowEndEvent_moves (m : MeterId) (reading : Option Int) (s : State) :
    Moves inputParts ∅ s (windowEndEvent m reading s) := by
  cases m with
  | point p => exact pointWindowEvent_moves p reading s
  | inlet i => exact inletWindowEvent_moves i reading s

/-- Every command but a dip of the supply and a restart keeps the laws. -/
theorem exec_moves {i : Instr} {s : State} {H : Set Law} (other : isRestart i = false) (fit : s.Running → s.FitFor H)
    (hours : ∀ machine, s.account machine = none ∨ asksHours i machine → hoursOf machine ⊆ H) :
    ∃ t, exec i s = .next t ∧ Moves allParts H s t := by
  have request (v : Via) (code : Nat) : Moves allParts H s (serveRequest v code i s) :=
    whileRunning_moves fun run => takeRequest_moves (fit run) fun machine h => hours machine (h.imp_right .inl)
  cases i
  case goodFrame l bytes key =>
    exact ⟨_, rfl, whileRunning_moves fun run => goodFrameEvent_moves (fit run) fun g j hg hj machine h =>
      hours machine (h.imp_right fun w => .inr ⟨l, bytes, key, g, j, rfl, hg, hj, w⟩)⟩
  case rateSeekCharacter l w c g => exact ⟨_, rfl, takeEvent_moves (rateSeekEvent_moves ..)⟩
  case badFrame l => exact ⟨_, rfl, takeEvent_moves (huntAgain_moves ..)⟩
  case frameGapTimeout l => exact ⟨_, rfl, takeEvent_moves (huntAgain_moves ..)⟩
  case breakLine l => exact ⟨_, rfl, takeEvent_moves (breakEvent_moves ..)⟩
  case replySent l => exact ⟨_, rfl, takeEvent_moves (replySentEvent_moves ..)⟩
  case meterPulse m => exact ⟨_, rfl, takeEvent_moves (meterPulseEvent_moves ..)⟩
  case windowEnd m reading => exact ⟨_, rfl, takeEvent_moves (windowEndEvent_moves ..)⟩
  case nozzleFrame p f => exact ⟨_, rfl, takeEvent_moves (nozzleFrameEvent_moves ..)⟩
  case nozzleBreak p => exact ⟨_, rfl, takeEvent_moves (nozzleBreakEvent_moves ..)⟩
  case nozzleLineHigh p => exact ⟨_, rfl, takeEvent_moves (nozzleLineHighEvent_moves ..)⟩
  case identTimerExpiry p => exact ⟨_, rfl, takeEvent_moves (identTimerEvent_moves ..)⟩
  case primeTimerExpiry p => exact ⟨_, rfl, takeEvent_moves (primeTimerEvent_moves ..)⟩
  case attendanceTimerExpiry p => exact ⟨_, rfl, takeEvent_moves (attendanceTimerEvent_moves ..)⟩
  case stopTimerExpiry p reading => exact ⟨_, rfl, takeEvent_moves (stopTimerEvent_moves ..)⟩
  case attend p => exact ⟨_, rfl, takeEvent_moves (attendEvent_moves ..)⟩
  case stopBtn p => exact ⟨_, rfl, takeEvent_moves (stopPoint_moves none .stopped p s)⟩
  case startTimerExpiry m => exact ⟨_, rfl, takeEvent_moves (startTimerEvent_moves ..)⟩
  case holdTimerExpiry m => exact ⟨_, rfl, takeEvent_moves (holdTimerEvent_moves ..)⟩
  case pumpFaultActive m =>
    exact ⟨_, rfl, takeLine_moves (followFault_moves ..) (pumpFaultActiveEvent_moves ..)⟩
  case pumpFaultInactive m =>
    exact ⟨_, rfl, takeLine_moves (followFault_moves ..) (pumpFaultInactiveEvent_moves ..)⟩
  case supplyReadyActive => exact ⟨_, rfl, takeLine_moves (setSupplyReady_moves ..) (supplyReadyActiveEvent_moves ..)⟩
  case supplyReadyInactive => exact ⟨_, rfl, takeLine_moves (setSupplyReady_moves ..) (setSupplyReady_moves ..)⟩
  case inletCoupledActive n =>
    exact ⟨_, rfl, takeLine_moves (followCoupled_moves ..) (inletCoupledActiveEvent_moves ..)⟩
  case inletCoupledInactive n =>
    exact ⟨_, rfl, takeLine_moves (followCoupled_moves ..) (inletCoupledInactiveEvent_moves ..)⟩
  case inletStopTimerExpiry n reading => exact ⟨_, rfl, takeEvent_moves (inletStopTimerEvent_moves ..)⟩
  case settleTimerExpiry n => exact ⟨_, rfl, takeEvent_moves (settleTimerEvent_moves ..)⟩
  case gaugeReading t report => exact ⟨_, rfl, takeEvent_moves (gaugeReadingEvent_moves ..)⟩
  case stockCheckExpiry => exact ⟨_, rfl, takeEvent_moves (stockCheckEvent_moves ..)⟩
  case settledReportWaitExpiry l => exact ⟨_, rfl, takeEvent_moves (settledWaitEvent_moves ..)⟩
  case lineInputChange x level =>
    exact ⟨_, rfl, takeLine_moves (updDebounced_moves ..) (lineInputEvent_moves ..)⟩
  case debounceExpiry x => exact ⟨_, rfl, takeEvent_moves (debounceEvent_moves ..)⟩
  case estopChange level => exact ⟨_, rfl, takeLine_moves (followEstop_moves ..) (estopEvent_moves ..)⟩
  case bypassExpiry x => exact ⟨_, rfl, takeEvent_moves (bypassExpiryEvent_moves ..)⟩
  case scanVisit l => exact ⟨_, rfl, takeEvent_moves (scanVisitEvent_moves ..)⟩
  case rangeVisit l => exact ⟨_, rfl, takeEvent_moves (rangeVisitEvent_moves ..)⟩
  case shiftStart => exact ⟨_, rfl, takeEvent_moves (shiftStartEvent_moves ..)⟩
  case powerOn => cases other
  case supplyDip => cases other
  case requestedRestart => cases other
  case supplyReturn => cases other
  all_goals exact ⟨_, rfl, request _ _⟩

end Sys2Proof.Machine

/-! # Restarts: what each keeps, and what it leaves of the units (R199 to R202) -/

namespace Sys2Proof.Machine

open Sys2Proof

/-! ## Laws that a restart makes anew -/

/-- The laws on the units, and the second law, which speaks of the draw tanks of open orders. -/
def Law.remade : Law → Bool
  | .units | .pointMetered _ | .inletMetered _ | .entries | .trips _ _ => true
  | _ => false

/-- The laws that a restart makes anew. -/
def restartHoles : Set Law := {x | x.remade}

/-! ## The restart states of the blocks (R200, step 1) -/

theorem restartPoints_moves (s : State) : Moves [.points] restartHoles s (restartPoints s) := by
  refine .of_frame rfl rfl (fun x hx => by cases x <;> simp [Part.same, restartPoints] at hx ⊢) fun x hx touched hs => ?_
  cases x <;> simp [Law.parts, restartHoles, Law.remade] at touched hx
  case reserve =>
    have same : (restartPoints s).openOperations.length = s.openOperations.length := by
      simp [openOperations_length, restartPoints, State.point, State.inlet]
    exact ⟨hs.1.trans same.symm, hs.2⟩

theorem restartInlets_moves (s : State) : Moves [.inlets] restartHoles s (restartInlets s) := by
  refine .of_frame rfl rfl (fun x hx => by cases x <;> simp [Part.same, restartInlets] at hx ⊢) fun x hx touched hs => ?_
  cases x <;> simp [Law.parts, restartHoles, Law.remade] at touched hx
  case reserve =>
    have same : (restartInlets s).openOperations.length = s.openOperations.length := by
      simp [openOperations_length, restartInlets, State.point, State.inlet]
    exact ⟨hs.1.trans same.symm, hs.2⟩

theorem tanks_moves {s : State} (x : StockUnit) (draws : x.draws = s.stock.draws)
    (same : ∀ t, (look x.tanks t).standing = (s.tank t).standing) :
    Moves [.tanks, .stockRest, .reports] ∅ s { s with stock := x } := by
  refine .of_frame rfl rfl (fun y hy => by cases y <;> simp [Part.same, draws] at hy ⊢) fun y _ touched hs => ?_
  cases y <;> simp [Law.parts] at touched
  case draws B =>
    simp only [Tank.standing, Prod.mk.injEq] at same
    obtain ⟨conditions, chains, mem, ready⟩ := hs
    refine ⟨fun t => ?_, chains, fun k => ?_, fun k hk t ht => ?_⟩
    · have := conditions t
      simp only [State.conditionsCurrent, State.tank, same] at this ⊢
      exact this
    · simp only [State.draw, draws]
      exact mem k
    · simp only [State.draw, draws] at ht
      have := ready k hk t ht
      simp only [State.ready, State.tankShows, State.tank, same] at this ⊢
      exact this

theorem restartStock_moves (s : State) : Moves [.tanks, .stockRest, .reports] ∅ s (restartStock s) :=
  tanks_moves _ rfl fun t => by rw [look_mapTable]; rfl

theorem restartCursors_moves (s : State) : Moves [.accountsRest] ∅ s (restartCursors s) :=
  .of_untouched rfl rfl (fun x hx => by cases x <;> simp [Part.same, restartCursors] at hx ⊢)
    (by intro x; cases x <;> simp [Law.parts])

theorem restartLinks_moves (s : State) : Moves [.links] ∅ s (restartLinks s) := by
  refine .of_frame rfl rfl (fun x hx => by cases x <;> simp [Part.same, restartLinks] at hx ⊢) fun x _ touched hs => ?_
  cases x <;> simp [Law.parts] at touched
  case queues => exact fun l => by simp [restartLinks, State.link, LinkUnit.restarted]

/-- R200, step 1, but for the stock of a blank store. -/
def restartUnits (s : State) : State :=
  restartMode (restartLinks (restartCursors (restartStock (restartInlets (restartPumps (restartPoints s))))))

/-- What the restart states of the blocks touch. -/
def restartParts : List Part :=
  [.points, .inlets, .pumps, .tanks, .stockRest, .reports, .accountsRest, .links, .mode]

theorem restartUnits_moves (s : State) : Moves restartParts restartHoles s (restartUnits s) :=
  ((restartPoints_moves s).andThen (((restartPumps_moves _).weaken _).andThen ((restartInlets_moves _).andThen
    ((((restartStock_moves _).andThen ((restartCursors_moves _).andThen ((restartLinks_moves _).andThen
      (wake_moves .restart _)))).weaken _))))).mono (by decide)

theorem restartBlocks_eq (check : MemoryCheck) (s : State) :
    restartBlocks check s = if check.settingsValid then restartUnits s else checkBlankStore (restartUnits s) := rfl

/-! ## The stock of a blank store (R86) -/

/-- A product's draw tank is of its chain, and ready. -/
def State.DrawReady (s : State) (k : ProductId) : Prop :=
  ∀ t ∈ (s.draw k).current, t ∈ (s.productSet k).chain ∧ s.ready t = true

/-- R69: a check from the chain's start leaves its product with an eligible draw tank or with none. -/
theorem chainCheck_start_ready (k j : ProductId) (s : State) (h : j = k ∨ s.DrawReady j) :
    (chainCheck k true s).DrawReady j := by
  have check := chainCheck_moves k true s
  intro t ht
  rw [productSet_of_same (check.same .products),
    ready_of_same (check.same .tanks) (check.same .latches) (check.same .tankSets)]
  rw [chainCheck_draw, drawAfter_start] at ht
  split at ht
  · next e =>
    subst e
    obtain ⟨mem, eligible⟩ := firstEligible_some ht
    exact ⟨mem, ready_of_eligible eligible⟩
  · next e => exact h.resolve_left (Ne.symm e) t ht

theorem chainChecks_start_ready (ks : List ProductId) (j : ProductId) (s : State) (h : j ∈ ks ∨ s.DrawReady j) :
    (forEach ks (fun k => chainCheck k true) s).DrawReady j := by
  induction ks generalizing s with
  | nil => exact h.resolve_left (by simp)
  | cons k ks ih =>
    refine ih _ ?_
    rcases h with h | h
    · rcases List.mem_cons.1 h with e | h
      · exact .inr (chainCheck_start_ready k j s (.inl e))
      · exact .inl h
    · exact .inr (chainCheck_start_ready k j s (.inr h))

theorem dropReports_moves (s : State) : Moves [.reports] ∅ s (dropReports s) := reports_moves [] s

theorem State.DrawReady.dropReports {s : State} {k : ProductId} (h : s.DrawReady k) : (dropReports s).DrawReady k := by
  have dropped := dropReports_moves s
  rw [State.DrawReady, productSet_of_same (dropped.same .products),
    ready_of_same (dropped.same .tanks) (dropped.same .latches) (dropped.same .tankSets)]
  exact h

theorem mem_allProducts (k : ProductId) : k ∈ allProducts := by revert k; decide

theorem chainChecks_start_moves (ks : List ProductId) (s : State) :
    Moves [.draws, .reports, .links] ∅ s (forEach ks (fun k => chainCheck k true) s) :=
  .forEach _ _ (fun k _ s => chainCheck_moves k true s) s

theorem checkBlankStore_moves (s : State) : Moves stockParts drawLaws s (checkBlankStore s) :=
  ((evaluateAll_frame allTanks s).andThen (((chainChecks_start_moves ..).andThen (dropReports_moves _)).weaken _)).mono
    (by decide)

theorem checkBlankStore_ready (k : ProductId) (s : State) : (checkBlankStore s).DrawReady k :=
  (chainChecks_start_ready allProducts k (forEach allTanks evaluateConditions s) (.inl (mem_allProducts k))).dropReports

/-- R86: the draw tanks under a store just found blank. -/
theorem checkBlankStore_draws {s : State} (chains : ∀ k, ∀ t ∈ (s.productSet k).chain, (s.tankSet t).product = k) :
    (checkBlankStore s).DrawsBut ∅ := by
  have evaluated := evaluateAll_frame allTanks s
  have checks := chainChecks_start_moves allProducts (forEach allTanks evaluateConditions s)
  have dropped := dropReports_moves (forEach allProducts (fun k => chainCheck k true) (forEach allTanks evaluateConditions s))
  refine dropped.law (.draws ∅) (Set.notMem_empty _) ?_
  have ready (k : ProductId) := chainChecks_start_ready allProducts k (forEach allTanks evaluateConditions s)
    (.inl (mem_allProducts k))
  refine ⟨fun t => ?_, fun k t ht => ?_, fun k t ht => (ready k t ht).1, fun k _ t ht => (ready k t ht).2⟩
  · rw [conditionsCurrent_of_same (checks.same .tanks) (checks.same .products) (checks.same .tankSets)]
    exact evaluateAll_current _ (fun u hu => absurd (mem_allTanks u) hu) t
  · rw [productSet_of_same (checks.same .products), productSet_of_same (evaluated.same .products)] at ht
    rw [tankSet_of_same (checks.same .tankSets), tankSet_of_same (evaluated.same .tankSets)]
    exact chains k t ht

theorem blank_chains (k : ProductId) :
    ∀ t ∈ (look Store.blank.products k).chain, (look Store.blank.tanks t).product = k := by
  intro t ht
  simp only [Store.blank, look_ofFn, ProductSettings.blank, List.mem_singleton] at ht ⊢
  subst ht
  exact Fin.ext (Nat.mod_eq_of_lt k.isLt)

theorem blank_chain_length (k : ProductId) : (look Store.blank.products k).chain.length ≤ 4 := by
  simp [Store.blank, ProductSettings.blank]

/-! ## The check of the memory -/

/-- The state that step 1 starts from: the store checked, and the controller started. -/
def restartBegun (check : MemoryCheck) (s : State) : State := startController (checkStore check s)

theorem startController_law {x : Law} {s : State} (hx : x ≠ .entries) (h : x.holds s) : x.holds (startController s) := by
  cases x <;> first | exact h | exact absurd rfl hx

theorem checkStore_law {x : Law} {check : MemoryCheck} {s : State} (hx : x ∉ restartHoles)
    (stock : x ∉ drawLaws ∨ check.settingsValid = true) (h : x.holds s) : x.holds (checkStore check s) := by
  unfold checkStore
  split
  · exact h
  · next blank =>
    have other := stock.resolve_right blank
    cases x <;> simp [restartHoles, Law.remade, drawLaws] at hx other
    case configure => exact ⟨0, by simp [State.perms, Store.blank, allPerms]⟩
    all_goals exact h

/-- R200, step 1: what the restart states of the blocks keep. -/
theorem restartBlocks_law {x : Law} {check : MemoryCheck} {s : State} (hx : x ∉ restartHoles) (h : x.holds s) :
    x.holds (restartBlocks check (restartBegun check s)) := by
  have begun (stock : x ∉ drawLaws ∨ check.settingsValid = true) : x.holds (restartUnits (restartBegun check s)) :=
    (restartUnits_moves _).law x hx (startController_law (fun e => hx (by rw [e]; rfl)) (checkStore_law hx stock h))
  rw [restartBlocks_eq]
  split
  · next valid => exact begun (.inr valid)
  · next blank =>
    by_cases stock : x ∈ drawLaws
    · obtain ⟨B, rfl⟩ := stock
      have units := restartUnits_moves (restartBegun check s)
      have store : (restartBegun check s).store = .blank := by
        rw [restartBegun, startController, checkStore, if_neg blank]
      have products : (restartUnits (restartBegun check s)).store.products = Store.blank.products :=
        (units.same .products).trans (by rw [store])
      have tanks : (restartUnits (restartBegun check s)).store.tanks = Store.blank.tanks :=
        (units.same .tankSets).trans (by rw [store])
      refine DrawsBut.mono (checkBlankStore_draws fun k t ht => ?_) (Set.empty_subset B)
      rw [State.productSet, products] at ht
      rw [State.tankSet, tanks]
      exact blank_chains k t ht
    · exact (checkBlankStore_moves _).law x stock (begun (.inl stock))

/-! ## The sequence (R200, steps 2 to 4) -/

theorem restartShift_moves (s : State) : Moves [.bayRest, .table, .accountsRest] ∅ s (restartShift s) := by
  unfold restartShift
  split
  · exact ((shiftChange_moves s).andThen (setNextShift_moves ..)).mono (by decide)
  · exact .refl ..

/-- R200, step 3: an order as it is closed by a restart. -/
def Order.interrupted (o : Order) : Order :=
  { o with termination := some .interrupted, secondaries := interruptedSecondaries o.termination o.secondaries }

theorem interruptOrder_some {p : PointId} {s : State} {o : Order} (h : (s.point p).order = some o) :
    interruptOrder p s =
      (recordOrder p o.interrupted .interrupted s).updPoint p fun u => { u with order := none } := by
  rw [interruptOrder, h]; rfl

theorem interruptOrder_none {p : PointId} {s : State} (h : (s.point p).order = none) : interruptOrder p s = s := by
  rw [interruptOrder, h]

theorem interruptOrder_point (p q : PointId) (s : State) :
    (interruptOrder p s).point q = if p = q then { s.point q with order := none } else s.point q := by
  cases h : (s.point p).order with
  | none =>
    rw [interruptOrder_none h]
    split
    · next e => subst e; rw [← h]
    · rfl
  | some o =>
    rw [interruptOrder_some h, point_updPoint, point_of_points ((recordOrder_moves ..).same .points)]
    split
    · next e => subst e; rfl
    · rfl

theorem interruptOrder_frame (p : PointId) (s : State) :
    Moves (.points :: recordParts) restartHoles s (interruptOrder p s) := by
  cases h : (s.point p).order with
  | none => rw [interruptOrder_none h]; exact .refl ..
  | some o =>
    have closes (u : State) : Moves [.points] (insert .reserve restartHoles) u
        (u.updPoint p fun u => { u with order := none }) :=
      updPoint_moves p _ (fun h => absurd (.inr rfl) h) (fun h => absurd (.inr rfl) h)
        (fun h => absurd (fun x hx => by obtain ⟨P, I, rfl⟩ := hx; exact .inr rfl) h)
        (fun h => absurd (.inl rfl) h) (fun h => absurd (.inr rfl) h)
    have frame : Moves (.points :: recordParts) (insert .reserve restartHoles) s (interruptOrder p s) := by
      rw [interruptOrder_some h]
      refine (((recordOrder_moves p o.interrupted .interrupted s).mend _ fun x hx hn _ => absurd ?_ hn).andThen
        (closes _)).mono (by decide)
      rcases hx with rfl | rfl
      · exact .inl rfl
      · exact .inr rfl
    have journal : (interruptOrder p s).journal = (recordOrder p o.interrupted .interrupted s).journal := by
      rw [interruptOrder_some h]; rfl
    refine frame.mend _ fun x hx hn hs => ?_
    obtain rfl := hx.resolve_right hn
    refine ReserveHeld.of_close (s := s) hs (openOperations_of_closed (p := p) (frame.same .inlets) (by simp [h])
      (by rw [interruptOrder_point, if_pos rfl]) fun q hq => ?_) (by rw [journal, recordOrder_journal]; rfl)
      (by rw [journal, recordOrder_journal]; rfl) (frame.same .curtailed)
    rw [interruptOrder_point, if_neg (Ne.symm hq)]

/-- R200, step 3: a delivery as it is closed by a restart. -/
def Delivery.interrupted (d : Delivery) : Delivery :=
  { d with termination := some .interrupted, secondaries := interruptedSecondaries d.termination d.secondaries }

theorem interruptDelivery_eq (i : InletId) (s : State) :
    interruptDelivery i s =
      dropReports (closeDelivery i (notReconciled .interrupted) (s.updDelivery i Delivery.interrupted)) := rfl

theorem interruptDelivery_moves (i : InletId) (s : State) : Moves inletParts ∅ s (interruptDelivery i s) := by
  have caused : Moves [.inlets] ∅ s (s.updDelivery i Delivery.interrupted) :=
    updDelivery_moves i _ (fun _ => rfl) fun _ h => h
  rw [interruptDelivery_eq]
  exact (caused.andThen ((closeDelivery_moves ..).andThen (dropReports_moves _))).mono (by decide)

theorem restartInputs_moves (s : State) : Moves [.shutdownRest] ∅ s (restartInputs s) :=
  .of_untouched rfl rfl (fun x hx => by cases x <;> simp [Part.same, restartInputs] at hx ⊢)
    (by intro x; cases x <;> simp [Law.parts])

theorem restartEstop_moves (s : State) : Moves tripParts ∅ s (restartEstop s) := by
  unfold restartEstop
  dsimp only
  split
  · exact ((setEstop_moves ..).andThen (handCause_moves (exempts_none ..))).mono (by decide)
  · exact ((setEstop_moves ..).andThen (examineHolding_moves ..)).mono (by decide)

theorem startShutdown_moves (s : State) : Moves tripParts ∅ s (startShutdown s) :=
  ((restartInputs_moves s).andThen ((restartEstop_moves _).andThen (dropReports_moves _))).mono (by decide)

theorem sequenceStep_moves (x : SequenceStep) (s : State) : Moves allParts restartHoles s (sequenceStep x s) := by
  match x with
  | .shift => exact ((restartShift_moves s).weaken _).all
  | .close (.order p) => exact (interruptOrder_frame p s).all
  | .close (.delivery i) => exact ((interruptDelivery_moves i s).weaken _).all
  | .shutdown => exact ((startShutdown_moves s).weaken _).all

theorem recordRestart_moves (cause : RestartCause) (check : MemoryCheck) (n : Nat) (link : Option Link) (s : State) :
    Moves [.bayRest, .links] ∅ s (recordRestart cause check n link s) := by
  have record (r : RestartRecord) : Moves [.bayRest] ∅ s { s with bay := { s.bay with restart := r } } :=
    .of_untouched rfl rfl (fun x hx => by cases x <;> simp [Part.same] at hx ⊢)
      (by intro x; cases x <;> simp [Law.parts])
  exact ((record _).andThen (.forEach _ _ (fun l _ s => postTo_moves l _ s) _)).mono (by decide)

/-! ## A controller that stops (R199) -/

theorem releaseOutputs_moves (s : State) :
    Moves [.points, .inlets, .pumps, .links] restartHoles s (releaseOutputs s) := by
  refine .of_frame rfl rfl (fun x hx => by cases x <;> simp [Part.same, releaseOutputs] at hx ⊢) fun x hx touched hs => ?_
  cases x <;> simp [Law.parts, restartHoles, Law.remade] at touched hx
  case starting =>
    intro m n hm hn
    simp only [releaseOutputs, State.pump, look_mapTable] at hm hn
    exact hs m n hm hn
  case reserve =>
    have same : (releaseOutputs s).openOperations.length = s.openOperations.length := by
      simp [openOperations_length, releaseOutputs, State.point, State.inlet]
    exact ⟨hs.1.trans same.symm, hs.2⟩
  case queues =>
    intro l
    simpa [releaseOutputs, State.link] using hs l

theorem stopController_law {x : Law} {s : State} (hx : x ∉ restartHoles) (h : x.holds s) : x.holds (stopController s) := by
  have released := (releaseOutputs_moves s).law x hx h
  cases x <;> first | exact released | exact absurd rfl hx

end Sys2Proof.Machine

/-! # The restart sequence: the operations it closes, and the units it leaves (R200) -/

namespace Sys2Proof.Machine

open Sys2Proof

/-! ## Units at rest -/

/-- A point as a restart leaves it, its running record aside. -/
def PointUnit.AtRest (u : PointUnit) : Prop :=
  (u.state = .disabled ∨ u.state = .idle) ∧ u.valve = false ∧ u.meter.working = none ∧ u.identDue = none

/-- An inlet as a restart leaves it, its running record aside. -/
def InletUnit.AtRest (u : InletUnit) : Prop := u.state = .idle ∧ u.valve = false ∧ u.meter.working = none

/-- Every unit is as a restart leaves it. -/
def State.Rested (s : State) : Prop := (∀ p, (s.point p).AtRest) ∧ ∀ i, (s.inlet i).AtRest

theorem State.Rested.identTimersFit {s : State} (h : s.Rested) : s.IdentTimersFit := fun p set => by
  rw [(h.1 p).2.2.2] at set
  cases set

theorem State.Rested.tripsStop {s : State} (h : s.Rested) : s.TripsStop ∧ s.FlagsHeld ∧ s.IdentTimersFit := by
  have idle (i : InletId) : (s.inlet i).state = .idle := (h.2 i).1
  refine ⟨⟨fun p _ => (h.1 p).1.imp_right .inl, fun i d _ _ => ?_⟩, fun i d _ going => ?_, h.identTimersFit⟩
  · rw [idle]; exact ⟨by decide, by decide⟩
  · rw [idle] at going; rcases going with h | h <;> cases h

theorem State.Rested.of_same {s t : State} (h : s.Rested) (points : Part.points.same s t) (inlets : Part.inlets.same s t) :
    t.Rested := by
  rw [State.Rested, point_of_points points, inlet_of_inlets inlets]
  exact h

theorem PointUnit.restarted_atRest (enabled : Bool) (now : Nat) : (PointUnit.restarted enabled now).AtRest := by
  cases enabled <;> simp [PointUnit.AtRest, PointUnit.restarted, Meter.idle]

theorem restartUnits_points (s : State) : (restartUnits s).points = (restartPoints s).points :=
  (wake_moves .restart _).same .points

theorem restartUnits_inlets (s : State) : (restartUnits s).inlets = (restartInlets s).inlets :=
  (wake_moves .restart _).same .inlets

theorem restartUnits_rested (s : State) : (restartUnits s).Rested := by
  constructor
  · intro p
    rw [point_of_points (restartUnits_points s)]
    simpa [restartPoints, State.point, PointUnit.AtRest] using PointUnit.restarted_atRest (s.pointSet p).enabled s.clock
  · intro i
    rw [inlet_of_inlets (restartUnits_inlets s)]
    simp [restartInlets, State.inlet, InletUnit.AtRest, InletUnit.restarted, Meter.idle]

theorem restartBlocks_frame (check : MemoryCheck) (s : State) :
    Moves stockParts (restartHoles ∪ drawLaws) (restartUnits s) (restartBlocks check s) := by
  rw [restartBlocks_eq]
  split
  · exact .refl ..
  · exact (checkBlankStore_moves _).mend _ fun x hx hn _ => absurd (.inr hx) hn

theorem restartBlocks_rested (check : MemoryCheck) (s : State) : (restartBlocks check s).Rested :=
  (restartUnits_rested s).of_same ((restartBlocks_frame check s).same .points) ((restartBlocks_frame check s).same .inlets)

/-! ## The operations that a restart finds open -/

/-- An operation is open. -/
def State.opened (s : State) : OpenOperation → Bool
  | .order p => (s.point p).order.isSome
  | .delivery i => (s.inlet i).delivery.isSome

theorem interruptDelivery_inlet (i j : InletId) (s : State) :
    (interruptDelivery i s).inlet j =
      if i = j then (if (s.inlet i).delivery.isSome then (s.inlet i).closed else s.inlet i) else s.inlet j := by
  have caused (j : InletId) : (s.updDelivery i Delivery.interrupted).inlet j = if i = j then
      { s.inlet i with delivery := (s.inlet i).delivery.map Delivery.interrupted } else s.inlet j := inlet_updDelivery ..
  rw [interruptDelivery_eq]
  change (closeDelivery i (notReconciled .interrupted) (s.updDelivery i Delivery.interrupted)).inlet j = _
  cases h : (s.inlet i).delivery with
  | none =>
    rw [closeDelivery_none (by rw [caused, if_pos rfl, h]; rfl), caused]
    split
    · next e => subst e; rw [h]; change { s.inlet i with delivery := none } = s.inlet i; rw [← h]
    · rfl
  | some d =>
    rw [closeDelivery_inlet (d := d.interrupted) (by rw [caused, if_pos rfl, h]; rfl), caused, caused, if_pos rfl]
    split <;> rfl

theorem interruptDelivery_point (i : InletId) (s : State) : (interruptDelivery i s).point = s.point :=
  point_of_points ((interruptDelivery_moves i s).same .points)

theorem interruptOrder_inlet (p : PointId) (s : State) : (interruptOrder p s).inlet = s.inlet :=
  inlet_of_inlets ((interruptOrder_frame p s).same .inlets)

/-- R200, step 3: a close closes its own operation, and no other. -/
theorem interrupt_opened (x y : OpenOperation) (s : State) :
    (interrupt x s).opened y = (decide (y ≠ x) && s.opened y) := by
  match x, y with
  | .order p, .order q =>
    simp only [interrupt, State.opened, interruptOrder_point]
    by_cases e : p = q
    · simp [e]
    · simp [e, Ne.symm e]
  | .order p, .delivery i => simp [interrupt, State.opened, interruptOrder_inlet]
  | .delivery i, .order q => simp [interrupt, State.opened, interruptDelivery_point]
  | .delivery i, .delivery j =>
    simp only [interrupt, State.opened, interruptDelivery_inlet]
    by_cases e : i = j
    · subst e
      cases h : (s.inlet i).delivery <;> simp [h, InletUnit.closed, InletUnit.restarted]
    · simp [e, Ne.symm e]

theorem interrupt_rested {x : OpenOperation} {s : State} (h : s.Rested) : (interrupt x s).Rested := by
  match x with
  | .order p =>
    refine ⟨fun q => ?_, fun i => ?_⟩
    · simp only [interrupt, interruptOrder_point]
      split <;> exact h.1 q
    · simp only [interrupt, interruptOrder_inlet]
      exact h.2 i
  | .delivery i =>
    refine ⟨fun q => ?_, fun j => ?_⟩
    · simp only [interrupt, interruptDelivery_point]
      exact h.1 q
    · simp only [interrupt, interruptDelivery_inlet]
      split
      · split
        · exact ⟨rfl, rfl, rfl⟩
        · exact h.2 i
      · exact h.2 j

theorem forEach_interrupt_opened (xs : List OpenOperation) (y : OpenOperation) (s : State) :
    (forEach xs interrupt s).opened y = (decide (y ∉ xs) && s.opened y) := by
  induction xs generalizing s with
  | nil => simp [forEach]
  | cons x xs ih =>
    have first : forEach (x :: xs) interrupt s = forEach xs interrupt (interrupt x s) := rfl
    rw [first, ih, interrupt_opened]
    by_cases e : y = x <;> simp [e]

theorem mem_insertByNumber {α : Type} {x y : Nat × α} {xs : List (Nat × α)} :
    y ∈ insertByNumber x xs ↔ y = x ∨ y ∈ xs := by
  induction xs with
  | nil => simp [insertByNumber]
  | cons z zs ih =>
    unfold insertByNumber
    split
    · simp
    · simp only [List.mem_cons, ih]
      tauto

theorem mem_sortByNumber {α : Type} {y : Nat × α} {xs : List (Nat × α)} : y ∈ sortByNumber xs ↔ y ∈ xs := by
  induction xs with
  | nil => rfl
  | cons x xs ih =>
    have first : sortByNumber (x :: xs) = insertByNumber x (sortByNumber xs) := rfl
    rw [first, mem_insertByNumber, ih, List.mem_cons]

/-- R200, step 3: the operations that the sequence closes, in its order. -/
def State.toClose (s : State) : List OpenOperation := (sortByNumber s.openOperations).map Prod.snd

theorem mem_toClose {s : State} {x : OpenOperation} : x ∈ s.toClose ↔ s.opened x = true := by
  simp only [State.toClose, List.mem_map, mem_sortByNumber, State.openOperations, List.mem_append, List.mem_filterMap]
  cases x with
  | order p =>
    constructor
    · rintro ⟨n, (⟨q, -, hq⟩ | ⟨i, -, hi⟩), hn⟩
      · obtain ⟨o, ho, rfl⟩ := Option.map_eq_some_iff.1 hq
        cases hn
        simp [State.opened, ho]
      · obtain ⟨d, -, rfl⟩ := Option.map_eq_some_iff.1 hi
        cases hn
    · intro h
      obtain ⟨o, ho⟩ := Option.isSome_iff_exists.1 h
      exact ⟨(o.number, .order p), .inl ⟨p, mem_allPoints p, by rw [ho]; rfl⟩, rfl⟩
  | delivery i =>
    constructor
    · rintro ⟨n, (⟨q, -, hq⟩ | ⟨j, -, hj⟩), hn⟩
      · obtain ⟨o, -, rfl⟩ := Option.map_eq_some_iff.1 hq
        cases hn
      · obtain ⟨d, hd, rfl⟩ := Option.map_eq_some_iff.1 hj
        cases hn
        simp [State.opened, hd]
    · intro h
      obtain ⟨d, hd⟩ := Option.isSome_iff_exists.1 h
      exact ⟨(d.number, .delivery i), .inr ⟨i, mem_allInlets i, by rw [hd]; rfl⟩, rfl⟩

theorem sequence_eq (s : State) : s.sequence = .shift :: (s.toClose.map .close ++ [.shutdown]) := by
  simp [State.sequence, State.toClose, Function.comp_def]

end Sys2Proof.Machine

/-! # The laws over a restart (R199 to R202) -/

namespace Sys2Proof.Machine

open Sys2Proof

/-! ## The second law while operations are open under any store -/

/-- R63, R69: a chain has at most four tanks, and a product's draw tank is one of them. -/
def State.ChainsServe (s : State) : Prop :=
  ∀ k, (s.productSet k).chain.length ≤ 4 ∧ ∀ t ∈ (s.draw k).current, t ∈ (s.productSet k).chain

/-- The second law but for the draw tanks of open orders. -/
def State.EntriesStored (s : State) : Prop :=
  s.ChainsServe ∧ (∀ p, ∀ o ∈ (s.point p).order, EntriesSum o.entries (signedNet o.kind o.net)) ∧
    ∀ r ∈ s.journal.held, r.entriesSum

theorem State.EntriesKept.stored {s : State} (h : s.EntriesKept) : s.EntriesStored :=
  ⟨h.1, fun p o ho => (h.2.1 p o ho).1, h.2.2⟩

/-- With no order open, or with the controller stopped, nothing is asked of the draw tanks of orders. -/
theorem State.EntriesStored.kept {s : State} (h : s.EntriesStored) (idle : (∀ p, (s.point p).order = none) ∨ ¬s.Running) :
    s.EntriesKept := by
  obtain ⟨chains, orders, records⟩ := h
  refine ⟨chains, fun p o ho => ⟨orders p o ho, fun run => ?_⟩, records⟩
  rcases idle with none | stopped
  · rw [none p] at ho; cases ho
  · exact absurd run stopped

theorem draw_of_same {s t : State} (h : Part.draws.same s t) : t.draw = s.draw := by
  funext k; simp only [State.draw, show t.stock.draws = s.stock.draws from h]

theorem State.ChainsServe.of_same {s t : State} (h : s.ChainsServe) (draws : Part.draws.same s t)
    (products : Part.products.same s t) : t.ChainsServe := by
  rw [State.ChainsServe, draw_of_same draws, productSet_of_same products]
  exact h

/-- R69: a chain check leaves each draw tank in its chain. -/
theorem State.ChainsServe.chainCheck {s : State} (h : s.ChainsServe) (k : ProductId) (fromStart : Bool) :
    (chainCheck k fromStart s).ChainsServe := by
  have check := chainCheck_moves k fromStart s
  intro j
  rw [productSet_of_same (check.same .products), chainCheck_draw]
  refine ⟨(h j).1, fun t ht => ?_⟩
  split at ht
  · next e => subst e; exact (drawAfter_some (h k).2 ht).1
  · exact (h j).2 t ht

theorem State.ChainsServe.clearReceiving {s : State} (h : s.ChainsServe) (i : InletId) :
    (clearReceiving i s).ChainsServe := by
  unfold Machine.clearReceiving
  split
  · exact h
  next d _ =>
    dsimp only
    split
    · have quiet := restartQuiet_moves d.tank (s.updDelivery i letGo)
      have still : (restartQuiet d.tank (s.updDelivery i letGo)).ChainsServe :=
        (h.of_same (t := s.updDelivery i letGo) rfl rfl).of_same (quiet.same .draws) (quiet.same .products)
      exact still.chainCheck _ _
    · exact h.of_same rfl rfl

theorem State.ChainsServe.closeDelivery {s : State} (h : s.ChainsServe) (i : InletId) (x : SettleOutcome) :
    (closeDelivery i x s).ChainsServe := by
  cases hd : (s.inlet i).delivery with
  | none => rw [closeDelivery_none hd]; exact h
  | some d =>
    rw [closeDelivery_some hd]
    have recorded := recordDelivery_moves i (letGo d) (d.termination.getD .stopped) x (Machine.clearReceiving i s)
    have reports := settledReportsAfterClose_moves ((recordDelivery i (letGo d) (d.termination.getD .stopped) x
      (Machine.clearReceiving i s)).updInlet i InletUnit.closed)
    exact ((((h.clearReceiving i).of_same (recorded.same .draws) (recorded.same .products)).of_same
      (t := State.updInlet i InletUnit.closed _) rfl rfl).of_same (reports.same .draws) (reports.same .products))

theorem EntriesStored.interruptOrder {s : State} (h : s.EntriesStored) (p : PointId) :
    (interruptOrder p s).EntriesStored := by
  have frame := interruptOrder_frame p s
  obtain ⟨chains, orders, records⟩ := h
  refine ⟨chains.of_same (frame.same .draws) (frame.same .products), fun q o ho => ?_, fun r hr => ?_⟩
  · rw [interruptOrder_point] at ho
    split at ho
    · cases ho
    · exact orders q o ho
  · cases ho : (s.point p).order with
    | none => rw [interruptOrder_none ho] at hr; exact records r hr
    | some o =>
      have journal : (Machine.interruptOrder p s).journal = (recordOrder p o.interrupted .interrupted s).journal := by
        rw [interruptOrder_some ho]; rfl
      rw [journal, recordOrder_journal] at hr
      rcases mem_ringAfter hr with old | rfl
      · exact records r old
      · exact orders p o ho

theorem interruptDelivery_journal {i : InletId} {s : State} {d : Delivery} (h : (s.inlet i).delivery = some d) :
    (interruptDelivery i s).journal = (journalWrite (fun n => .delivery
      (deliveryRecord i d.interrupted .interrupted (notReconciled .interrupted) s.seconds n)) true s).journal := by
  have caused : ((s.updDelivery i Delivery.interrupted).inlet i).delivery = some d.interrupted := by
    rw [inlet_updDelivery, if_pos rfl, h]; rfl
  exact closeDelivery_journal caused

theorem EntriesStored.interruptDelivery {s : State} (h : s.EntriesStored) (i : InletId) :
    (interruptDelivery i s).EntriesStored := by
  obtain ⟨chains, orders, records⟩ := h
  have caused : (s.updDelivery i Delivery.interrupted).ChainsServe := chains.of_same rfl rfl
  refine ⟨(caused.closeDelivery i (notReconciled .interrupted)).of_same rfl rfl, fun q o ho => ?_, fun r hr => ?_⟩
  · rw [interruptDelivery_point] at ho
    exact orders q o ho
  · cases hd : (s.inlet i).delivery with
    | none =>
      have none : ((s.updDelivery i Delivery.interrupted).inlet i).delivery = none := by
        rw [inlet_updDelivery, if_pos rfl, hd]; rfl
      rw [interruptDelivery_eq, closeDelivery_none none] at hr
      exact records r hr
    | some d =>
      rw [interruptDelivery_journal hd] at hr
      rcases mem_ringAfter hr with old | rfl
      · exact records r old
      · exact deliveryRecord_entriesSum ..

theorem EntriesStored.interrupt {s : State} (h : s.EntriesStored) (x : OpenOperation) : (interrupt x s).EntriesStored := by
  cases x with
  | order p => exact EntriesStored.interruptOrder h p
  | delivery i => exact EntriesStored.interruptDelivery h i

theorem EntriesStored.restartShift {s : State} (h : s.EntriesStored) : (restartShift s).EntriesStored := by
  have shift := restartShift_moves s
  obtain ⟨chains, orders, records⟩ := h
  refine ⟨chains.of_same (shift.same .draws) (shift.same .products), ?_, ?_⟩
  · rw [point_of_points (shift.same .points)]; exact orders
  · rw [show (Machine.restartShift s).journal = s.journal from shift.same .journal]; exact records

/-- R86, R200: the restart states of the blocks, also under a store just found blank. -/
theorem EntriesStored.restartBlocks {s : State} (h : s.EntriesStored) (check : MemoryCheck) :
    (restartBlocks check (restartBegun check s)).EntriesStored := by
  obtain ⟨chains, orders, records⟩ := h
  have units := restartUnits_moves (restartBegun check s)
  have blocks := restartBlocks_frame check (restartBegun check s)
  refine ⟨?_, fun p o ho => ?_, ?_⟩
  · rw [restartBlocks_eq]
    split
    · next valid =>
      have begun : (restartBegun check s).ChainsServe := by
        rw [restartBegun, checkStore, if_pos valid]
        exact chains.of_same rfl rfl
      exact begun.of_same (units.same .draws) (units.same .products)
    · next blank =>
      intro k
      have checked := checkBlankStore_moves (restartUnits (restartBegun check s))
      have store : (restartBegun check s).store = .blank := by rw [restartBegun, startController, checkStore, if_neg blank]
      have products : (checkBlankStore (restartUnits (restartBegun check s))).store.products = Store.blank.products :=
        (checked.same .products).trans ((units.same .products).trans (by rw [store]))
      refine ⟨?_, fun t ht => ?_⟩
      · rw [State.productSet, products]
        exact blank_chain_length k
      · exact (checkBlankStore_ready k (restartUnits (restartBegun check s)) t ht).1
  · rw [point_of_points (blocks.same .points), point_of_points (restartUnits_points _)] at ho
    simp only [restartPoints, State.point, look_ofFn] at ho
    refine orders p o ?_
    rw [restartBegun, checkStore] at ho
    split at ho <;> exact ho
  · rw [show (Machine.restartBlocks check (restartBegun check s)).journal = (restartUnits (restartBegun check s)).journal
      from blocks.same .journal, show (restartUnits (restartBegun check s)).journal = (restartBegun check s).journal from
      units.same .journal, restartBegun, checkStore]
    split <;> exact records

/-! ## The sequence up to the start of the shutdown unit -/

/-- The steps of the sequence before the shutdown unit starts. -/
def SequenceStep.closes : SequenceStep → Bool
  | .shutdown => false
  | _ => true

theorem sequenceStep_rested {x : SequenceStep} {s : State} (hx : x.closes = true) (h : s.Rested) :
    (sequenceStep x s).Rested := by
  cases x with
  | shift => exact h.of_same ((restartShift_moves s).same .points) ((restartShift_moves s).same .inlets)
  | close x => exact interrupt_rested h
  | shutdown => cases hx

theorem sequenceStep_stored {x : SequenceStep} {s : State} (hx : x.closes = true) (h : s.EntriesStored) :
    (sequenceStep x s).EntriesStored := by
  cases x with
  | shift => exact EntriesStored.restartShift h
  | close x => exact EntriesStored.interrupt h x
  | shutdown => cases hx

/-- What each step of a list keeps, the list keeps. -/
theorem forEach_induction {α : Type} {P : State → Prop} {f : α → State → State} {xs : List α}
    (h : ∀ x ∈ xs, ∀ s, P s → P (f x s)) {s : State} (hs : P s) : P (forEach xs f s) := by
  induction xs generalizing s with
  | nil => exact hs
  | cons x xs ih => exact ih (fun y hy => h y (by simp [hy])) (h x (by simp) s hs)

theorem forEach_append {α : Type} (xs ys : List α) (f : α → State → State) (s : State) :
    forEach (xs ++ ys) f s = forEach ys f (forEach xs f s) := List.foldl_append ..

theorem forEach_map {α β : Type} (g : α → β) (xs : List α) (f : β → State → State) (s : State) :
    forEach (xs.map g) f s = forEach xs (fun x => f (g x)) s := List.foldl_map ..

/-- R200: the state once every operation that was open has been closed. -/
def State.interrupted (s : State) : State := forEach s.toClose interrupt (restartShift s)

theorem forEach_sequence (s : State) : forEach s.sequence sequenceStep s = startShutdown s.interrupted := by
  rw [sequence_eq]
  change forEach (s.toClose.map .close ++ [.shutdown]) sequenceStep (restartShift s) = _
  rw [forEach_append, forEach_map]
  rfl

theorem interrupted_opened (s : State) (x : OpenOperation) : s.interrupted.opened x = false := by
  have shift := restartShift_moves s
  have same : (restartShift s).opened x = s.opened x := by
    cases x
    · simp only [State.opened, point_of_points (shift.same .points)]
    · simp only [State.opened, inlet_of_inlets (shift.same .inlets)]
  rw [State.interrupted, forEach_interrupt_opened, same]
  simp [mem_toClose]

theorem interrupted_order (s : State) (p : PointId) : (s.interrupted.point p).order = none :=
  Option.not_isSome_iff_eq_none.1 (by simpa [State.opened] using interrupted_opened s (.order p))

theorem interrupted_delivery (s : State) (i : InletId) : (s.interrupted.inlet i).delivery = none :=
  Option.not_isSome_iff_eq_none.1 (by simpa [State.opened] using interrupted_opened s (.delivery i))

theorem interrupted_rested {s : State} (h : s.Rested) : s.interrupted.Rested :=
  forEach_invariant (P := State.Rested) _ _ (fun _ _ => interrupt_rested) _ (sequenceStep_rested (x := .shift) rfl h)

theorem interrupted_stored {s : State} (h : s.EntriesStored) : s.interrupted.EntriesStored :=
  forEach_invariant (P := State.EntriesStored) _ _ (fun x _ h => EntriesStored.interrupt h x) _ (EntriesStored.restartShift h)

/-! ## Units with nothing open -/

/-- Every unit is at rest, and no operation is open. -/
def State.Empty (s : State) : Prop :=
  s.Rested ∧ (∀ p, (s.point p).order = none) ∧ ∀ i, (s.inlet i).delivery = none

/-- The laws on the units hold where nothing is open. -/
theorem State.Empty.law {s : State} (h : s.Empty) :
    Law.units.holds s ∧ (∀ p, (s.point p).Metered) ∧ (∀ i, (s.inlet i).Metered) ∧ s.TripsBut ∅ ∅ := by
  obtain ⟨rested, orders, deliveries⟩ := h
  refine ⟨⟨fun p => ?_, fun i => ?_, rested.identTimersFit⟩, fun p some => ?_, fun i some => ?_,
    fun p _ _ some => ?_, fun i _ d hd => ?_, rested.identTimersFit⟩
  · obtain ⟨state, valve, working, -⟩ := rested.1 p
    rcases state with state | state <;> simp [PointUnit.FitsButMeter, state, orders p, working, valve]
  · obtain ⟨state, valve, working⟩ := rested.2 i
    simp [InletUnit.FitsButMeter, state, deliveries i, working, valve]
  · rw [orders p] at some; cases some
  · rw [deliveries i] at some; cases some
  · rw [orders p] at some; cases some
  · rw [deliveries i] at hd; cases hd

/-- The first law, the fifth law and the ident timers: what a restart makes anew. -/
def State.Anew (s : State) : Prop := s.UnitsFit ∧ s.TripsStop ∧ s.FlagsHeld ∧ s.IdentTimersFit

theorem anew_of_moves {s t : State} {K : List Part} (h : s.Empty) (moves : Moves K ∅ s t) : t.Anew := by
  obtain ⟨units, metered, inletMetered, trips⟩ := h.law
  have fit : Law.units.holds t := moves.law .units (Set.notMem_empty _) units
  refine ⟨fun _ => ⟨fun p => ?_, fun i => ?_⟩, (tripsBut_iff fit.1).2 (moves.law (.trips ∅ ∅) (Set.notMem_empty _) trips)⟩
  · exact (PointUnit.fitsState_iff _).2 ⟨fit.1 p, moves.law (.pointMetered p) (Set.notMem_empty _) (metered p)⟩
  · exact (InletUnit.fitsState_iff _).2 ⟨fit.2.1 i, moves.law (.inletMetered i) (Set.notMem_empty _) (inletMetered i)⟩

theorem stopController_anew {s : State} (h : s.TripsStop ∧ s.FlagsHeld ∧ s.IdentTimersFit) : (stopController s).Anew := by
  obtain ⟨⟨points, inlets⟩, flags, idents⟩ := h
  refine ⟨fun run => absurd run (by simp [State.Running, stopController]), ⟨fun p set => ?_, fun i d hd tripped => ?_⟩,
    fun i d hd going => ?_, fun p set => ?_⟩
  · rw [stopController_point]; exact points p set
  · rw [stopController_inlet] at hd ⊢; exact inlets i d hd tripped
  · rw [stopController_inlet] at hd going; exact flags i d hd going
  · rw [stopController_point] at set ⊢; exact idents p set

end Sys2Proof.Machine

/-! # A whole restart: the laws it keeps and those it makes anew -/

namespace Sys2Proof.Machine

open Sys2Proof

/-! ## The sequence, whole or cut -/

section
variable {pre : List SequenceStep} {cause : RestartCause} {check : MemoryCheck} {n : Nat} {link : Option Link} {s : State}

/-- A sequence cut short is cut before the shutdown unit starts, or is whole. -/
theorem take_sequence (pre : List SequenceStep) (n : Nat) :
    (∃ m, (pre ++ [SequenceStep.shutdown]).take n = pre.take m) ∨ (pre ++ [SequenceStep.shutdown]).take n = pre ++ [.shutdown] := by
  rcases Nat.lt_or_ge pre.length n with h | h
  · exact .inr (List.take_of_length_le (by simp; omega))
  · exact .inl ⟨n, List.take_append_of_le_length h⟩

theorem forEach_shutdown (pre : List SequenceStep) (s : State) :
    forEach (pre ++ [.shutdown]) sequenceStep s = startShutdown (forEach pre sequenceStep s) := forEach_append ..

theorem runSequence_law {x : Law} {events : List SequenceStep} (hx : x ∉ restartHoles) (h : x.holds s) :
    x.holds (runSequence events cause check n link s) := by
  have taken (events : List SequenceStep) : x.holds (forEach events sequenceStep s) :=
    (Moves.forEach _ _ (fun y _ s => sequenceStep_moves y s) s).law x hx h
  unfold runSequence
  split
  · exact (recordRestart_moves ..).law x (Set.notMem_empty x) (taken events)
  · exact stopController_law hx (taken _)

/-- R200: whatever is taken of the sequence, the units are as the laws have them. -/
theorem runSequence_anew (closes : ∀ x ∈ pre, x.closes = true) (rested : s.Rested)
    (empty : (forEach pre sequenceStep s).Empty) :
    (runSequence (pre ++ [.shutdown]) cause check n link s).Anew := by
  have whole := startShutdown_moves (forEach pre sequenceStep s)
  unfold runSequence
  split
  · rw [forEach_shutdown]
    exact anew_of_moves empty (whole.andThen (recordRestart_moves ..))
  · next m _ =>
    rcases take_sequence pre m with ⟨m', e⟩ | e <;> rw [e]
    · have kept : (forEach (pre.take m') sequenceStep s).Rested :=
        forEach_induction (P := State.Rested)
          (fun x hx _ => sequenceStep_rested (closes x (List.mem_of_mem_take hx))) rested
      exact stopController_anew kept.tripsStop
    · rw [forEach_shutdown]
      exact stopController_anew (anew_of_moves empty whole).2

theorem EntriesStored.stopController {s : State} (h : s.EntriesStored) : (stopController s).EntriesStored := by
  obtain ⟨chains, orders, records⟩ := h
  refine ⟨chains, fun p o ho => ?_, records⟩
  rw [stopController_point] at ho
  exact orders p o ho

/-- R200: whatever is taken of the sequence, the second law holds after it. -/
theorem runSequence_entries (closes : ∀ x ∈ pre, x.closes = true) (stored : s.EntriesStored)
    (empty : (forEach pre sequenceStep s).Empty) (run : (forEach pre sequenceStep s).Running) :
    (runSequence (pre ++ [.shutdown]) cause check n link s).EntriesKept := by
  have taken (m : Nat) : (forEach (pre.take m) sequenceStep s).EntriesStored :=
    forEach_induction (P := State.EntriesStored)
      (fun x hx _ => sequenceStep_stored (closes x (List.mem_of_mem_take hx))) stored
  have all : (forEach pre sequenceStep s).EntriesStored :=
    forEach_induction (P := State.EntriesStored) (fun x hx _ => sequenceStep_stored (closes x hx)) stored
  have whole : Law.entries.holds (startShutdown (forEach pre sequenceStep s)) :=
    (startShutdown_moves _).law .entries (Set.notMem_empty _) ⟨run, all.kept (.inl empty.2.1)⟩
  have stops {t : State} (h : t.EntriesStored) : (Machine.stopController t).EntriesKept :=
    (EntriesStored.stopController h).kept (.inr (by simp [State.Running, Machine.stopController]))
  unfold runSequence
  split
  · rw [forEach_shutdown]
    exact ((recordRestart_moves ..).law .entries (Set.notMem_empty _) whole).2
  · next m _ =>
    rcases take_sequence pre m with ⟨m', e⟩ | e <;> rw [e]
    · exact stops (taken m')
    · rw [forEach_shutdown]
      exact stops whole.2.stored

end

/-! ## A valid image (R200) -/

section
variable {cause : RestartCause} {check : MemoryCheck} {link : Option Link}

theorem restartKept_eq (cause : RestartCause) (check : MemoryCheck) (link : Option Link) (s : State) :
    restartKept cause check link s =
      runSequence (restartBlocks check (restartBegun check s)).sequence cause check
        (restartBlocks check (restartBegun check s)).openOperations.length link
        (restartBlocks check (restartBegun check s)) := rfl

/-- R200: the events of the sequence before the shutdown unit starts. -/
def State.closing (s : State) : List SequenceStep := .shift :: s.toClose.map .close

theorem sequence_closing (s : State) : s.sequence = s.closing ++ [.shutdown] := sequence_eq s

theorem closing_closes (s : State) : ∀ x ∈ s.closing, x.closes = true := by
  intro x hx
  rcases List.mem_cons.1 hx with rfl | hx
  · rfl
  · obtain ⟨y, -, rfl⟩ := List.mem_map.1 hx
    rfl

theorem forEach_closing (s : State) : forEach s.closing sequenceStep s = s.interrupted := forEach_map ..

theorem interrupted_empty {s : State} (h : s.Rested) : s.interrupted.Empty :=
  ⟨interrupted_rested h, interrupted_order s, interrupted_delivery s⟩

theorem restartKept_law {x : Law} {s : State} (hx : x ∉ restartHoles) (h : x.holds s) :
    x.holds (restartKept cause check link s) := by
  rw [restartKept_eq]
  exact runSequence_law hx (restartBlocks_law hx h)

theorem restartKept_anew (s : State) : (restartKept cause check link s).Anew := by
  have rested := restartBlocks_rested check (restartBegun check s)
  rw [restartKept_eq, sequence_closing]
  exact runSequence_anew (closing_closes _) rested (by rw [forEach_closing]; exact interrupted_empty rested)

theorem forEach_sequenceStep_moves (events : List SequenceStep) (s : State) :
    Moves allParts restartHoles s (forEach events sequenceStep s) :=
  .forEach _ _ (fun y _ s => sequenceStep_moves y s) s

theorem restartBlocks_moves (check : MemoryCheck) (s : State) :
    Moves allParts (restartHoles ∪ drawLaws) s (restartBlocks check s) :=
  (((restartUnits_moves s).mend _ fun _ hx hn _ => absurd (.inl hx) hn).andThen (restartBlocks_frame check s)).all

theorem restartKept_entries {s : State} (h : s.EntriesKept) : (restartKept cause check link s).EntriesKept := by
  have rested := restartBlocks_rested check (restartBegun check s)
  rw [restartKept_eq, sequence_closing]
  refine runSequence_entries (closing_closes _) (EntriesStored.restartBlocks h.stored check)
    (by rw [forEach_closing]; exact interrupted_empty rested) ?_
  exact (forEach_sequenceStep_moves _ _).running.2 ((restartBlocks_moves check _).running.2 rfl)

/-! ## A lost image (R201) -/

/-- R201: the state from which the sequence starts after a lost image. -/
def State.lost (check : MemoryCheck) (s : State) : State :=
  restartLinks (restartPumps (loseImage (checkStore check s)))

theorem restartLost_eq (s : State) :
    restartLost cause check link s = runSequence ([] ++ [.shutdown]) cause check 0 link (s.lost check) := rfl

theorem lost_point (check : MemoryCheck) (s : State) (p : PointId) :
    (s.lost check).point p = .restarted ((checkStore check s).pointSet p).enabled 0 := look_ofFn ..

theorem lost_inlet (check : MemoryCheck) (s : State) (i : InletId) :
    (s.lost check).inlet i = .restarted ((checkStore check s).inlet i).coupled := look_mapTable ..

theorem lost_empty (check : MemoryCheck) (s : State) : (s.lost check).Empty := by
  refine ⟨⟨fun p => ?_, fun i => ?_⟩, fun p => ?_, fun i => ?_⟩
  · rw [lost_point]; exact PointUnit.restarted_atRest ..
  · rw [lost_inlet]; exact ⟨rfl, rfl, rfl⟩
  · rw [lost_point]; rfl
  · rw [lost_inlet]; rfl

theorem lost_draw (check : MemoryCheck) (s : State) (k : ProductId) : (s.lost check).draw k = ⟨none, none⟩ := look_fill ..

theorem lost_tank (check : MemoryCheck) (s : State) (t : TankId) : (s.lost check).tank t = .lost 0 := look_fill ..

theorem restartLost_anew (s : State) : (restartLost cause check link s).Anew := by
  rw [restartLost_eq]
  exact runSequence_anew (by simp) (lost_empty check s).1 (lost_empty check s)

theorem restartLost_entries {s : State} (h : s.EntriesKept) : (restartLost cause check link s).EntriesKept := by
  rw [restartLost_eq]
  refine runSequence_entries (by simp) ⟨fun k => ⟨?_, fun t ht => ?_⟩, fun p o ho => ?_, fun r hr => ?_⟩
    (lost_empty check s) rfl
  · change (look (checkStore check s).store.products k).chain.length ≤ 4
    unfold checkStore
    split
    · exact (h.1 k).1
    · exact blank_chain_length k
  · rw [lost_draw] at ht; cases ht
  · rw [(lost_empty check s).2.1 p] at ho; cases ho
  · cases hr

/-- R201: the laws that a lost image keeps; the clock goes back to 0. -/
theorem restartLost_law {x : Law} {s : State} (hx : x ∉ restartHoles) (unclocked : ∀ n, x ≠ .clockFrom n)
    (h : x.holds s) : x.holds (restartLost cause check link s) := by
  rw [restartLost_eq]
  refine runSequence_law hx ?_
  have links := restartLinks_moves (restartPumps (loseImage (checkStore check s)))
  have pumps := restartPumps_moves (loseImage (checkStore check s))
  have outside := pumps.andThen links
  cases x <;> simp [restartHoles, Law.remade] at hx unclocked
  case starting =>
    refine outside.law .starting (Set.notMem_empty _) ?_
    unfold checkStore
    split <;> exact h
  case reserve =>
    have none := (lost_empty check s).2
    have journal : (s.lost check).journal = .lost := rfl
    refine ⟨?_, by rw [journal]; decide, fun _ => by rw [journal]; decide⟩
    rw [openOperations_length, journal]
    simp only [none.1, none.2]
    rfl
  case draws B =>
    refine ⟨fun t pending => ?_, fun k t ht => ?_, fun k t ht => ?_, fun k _ t ht => ?_⟩
    · rw [lost_tank] at pending; cases pending
    · change t ∈ (look (checkStore check s).store.products k).chain at ht
      change (look (checkStore check s).store.tanks t).product = k
      unfold checkStore at ht ⊢
      split at ht
      · next valid => rw [if_pos valid]; exact h.2.1 k t ht
      · next blank => rw [if_neg blank]; exact blank_chains k t ht
    · rw [lost_draw] at ht; cases ht
    · rw [lost_draw] at ht; cases ht
  case ordered => exact ⟨List.Pairwise.nil, Nat.zero_le _⟩
  case named => exact ⟨⟨List.Pairwise.nil, Nat.zero_le _⟩, Nat.zero_le _, List.Pairwise.nil, nofun⟩
  case hours a => exact ⟨nofun, nofun⟩
  case configure =>
    exact checkStore_law (x := .configure) (by simp [restartHoles, Law.remade]) (.inl (by simp [drawLaws])) h
  case queues =>
    refine outside.law .queues (Set.notMem_empty _) ?_
    unfold checkStore
    split <;> exact h
  case log => exact Nat.zero_le _

/-! ## Either restart -/

theorem restart_anew (s : State) : (restart cause check link s).Anew := by
  unfold restart
  split <;> [exact restartKept_anew s; exact restartLost_anew s]

theorem restart_entries {s : State} (h : s.EntriesKept) : (restart cause check link s).EntriesKept := by
  unfold restart
  split <;> [exact restartKept_entries h; exact restartLost_entries h]

theorem restart_law {x : Law} {s : State} (hx : x ∉ restartHoles)
    (clocked : check.imageValid = true ∨ ∀ n, x ≠ .clockFrom n) (h : x.holds s) :
    x.holds (restart cause check link s) := by
  unfold restart
  split
  · exact restartKept_law hx h
  · next lost => exact restartLost_law hx (clocked.resolve_left lost) h

theorem runSequence_pending (events : List SequenceStep) (n : Nat) (s : State) :
    (runSequence events cause check n link s).pending = s.pending := by
  unfold runSequence
  split
  · exact (recordRestart_moves ..).pending.trans (forEach_sequenceStep_moves ..).pending
  · exact (forEach_sequenceStep_moves _ s).pending

theorem checkStore_pending (check : MemoryCheck) (s : State) : (checkStore check s).pending = s.pending := by
  unfold checkStore
  split <;> rfl

theorem restart_pending (s : State) : (restart cause check link s).pending = s.pending := by
  unfold restart
  split
  · rw [restartKept_eq, runSequence_pending]
    exact (restartBlocks_moves check _).pending.trans (checkStore_pending check s)
  · rw [restartLost_eq, runSequence_pending]
    exact checkStore_pending check s

end

end Sys2Proof.Machine

/-! # The laws of the device over every step -/

namespace Sys2Proof.Machine

open Sys2Proof

/-! ## A controller that is stopped (R199, log entry 7) -/

/-- What the level of a line changes while the controller is stopped. -/
structure Follows (s t : State) : Prop where
  moves : Moves [.pumps, .inlets, .shutdownRest] ∅ s t
  inlets : ∀ i, (t.inlet i).state = (s.inlet i).state ∧ (t.inlet i).delivery = (s.inlet i).delivery

theorem Follows.refl (s : State) : Follows s s := ⟨.refl .., fun _ => ⟨rfl, rfl⟩⟩

theorem Follows.of_moves {K : List Part} {s t : State} (moves : Moves K ∅ s t) (line : K ⊆ [.pumps, .shutdownRest]) :
    Follows s t := by
  refine ⟨moves.mono fun x hx => ?_, fun i => ?_⟩
  · rcases List.mem_cons.1 (line hx) with rfl | hx
    · simp
    · rw [List.mem_singleton.1 hx]; simp
  · have inlets : t.inlets = s.inlets := moves.frame .inlets fun h => by
      have := line h; simp at this
    rw [inlet_of_inlets inlets]
    exact ⟨rfl, rfl⟩

theorem followCoupled_follows (i : InletId) (level : Bool) (s : State) : Follows s (followCoupled i level s) := by
  refine ⟨(followCoupled_moves i level s).mono (by decide), fun j => ?_⟩
  rw [show (followCoupled i level s).inlet j = if i = j then _ else _ from inlet_updInlet ..]
  split
  · next e => subst e; exact ⟨rfl, rfl⟩
  · exact ⟨rfl, rfl⟩

/-- Log entry 7: a stopped controller passes over every command, but that it follows the levels of the lines. -/
theorem exec_stopped {i : Instr} {s : State} (stopped : s.bay.stopped = true) (other : isRestart i = false) :
    ∃ t, exec i s = .next t ∧ (t = s ∨ takenWhileStopped i = true ∧ Follows s t) := by
  have passes (f : State → State) : whileRunning f s = s := if_pos stopped
  have follows (follow event : State → State) : takeLine follow event s = follow s := if_pos stopped
  have line {t u : State} (e : u = t) (h : Follows s t) : Follows s u := e ▸ h
  cases i
  case powerOn => cases other
  case requestedRestart => cases other
  case supplyReturn => cases other
  case supplyDip => cases other
  case pumpFaultActive m =>
    exact ⟨_, rfl, .inr ⟨rfl, line (follows _ _) (.of_moves (followFault_moves ..) (by decide))⟩⟩
  case pumpFaultInactive m =>
    exact ⟨_, rfl, .inr ⟨rfl, line (follows _ _) (.of_moves (followFault_moves ..) (by decide))⟩⟩
  case supplyReadyActive =>
    exact ⟨_, rfl, .inr ⟨rfl, line (follows _ _) (.of_moves (setSupplyReady_moves ..) (by decide))⟩⟩
  case supplyReadyInactive =>
    exact ⟨_, rfl, .inr ⟨rfl, line (follows _ _) (.of_moves (setSupplyReady_moves ..) (by decide))⟩⟩
  case inletCoupledActive n => exact ⟨_, rfl, .inr ⟨rfl, line (follows _ _) (followCoupled_follows ..)⟩⟩
  case inletCoupledInactive n => exact ⟨_, rfl, .inr ⟨rfl, line (follows _ _) (followCoupled_follows ..)⟩⟩
  case lineInputChange x level =>
    exact ⟨_, rfl, .inr ⟨rfl, line (follows _ _) (.of_moves (updDebounced_moves ..) (by decide))⟩⟩
  case estopChange level =>
    exact ⟨_, rfl, .inr ⟨rfl, line (follows _ _) (.of_moves (followEstop_moves ..) (by decide))⟩⟩
  all_goals exact ⟨_, rfl, .inl (passes _)⟩

/-! ## The commands that stop or start the controller -/

/-- What a command that stops or starts the controller leaves. -/
inductive Restarted (s : State) : Option MemoryCheck → State → Prop where
  | passed : Restarted s none s
  | dipped (run : s.Running) : Restarted s none (stopController s)
  | restarted (cause : RestartCause) (check : MemoryCheck) (link : Option Link) (n : Nat) (later : s.clock ≤ n) :
      Restarted s (some check) (restart cause check link { s with clock := n })

/-- The check of the memory that a restart makes. -/
def memoryCheck : Instr → Option MemoryCheck
  | .powerOn check _ | .requestedRestart _ check | .supplyReturn check => some check
  | _ => none

theorem exec_restarted {i : Instr} {s : State} (restarts : isRestart i = true) :
    ∃ t check, exec i s = .next t ∧ Restarted s check t ∧ (check.isSome → check = memoryCheck i) := by
  have begun (cause : RestartCause) (check : MemoryCheck) (link : Option Link) :
      Restarted s (some check) (restart cause check link s) := .restarted cause check link s.clock le_rfl
  cases i
  case powerOn check off => exact ⟨_, _, rfl, .restarted .powerOn check none _ (Nat.le_add_right ..), fun _ => rfl⟩
  case supplyDip =>
    refine ⟨_, none, rfl, ?_, nofun⟩
    unfold whileRunning
    split
    · exact .passed
    · next run => exact .dipped (Bool.eq_false_iff.2 run)
  case requestedRestart l check =>
    refine ⟨_, if s.bay.stopped = false ∧ (s.link l).restartOwed = .over then some check else none, rfl, ?_, ?_⟩
    · unfold whileRunning requestedRestartEvent
      cases s.bay.stopped
      · by_cases owed : (s.link l).restartOwed = .over
        · simpa [owed] using begun .request check (some l)
        · simpa [owed] using Restarted.passed
      · simpa using Restarted.passed
    · split
      · exact fun _ => rfl
      · nofun
  case supplyReturn check =>
    refine ⟨_, if s.bay.stopped then some check else none, rfl, ?_, ?_⟩
    · unfold supplyReturnEvent
      split
      · exact begun .supplyDip check none
      · exact .passed
    · split
      · exact fun _ => rfl
      · nofun
  all_goals cases restarts

theorem Restarted.pending {s t : State} {check : Option MemoryCheck} (h : Restarted s check t) : t.pending = s.pending := by
  cases h with
  | passed => rfl
  | dipped => rfl
  | restarted => exact restart_pending _

theorem clock_law {x : Law} {s : State} {n : Nat} (h : x.holds s) (later : s.clock ≤ n) :
    x.holds { s with clock := n } := by
  cases x <;> first | exact h | exact Nat.le_trans h later

theorem Restarted.law {x : Law} {s t : State} {check : Option MemoryCheck} (h : Restarted s check t)
    (hx : x ∉ restartHoles) (clocked : check.all (·.imageValid) ∨ ∀ n, x ≠ .clockFrom n) (hs : x.holds s) : x.holds t := by
  cases h with
  | passed => exact hs
  | dipped => exact stopController_law hx hs
  | restarted cause check link n later => exact restart_law hx (clocked.imp_left (by simp)) (clock_law hs later)

/-! ## A step -/

theorem idle_moves (s : State) : Moves [.clock] ∅ s (idle s) :=
  .of_frame rfl rfl (fun x hx => by cases x <;> simp [Part.same, idle] at hx ⊢) fun x _ touched hs => by
    cases x <;> simp [Law.parts] at touched
    case clockFrom n => exact Nat.le_succ_of_le hs

theorem pending_law {x : Law} {s : State} (rest : List Instr) (h : x.holds s) : x.holds { s with pending := rest } := by
  cases x <;> exact h

/-- The tenth law, of every account. -/
def hourLaws : Set Law := {x | ∃ a, x = .hours a}

/-- A law that is not on the units, the fifth or the tenth is kept by every command. -/
theorem exec_law {x : Law} {i : Instr} {s t : State} (hx : x ∉ restartHoles) (hours : x ∉ hourLaws)
    (unclocked : ∀ n, x ≠ .clockFrom n) (fit : x = .reserve → s.Running → s.UnitsStand) (run : exec i s = .next t)
    (hs : x.holds s) : x.holds t := by
  by_cases restarts : isRestart i = true
  · obtain ⟨t', check, e, restarted, -⟩ := exec_restarted (s := s) restarts
    cases (e.symm.trans run)
    exact restarted.law hx (.inr unclocked) hs
  · have stand (free : Set Law) (h : x ∉ free) (hfree : s.Running → s.FitFor free) (all : hourLaws ⊆ free) : x.holds t := by
      obtain ⟨t', e, moves⟩ := exec_moves (Bool.eq_false_iff.2 restarts) hfree fun m _ y hy =>
        all (by obtain ⟨a, -, rfl⟩ := hy; exact ⟨a, rfl⟩)
      cases (e.symm.trans run)
      exact moves.law x h hs
    by_cases reserve : x = .reserve
    · exact stand hourLaws hours (fun run => .inl (fit reserve run)) (subset_refl _)
    · refine stand (fitLaws ∪ hourLaws) ?_ (fun _ => .inr Set.subset_union_left) Set.subset_union_right
      rintro ((rfl | ⟨P, I, rfl⟩) | h)
      · exact reserve rfl
      · exact hx rfl
      · exact hours h

theorem step_law {x : Law} {s t : State} (hx : x ∉ restartHoles) (hours : x ∉ hourLaws)
    (unclocked : ∀ n, x ≠ .clockFrom n) (fit : x = .reserve → s.Running → s.UnitsStand) (run : step s = .next t)
    (hs : x.holds s) : x.holds t := by
  unfold step at run
  split at run
  · cases run
    exact (idle_moves s).law x (Set.notMem_empty x) hs
  · next rest _ => exact exec_law (s := { s with pending := rest }) hx hours unclocked fit run (pending_law rest hs)

end Sys2Proof.Machine

/-! # The laws of the device (O8, O10 to O20) -/

namespace Sys2Proof.Machine

open Sys2Proof

/-! ## The laws that are kept as they stand (O12, O14 to O19) -/

theorem State.UnitsFit.stand {s : State} (h : s.UnitsFit) (run : s.Running) : s.UnitsStand :=
  ⟨fun p => ((PointUnit.fitsState_iff _).1 ((h run).1 p)).1, fun i => ((InletUnit.fitsState_iff _).1 ((h run).2 i)).1⟩

/-- Settles O12, by the fourth law of the operations: a chain check mends what a tank's change has broken. -/
theorem drawsServeKept : Obligations.DrawsServeKept := fun s t h _ run =>
  (drawsServe_iff t).2 (step_law (x := .draws ∅) (by simp [restartHoles, Law.remade]) (by simp [hourLaws]) nofun nofun run
    ((drawsServe_iff s).1 h))

/-- Settles O14: a pump starts only where none is STARTING. -/
theorem oneStartingKept : Obligations.OneStartingKept := fun _ _ h run =>
  step_law (x := .starting) (by simp [restartHoles, Law.remade]) (by simp [hourLaws]) nofun nofun run h

/-- Settles O15: openings, closes, adjustments and releases move the counts together. -/
theorem reserveKept : Obligations.ReserveKept := fun _ _ h fit run =>
  step_law (x := .reserve) (by simp [restartHoles, Law.remade]) (by simp [hourLaws]) nofun (fun _ => fit.stand) run h

/-- Settles O16. -/
theorem accountsOrderedKept : Obligations.AccountsOrderedKept := fun _ _ h run =>
  step_law (x := .ordered) (by simp [restartHoles, Law.remade]) (by simp [hourLaws]) nofun nofun run h

/-- Settles O17. -/
theorem deferredNamedKept : Obligations.DeferredNamedKept := fun _ _ h ordered run =>
  (step_law (x := .named) (by simp [restartHoles, Law.remade]) (by simp [hourLaws]) nofun nofun run ⟨ordered, h⟩).2

/-- Settles O18: SET_PERMISSIONS refuses the last CONFIGURE, and a blank store gives it to every link. -/
theorem configureKept : Obligations.ConfigureKept := fun _ _ h run =>
  step_law (x := .configure) (by simp [restartHoles, Law.remade]) (by simp [hourLaws]) nofun nofun run h

/-- Settles O19. -/
theorem queuesBoundedKept : Obligations.QueuesBoundedKept := fun _ _ h run =>
  ⟨step_law (x := .queues) (by simp [restartHoles, Law.remade]) (by simp [hourLaws]) nofun nofun run h.1,
    step_law (x := .log) (by simp [restartHoles, Law.remade]) (by simp [hourLaws]) nofun nofun run h.2⟩

/-! ## The laws on the units (O10, O11, O13) -/

/-- A command that a running controller takes, where the rows of the tables stand, keeps every law but the tenth. -/
theorem exec_running {i : Instr} {s t : State} (other : ¬isRestart i = true) (fit : s.UnitsStand)
    (run : exec i s = .next t) : Moves allParts hourLaws s t := by
  obtain ⟨t', e, moves⟩ := exec_moves (Bool.eq_false_iff.2 other) (H := hourLaws) (fun _ => .inl fit) fun m _ y hy => by
    obtain ⟨a, -, rfl⟩ := hy; exact ⟨a, rfl⟩
  cases (e.symm.trans run)
  exact moves

theorem State.UnitsFit.law {s : State} (h : s.UnitsFit) (idents : s.IdentTimersFit) (run : s.Running) :
    Law.units.holds s ∧ (∀ p, (s.point p).Metered) ∧ ∀ i, (s.inlet i).Metered :=
  ⟨⟨(h.stand run).1, (h.stand run).2, idents⟩, fun p => ((PointUnit.fitsState_iff _).1 ((h run).1 p)).2,
    fun i => ((InletUnit.fitsState_iff _).1 ((h run).2 i)).2⟩

theorem unitsFit_of_moves {s t : State} (moves : Moves allParts hourLaws s t) (units : Law.units.holds s)
    (metered : ∀ p, (s.point p).Metered) (inletMetered : ∀ i, (s.inlet i).Metered) : t.UnitsFit ∧ t.IdentTimersFit := by
  have fit : Law.units.holds t := moves.law .units (by simp [hourLaws]) units
  exact ⟨fun _ => ⟨fun p => (PointUnit.fitsState_iff _).2 ⟨fit.1 p, moves.law (.pointMetered p) (by simp [hourLaws]) (metered p)⟩,
    fun i => (InletUnit.fitsState_iff _).2 ⟨fit.2.1 i, moves.law (.inletMetered i) (by simp [hourLaws]) (inletMetered i)⟩⟩,
    fit.2.2⟩

theorem Follows.stays_stopped {s t : State} (h : Follows s t) (stopped : s.bay.stopped = true) : ¬t.Running := by
  rw [State.Running, h.moves.stopped, stopped]; decide

theorem exec_unitsFit {i : Instr} {s t : State} (h : s.UnitsFit ∧ s.IdentTimersFit) (run : exec i s = .next t) :
    t.UnitsFit ∧ t.IdentTimersFit := by
  by_cases restarts : isRestart i = true
  · obtain ⟨t', check, e, restarted, -⟩ := exec_restarted (s := s) restarts
    cases (e.symm.trans run)
    cases restarted with
    | passed => exact h
    | dipped => exact ⟨fun run => absurd run (by simp [State.Running, stopController]), fun p set => by
        rw [stopController_point] at set ⊢; exact h.2 p set⟩
    | restarted cause check link n _ => exact ⟨(restart_anew _).1, (restart_anew _).2.2.2⟩
  · by_cases stopped : s.bay.stopped = true
    · obtain ⟨t', e, same | ⟨-, follows⟩⟩ := exec_stopped stopped (Bool.eq_false_iff.2 restarts)
      · cases (e.symm.trans run); rw [same]; exact h
      · cases (e.symm.trans run)
        refine ⟨fun run => absurd run (follows.stays_stopped stopped), ?_⟩
        rw [State.IdentTimersFit, point_of_points (follows.moves.same .points)]
        exact h.2
    · obtain ⟨units, metered, inletMetered⟩ := h.1.law h.2 (Bool.eq_false_iff.2 stopped)
      exact unitsFit_of_moves (exec_running restarts ⟨units.1, units.2.1⟩ run) units metered inletMetered

/-- Settles O10: while the controller runs every operation keeps the rows of the tables, and a restart makes them anew. -/
theorem unitsFitKept : Obligations.UnitsFitKept := by
  intro s t h run
  unfold step at run
  split at run
  · cases run; exact h
  · next rest _ => exact exec_unitsFit (s := { s with pending := rest }) h run

theorem exec_entries {i : Instr} {s t : State} (h : s.EntriesKept) (run : exec i s = .next t) : t.EntriesKept := by
  by_cases restarts : isRestart i = true
  · obtain ⟨t', check, e, restarted, -⟩ := exec_restarted (s := s) restarts
    cases (e.symm.trans run)
    cases restarted with
    | passed => exact h
    | dipped => exact (EntriesStored.stopController h.stored).kept (.inr (by simp [State.Running, stopController]))
    | restarted cause check link n _ => exact restart_entries (s := { s with clock := n }) h
  · by_cases stopped : s.bay.stopped = true
    · obtain ⟨t', e, same | ⟨-, follows⟩⟩ := exec_stopped stopped (Bool.eq_false_iff.2 restarts)
      · cases (e.symm.trans run); rw [same]; exact h
      · cases (e.symm.trans run)
        obtain ⟨chains, orders, records⟩ := h.stored
        refine State.EntriesStored.kept ⟨chains.of_same (follows.moves.same .draws) (follows.moves.same .products), ?_, ?_⟩
          (.inr (follows.stays_stopped stopped))
        · rw [point_of_points (follows.moves.same .points)]; exact orders
        · rw [show t.journal = s.journal from follows.moves.same .journal]; exact records
    · obtain ⟨t', e, moves⟩ := exec_moves (H := fitLaws ∪ hourLaws) (Bool.eq_false_iff.2 restarts)
        (fun _ => .inr Set.subset_union_left) fun m _ y hy => by obtain ⟨a, -, rfl⟩ := hy; exact .inr ⟨a, rfl⟩
      cases (e.symm.trans run)
      exact (moves.law .entries (by simp [fitLaws, tripLaws, hourLaws]) ⟨Bool.eq_false_iff.2 stopped, h⟩).2

/-- Settles O11: an order draws from tanks of its product's chain, and a restart closes every order. -/
theorem entriesKeptByStep : Obligations.EntriesKeptByStep := by
  intro s t h run
  unfold step at run
  split at run
  · cases run; exact h
  · next rest _ => exact exec_entries (s := { s with pending := rest }) h run

theorem exec_trips {i : Instr} {s t : State} (h : s.TripsStop ∧ s.FlagsHeld ∧ s.IdentTimersFit) (fit : s.UnitsFit)
    (run : exec i s = .next t) : t.TripsStop ∧ t.FlagsHeld ∧ t.IdentTimersFit := by
  by_cases restarts : isRestart i = true
  · obtain ⟨t', check, e, restarted, -⟩ := exec_restarted (s := s) restarts
    cases (e.symm.trans run)
    cases restarted with
    | passed => exact h
    | dipped => exact (stopController_anew h).2
    | restarted cause check link n _ => exact (restart_anew _).2
  · by_cases stopped : s.bay.stopped = true
    · obtain ⟨t', e, same | ⟨-, follows⟩⟩ := exec_stopped stopped (Bool.eq_false_iff.2 restarts)
      · cases (e.symm.trans run); rw [same]; exact h
      · cases (e.symm.trans run)
        obtain ⟨⟨points, inlets⟩, flags, idents⟩ := h
        have same := follows.moves
        refine ⟨⟨?_, fun j d hd tripped => ?_⟩, fun j d hd going => ?_, ?_⟩
        · rw [point_of_points (same.same .points), isSet_of_same (same.same .latches)]; exact points
        · rw [tankTripped_of_same (same.same .latches) (same.same .tankSets)] at tripped
          rw [(follows.inlets j).2] at hd
          rw [(follows.inlets j).1]; exact inlets j d hd tripped
        · rw [(follows.inlets j).2] at hd
          rw [(follows.inlets j).1] at going
          exact flags j d hd going
        · rw [State.IdentTimersFit, point_of_points (same.same .points)]; exact idents
    · have running : s.Running := Bool.eq_false_iff.2 stopped
      obtain ⟨units, -, -⟩ := fit.law h.2.2 running
      have moves := exec_running restarts ⟨units.1, units.2.1⟩ run
      exact (tripsBut_iff (moves.law .units (by simp [hourLaws]) units).1).2
        (moves.law (.trips ∅ ∅) (by simp [hourLaws]) ((tripsBut_iff units.1).1 h))

/-- Settles O13: what sets a latch stops what it covers, and nothing goes on toward flow under a set latch. -/
theorem tripsStopKept : Obligations.TripsStopKept := by
  intro s t h fit run
  unfold step at run
  split at run
  · cases run; exact h
  · next rest _ => exact exec_trips (s := { s with pending := rest }) h fit run

/-! ## Hour meters (O20) -/

/-- Settles O20: of a machine whose hour meter no command writes, the closes of its orders store plausible readings. -/
theorem hourMeterNeverFalls : Obligations.HourMeterNeverFalls := by
  intro i s t a b ordered run ha hb same unwritten
  have waits : ∀ e ∈ s.accounts.deferred, e.machine = a.machine → e.change.code ≠ 4 := fun e he hm hc =>
    unwritten (.inr (.inr ⟨e, he, hm, hc⟩))
  have start : s.HoursFrom a := ⟨waits, fun c hc hm x hx => by
    rw [eq_of_mem_table ordered.1 hc ha hm]; exact ⟨x, hx, le_rfl⟩⟩
  have kept : t.HoursFrom a := by
    by_cases restarts : isRestart i = true
    · obtain ⟨t', check, e, restarted, -⟩ := exec_restarted (s := s) restarts
      cases (e.symm.trans run)
      exact restarted.law (x := .hours a) (by simp [restartHoles, Law.remade]) (.inr nofun) start
    · obtain ⟨t', e, moves⟩ := exec_moves (H := fitLaws ∪ {x | ∃ c, c.machine ≠ a.machine ∧ x = .hours c})
        (Bool.eq_false_iff.2 restarts) (fun _ => .inr Set.subset_union_left) fun m hm y hy => by
          obtain ⟨c, rfl, rfl⟩ := hy
          refine .inr ⟨c, fun e => ?_, rfl⟩
          rw [e] at hm
          rcases hm with none | ⟨v, f, rfl, hf, hours⟩ | ⟨l, bytes, key, g, j, rfl, hg, hj, v, f, rfl, hf, hours⟩
          · rw [account_of_mem ordered ha] at none; cases none
          · exact unwritten (.inl ⟨v, f, rfl, hf, hours⟩)
          · exact unwritten (.inr (.inl ⟨l, bytes, key, g, v, f, rfl, hg, hj, hf, hours⟩))
      cases (e.symm.trans run)
      exact moves.law (.hours a) (by simp [fitLaws, tripLaws]) start
  exact kept.2 b hb same.symm

/-! ## Every command gives a next state (O8) -/

theorem exec_completes (i : Instr) (s : State) :
    ∃ t, exec i s = .next t ∧ t.pending = s.pending ∧
      (s.clock ≤ t.clock ∨ ∃ l check n, check.imageValid = false ∧
        (i = .powerOn check n ∨ i = .requestedRestart l check ∨ i = .supplyReturn check)) := by
  have now : Law.holds s (.clockFrom s.clock) := le_rfl
  by_cases restarts : isRestart i = true
  · obtain ⟨t, check, e, restarted, named⟩ := exec_restarted (s := s) restarts
    refine ⟨t, e, restarted.pending, ?_⟩
    by_cases valid : check.all (·.imageValid) = true
    · exact .inl (restarted.law (x := .clockFrom s.clock) (by simp [restartHoles, Law.remade]) (.inl valid) now)
    · right
      cases check with
      | none => exact absurd rfl valid
      | some check =>
        have lost : check.imageValid = false := by simpa using valid
        have which := named rfl
        cases i <;> simp only [memoryCheck, Option.some.injEq, reduceCtorEq] at which
        case powerOn _ n => subst which; exact ⟨0, _, n, lost, .inl rfl⟩
        case requestedRestart l _ => subst which; exact ⟨l, _, 0, lost, .inr (.inl rfl)⟩
        case supplyReturn => subst which; exact ⟨0, _, 0, lost, .inr (.inr rfl)⟩
  · obtain ⟨t, e, moves⟩ := exec_moves (s := s) (H := fitLaws ∪ hourLaws) (Bool.eq_false_iff.2 restarts)
      (fun _ => .inr Set.subset_union_left) fun m _ y hy => by obtain ⟨a, -, rfl⟩ := hy; exact .inr ⟨a, rfl⟩
    exact ⟨t, e, moves.pending, .inl (moves.law (.clockFrom s.clock) (by simp [fitLaws, tripLaws, hourLaws]) now)⟩

/-- Settles O8. -/
theorem everyCommandCompletes : Obligations.EveryCommandCompletes := by
  refine ⟨exec_completes, fun i s stopped untaken => ?_⟩
  have passes (f : State → State) : whileRunning f s = s := if_pos stopped
  by_cases restarts : isRestart i = true
  · cases i
    case supplyDip => exact congrArg Host.Outcome.next (passes _)
    case requestedRestart => exact congrArg Host.Outcome.next (passes _)
    case powerOn => cases untaken
    case supplyReturn => cases untaken
    all_goals cases restarts
  · obtain ⟨t, e, same | ⟨taken, -⟩⟩ := exec_stopped stopped (Bool.eq_false_iff.2 restarts)
    · rw [e, same]
    · rw [taken] at untaken; cases untaken

end Sys2Proof.Machine

/-! # Answers of requests; the status requests, the refusals for want of a permission, and the settings -/

namespace Sys2Proof.Machine

open Sys2Proof

/-! ## A request taken by a controller that is ready (R182, R183) -/

section
variable {v : Via} {code : Nat} {i : Instr} {s t : State} {status : Status} {items : List Item}

theorem request_answered (ready : s.Ready) (awake : wakeBy i s = s) (h : requestAnswer i s = ⟨status, items, t⟩)
    (handed : t.stock.reports = []) (part : carriesParts status items = false ∨ hasPart v items) :
    serveRequest v code i s = answered v (BitVec.ofNat 8 code) status items t := by
  rw [serveRequest_running ready.1, awake]
  refine serve_answered ⟨status, items, t⟩ ?_ part
  simp only [h, Answer.handed, handReports_none handed]

/-- R183: a part that the content does not have. -/
theorem request_beyond (ready : s.Ready) (awake : wakeBy i s = s) (h : requestAnswer i s = ⟨status, items, t⟩)
    (parts : carriesParts status items = true) (beyond : ¬hasPart v items) :
    serveRequest v code i s = answered v (BitVec.ofNat 8 code) .range [] s := by
  rw [serveRequest_running ready.1, awake]
  exact serve_beyond ⟨status, items, handReports t⟩ (by simp only [h, Answer.handed]) parts beyond

/-- A refusal changes nothing but the reply. -/
theorem request_refused (ready : s.Ready) (awake : wakeBy i s = s) (h : requestAnswer i s = refuse status s)
    (untaken : status.taken = false) :
    serveRequest v code i s = answered v (BitVec.ofNat 8 code) status [] s :=
  request_answered ready awake h ready.2 (.inl (by simp [carriesParts, untaken]))

/-- An effect with no content, of a request that names no later part. -/
theorem request_done (ready : s.Ready) (awake : wakeBy i s = s) (zero : partNumber v = 0) (h : requestAnswer i s = done t)
    (handed : t.stock.reports = []) : serveRequest v code i s = answered v (BitVec.ofNat 8 code) .ok [] t :=
  request_answered ready awake h handed (.inr (hasPart_of_zero zero))

/-- R183: a request answered with content, as the part it names stands in the content or not. -/
theorem request_reads (ready : s.Ready) (awake : wakeBy i s = s) (h : requestAnswer i s = ⟨status, items, t⟩)
    (parts : carriesParts status items = true) (handed : t.stock.reports = []) (runs : exec i s = .next (serveRequest v code i s)) :
    (hasPart v items → exec i s = .next (answered v (BitVec.ofNat 8 code) status items t)) ∧
    (¬hasPart v items → exec i s = .next (answered v (BitVec.ofNat 8 code) .range [] s)) :=
  ⟨fun part => by rw [runs, request_answered ready awake h handed (.inr part)],
    fun beyond => by rw [runs, request_beyond ready awake h parts beyond]⟩

end

/-! ## The status requests (O21) -/

theorem numbered_none {n k : Nat} (h : k = 0 ∨ n < k) : numbered n k = none := dif_neg (by omega)

/-- R8: a volume that is not negative, in decilitres, rounded half up. -/
theorem decilitres_toNat (n : Nat) : (decilitres n).toNat = (n + 50000) / 100000 := by
  unfold decilitres
  rw [if_pos (by omega)]
  omega

theorem contains_eq_decide {α : Type} [DecidableEq α] (xs : List α) : xs.contains = fun x => decide (x ∈ xs) := by
  funext x
  simp

theorem secondsLeft_eq (s : State) : s.secondsLeft = fun due => (due - s.clock + 999) / 1000 := rfl

/-- R194: a list whose things are one item each. -/
theorem itemList_single {α : Type} (capacity size : Nat) (f : α → Item) (xs : List α) :
    itemList capacity size (fun x => [f x]) xs = item1 xs.length :: xs.map f ++ [.zeros ((capacity - xs.length) * size)] := by
  rw [itemList, List.map_eq_flatMap]

theorem latch_setKey (key : Bool) (s : State) : (s.setKey key).latch = s.latch := by
  funext x; cases x <;> rfl

theorem debounced_setKey (key : Bool) (s : State) : (s.setKey key).debounced = s.debounced := by
  funext x; cases x <;> rfl

theorem bypass_setKey (key : Bool) (s : State) : (s.setKey key).bypass = s.bypass := by
  funext x; cases x <;> rfl

/-- R166: a latch in SHUTDOWN_STATUS, item by item. -/
theorem latchStatusItems_eq (s : State) : latchStatusItems s = fun x =>
    [item1 (s.latch x).state.code, item1 (s.latch x).causes.length] ++ (s.latch x).causes.map (fun c => item1 c.code) ++
      [ .zeros (4 - (s.latch x).causes.length),
        itemSet (if (possibleInputs x).length ≤ 8 then 1 else 2)
          ((possibleInputs x).map fun y => decide (y ∈ (s.latch x).contributing)),
        .nat 8 (s.latch x).trip, .nat 8 (s.latch x).time ] := by
  funext x
  simp only [latchStatusItems, itemList_single, contains_eq_decide, Nat.mul_one, List.append_assoc, List.cons_append,
    List.nil_append]

/-- Settles O21: each answer is its request's, by the items of its rule. -/
theorem statusRequestsOnlyReply : Obligations.StatusRequestsOnlyReply := by
  intro v s ready left reports
  have answers {i : Instr} {code : Nat} {items : List Item} {t : State} (runs : exec i s = .next (serveRequest v code i s))
      (awake : wakeBy i s = s) (handed : t.stock.reports = []) (h : requestAnswer i s = ⟨.ok, items, t⟩) :
      reports i (BitVec.ofNat 8 code) items t :=
    request_reads ready awake h rfl handed runs
  have refused {i : Instr} {code : Nat} (runs : exec i s = .next (serveRequest v code i s)) (awake : wakeBy i s = s)
      (h : requestAnswer i s = refuse .range s) : exec i s = .next (answered v (BitVec.ofNat 8 code) .range [] s) := by
    rw [runs, request_refused ready awake h rfl]
  refine ⟨fun p => ?_, fun n hn => ?_, ?_, fun i => ?_, fun n hn => ?_, ?_, ?_, fun key => ?_⟩
  · refine answers rfl rfl ready.2 ?_
    change pointStatusRequest (numberOf p) s = _
    simp only [pointStatusRequest, numbered_numberOf, decilitres_toNat]
    rfl
  · exact refused rfl rfl (by change pointStatusRequest n s = _; rw [pointStatusRequest, numbered_none hn])
  · refine answers rfl rfl ready.2 ?_
    change pumpStatusRequest s = _
    simp only [pumpStatusRequest, itemList_single, contains_eq_decide, secondsLeft_eq, Nat.mul_one, List.append_assoc,
      List.cons_append, List.nil_append, left]
  · refine answers rfl rfl ready.2 ?_
    change inletStatusRequest (numberOf i) s = _
    simp only [inletStatusRequest, numbered_numberOf, decilitres_toNat, itemId?, Option.map_map]
    rfl
  · exact refused rfl rfl (by change inletStatusRequest n s = _; rw [inletStatusRequest, numbered_none hn])
  · exact answers rfl rfl ready.2 rfl
  · refine answers rfl rfl ready.2 ?_
    change bayStatusRequest s = _
    simp only [bayStatusRequest, itemList_single, restartItems, itemId?, Journal.reserve, List.append_assoc,
      List.cons_append, List.nil_append]
  · refine answers rfl rfl (t := s.setKey key) ready.2 ?_
    change shutdownStatusRequest (s.setKey key) = _
    simp only [shutdownStatusRequest, latchStatusItems_eq, inputItems, latch_setKey, debounced_setKey, bypass_setKey]
    rfl

/-! ## Refusals for want of a permission (O24) -/

/-- A request of the table is taken on its link under its CODE. -/
theorem exec_request {i : Instr} {v : Via} {code : Nat} (via : viaOf i = some v) (coded : requestCode i = some code)
    (s : State) : exec i s = .next (serveRequest v code i s) := by
  cases i <;> cases via <;> cases coded <;> rfl

/-- R184: the permission is the first check of each request. -/
theorem requestAnswer_lacks {i : Instr} {s : State} (lacks : lacksPermission i s = true) :
    requestAnswer i s = refuse .notPermitted (keyed i s) := by
  cases i
  case setSubscription v f => exact if_pos (by simpa [lacksPermission] using lacks)
  all_goals exact if_pos lacks

theorem wakeBy_lacks {i : Instr} {s : State} (lacks : lacksPermission i s = true) : wakeBy i s = s := by
  cases i <;> first | rfl | cases lacks

theorem keyed_reports (i : Instr) (s : State) : (keyed i s).stock.reports = s.stock.reports := by
  unfold keyed
  split <;> rfl

/-- Settles O24. -/
theorem lackingPermissionRefused : Obligations.LackingPermissionRefused := by
  intro i v code s ready via coded lacks
  rw [exec_request via coded, request_answered ready (wakeBy_lacks lacks) (requestAnswer_lacks lacks)
    (by rw [keyed_reports, ready.2]) (.inl rfl)]

end Sys2Proof.Machine

/-! # Settings, points and inlets written -/

namespace Sys2Proof.Machine

open Sys2Proof

/-! ## Settings not bound to an operation (O25) -/

section
variable {v : Via} {code : Nat} {i : Instr} {s t : State} {allowed : Prop} [Decidable allowed] {status : Status}

/-- A setting written where it is allowed, and refused whole where it is not. -/
theorem request_written (ready : s.Ready) (awake : wakeBy i s = s) (zero : partNumber v = 0)
    (h : requestAnswer i s = if allowed then done t else refuse status s) (untaken : status.taken = false)
    (handed : t.stock.reports = []) (runs : exec i s = .next (serveRequest v code i s)) :
    exec i s = if allowed then .next (answered v (BitVec.ofNat 8 code) .ok [] t)
      else .next (answered v (BitVec.ofNat 8 code) status [] s) := by
  rw [runs]
  split at h
  · next yes => rw [if_pos yes, request_done ready awake zero h handed]
  · next no => rw [if_neg no, request_refused ready awake h untaken]

end

theorem readClassId_val {n : Nat} {c : ClassId} (h : n = c.val) : readClassId n = some c := by
  subst h
  exact dif_pos c.isLt

theorem configureHeld_iff (s : State) (l : Link) (perms : Perms) :
    s.configureHeld l perms = true ↔ perms.configure = true ∨ ∃ m, m ≠ l ∧ (s.perms m).configure = true := by
  simp only [State.configureHeld, List.any_eq_true]
  constructor
  · rintro ⟨m, -, h⟩
    split at h
    · exact .inl h
    · next other => exact .inr ⟨m, other, h⟩
  · rintro (h | ⟨m, other, h⟩)
    · exact ⟨l, mem_allLinks l, by rwa [if_pos rfl]⟩
    · exact ⟨m, mem_allLinks m, by rwa [if_neg other]⟩

/-- R192: the subscription of a link, with the level of its NOTICE line. -/
theorem setSubscriptionRequest_eq {v : Via} {l : Link} {classes : NoticeClasses} {level : Nat} {s : State}
    (allowed : l = v.link ∨ (s.perms v.link).configure = true) :
    setSubscriptionRequest v ⟨numberOf l, some classes, level⟩ s =
      if 1 ≤ level ∧ level ≤ 16 then done { s with
        store := { s.store with
          links := put s.store.links l { look s.store.links l with classes := classes, level := level } }
        links := put s.links l { s.link l with notice := decide (level ≤ (s.link l).queue.length) } }
      else refuse .range s := by
  have permitted : ¬(numberOf l ≠ numberOf v.link ∧ (!(s.perms v.link).configure) = true) := by
    rintro ⟨other, lacks⟩
    rcases allowed with rfl | holds
    · exact other rfl
    · rw [holds] at lacks; cases lacks
  rw [setSubscriptionRequest, if_neg permitted]
  simp only [numbered_numberOf]
  rfl

/-- Settles O25. -/
theorem settingsWritten : Obligations.SettingsWritten := by
  intro v s ready zero
  refine ⟨fun f m configure numbers => ?_, fun f configure => ?_, fun c tenths configure => ?_,
    fun f c accounts numbers => ?_, fun machine => ?_, fun l perms configure => ?_, fun l classes level allowed => ?_⟩
  · refine request_written ready rfl zero (code := 0x61) ?_ rfl ready.2 rfl
    change setPumpRequest v f s = _
    simp only [setPumpRequest, configure, numbers, Bool.not_true, Bool.false_eq_true, if_false]
  · refine request_written ready rfl zero (code := 0x65) ?_ rfl ready.2 rfl
    change setStockTimingRequest v f s = _
    simp only [setStockTimingRequest, configure, Bool.not_true, Bool.false_eq_true, if_false]
  · refine request_written ready rfl zero (code := 0x66) ?_ rfl ready.2 rfl
    change setDebounceRequest v ⟨some c, tenths⟩ s = _
    simp only [setDebounceRequest, configure, Bool.not_true, Bool.false_eq_true, if_false]
  · refine request_written ready rfl zero (code := 0x3A) ?_ rfl ready.2 rfl
    change setClassRequest v f s = _
    simp only [setClassRequest, accounts, readClassId_val numbers, Bool.not_true, Bool.false_eq_true, if_false]
  · refine request_written ready rfl zero (code := 0x32) ?_ rfl ready.2 rfl
    change setCursorRequest v machine s = _
    rw [setCursorRequest]
    by_cases far : 65534 < machine
    · rw [if_pos far, if_neg (by omega)]
    · rw [if_neg far, if_pos (by omega)]; rfl
  · refine request_written ready rfl zero (code := 0x06) ?_ rfl ready.2 rfl
    change setPermissionsRequest v ⟨numberOf l, some perms⟩ s = _
    simp only [setPermissionsRequest, configure, numbered_numberOf, configureHeld_iff, Bool.not_true, Bool.false_eq_true,
      if_false]
    rfl
  · exact request_written ready rfl zero (code := 0x04) (setSubscriptionRequest_eq allowed) rfl ready.2 rfl

/-! ## Points and inlets (O26) -/

theorem meterInRange_iff_deviations (m : MeterSettings) : meterInRange m = true ↔
    (1000 ≤ m.pulseVolume ∧ m.pulseVolume ≤ 1000000) ∧ m.q1 < m.q2 ∧ m.q2 < m.q3 ∧ m.q3 < m.q4 ∧ m.q4 ≤ 2000 ∧
      ∀ d ∈ [m.d1, m.d2, m.d3, m.d4], -300 ≤ d ∧ d ≤ 300 := by
  simp only [meterInRange, Bool.and_eq_true, decide_eq_true_eq, List.forall_mem_cons, List.not_mem_nil,
    IsEmpty.forall_iff, implies_true, and_true]
  omega

theorem numbered_eq_some {n k : Nat} {i : Fin n} : numbered n k = some i ↔ k = numberOf i :=
  ⟨fun h => (numberOf_of_numbered h).symm, fun h => h ▸ numbered_numberOf i⟩

theorem readPoint_iff (f : SetPoint) (new : PointSettings) : readPoint f = some new ↔
    f.enabled = some new.enabled ∧ f.product = numberOf new.product ∧ f.pump = numberOf new.pump ∧
    f.nozzleFitted = some new.nozzleFitted ∧ f.attendance = some new.attendance ∧
    (f.identTime = new.identTime ∧ 1 ≤ new.identTime ∧ new.identTime ≤ 20) ∧
    (f.maxFlow = new.maxFlow ∧ 10 ≤ new.maxFlow ∧ new.maxFlow ≤ 1500) ∧
    (f.noFlowThreshold = new.noFlowThreshold ∧ 1 ≤ new.noFlowThreshold ∧ new.noFlowThreshold ≤ 200) ∧
    (f.noFlowTime = new.noFlowTime ∧ 2 ≤ new.noFlowTime ∧ new.noFlowTime ≤ 30) ∧
    (f.primeTime = new.primeTime ∧ 2 ≤ new.primeTime ∧ new.primeTime ≤ 60) ∧
    (f.stopAllowance = new.stopAllowance ∧ new.stopAllowance ≤ 200) ∧
    (f.maxOrder = new.maxOrder ∧ 1 ≤ new.maxOrder ∧ new.maxOrder ≤ 20000) ∧
    f.meter = new.meter ∧ meterInRange new.meter = true := by
  simp only [← numbered_eq_some]
  constructor
  · intro h
    unfold readPoint at h
    split at h
    · next enabled product pump nozzle attendance =>
      split at h
      · cases h
        simp_all
      · cases h
    · cases h
  · rintro ⟨enabled, product, pump, nozzle, attendance, ⟨ident, hident⟩, ⟨flow, hflow⟩, ⟨threshold, hthreshold⟩,
      ⟨time, htime⟩, ⟨prime, hprime⟩, ⟨allowance, hallowance⟩, ⟨order, horder⟩, meter, hmeter⟩
    simp only [readPoint, enabled, product, pump, nozzle, attendance, ident, flow, threshold, time, prime, allowance, order,
      meter]
    exact if_pos ⟨hident.1, hident.2, hflow.1, hflow.2, hthreshold.1, hthreshold.2, htime.1, htime.2, hprime.1, hprime.2,
      hallowance, horder.1, horder.2, hmeter⟩

theorem readInlet_iff (f : SetInlet) (new : InletSettings) : readInlet f = some new ↔
    (∃ tanks, f.reachable = some tanks ∧ new.reachable = allTanks.filter fun k => k ∈ tanks) ∧
    (f.noFlowThreshold = new.noFlowThreshold ∧ 1 ≤ new.noFlowThreshold ∧ new.noFlowThreshold ≤ 200) ∧
    (f.noFlowTime = new.noFlowTime ∧ 2 ≤ new.noFlowTime ∧ new.noFlowTime ≤ 30) ∧
    (f.settleTime = new.settleTime ∧ 1 ≤ new.settleTime ∧ new.settleTime ≤ 30) ∧
    (f.settleStep = new.settleStep ∧ 1 ≤ new.settleStep ∧ new.settleStep ≤ 10) ∧
    f.meter = new.meter ∧ meterInRange new.meter = true := by
  constructor
  · intro h
    unfold readInlet at h
    split at h
    · cases h
    · next tanks reachable =>
      split at h
      · cases h
        simp_all [contains_eq_decide]
      · cases h
  · rintro ⟨⟨tanks, reachable, list⟩, ⟨threshold, hthreshold⟩, ⟨time, htime⟩, ⟨settle, hsettle⟩, ⟨step, hstep⟩, meter, hmeter⟩
    simp only [readInlet, reachable, threshold, time, settle, step, meter, contains_eq_decide, ← list]
    exact if_pos ⟨hthreshold.1, hthreshold.2, htime.1, htime.2, hsettle.1, hsettle.2, hstep.1, hstep.2, hmeter⟩

/-- Settles O26. -/
theorem pointAndInletWritten : Obligations.PointAndInletWritten := by
  intro v s ready zero configure
  refine ⟨fun f p new numbers free read => ?_, fun f p numbers busy => ?_, fun f p numbers free unread => ?_,
    fun f i new numbers free read => ?_, fun f i numbers busy => ?_, fun f i numbers free unread => ?_,
    fun f new => ?_, fun f new => ?_⟩
  · refine congrArg Host.Outcome.next (request_done (code := 0x60) ready rfl zero ?_ ready.2)
    change setPointRequest v f s = _
    have idle : ¬(s.point p).order.isSome = true := by simp [free]
    simp only [setPointRequest, configure, numbers, read, if_neg idle, Bool.not_true, Bool.false_eq_true, if_false]
    by_cases nozzle : (s.pointSet p).nozzleFitted = new.nozzleFitted
    · simp only [State.updPoint, adjust, applyPointSettings, nozzle, if_true]
      rfl
    · simp only [State.updPoint, adjust, applyPointSettings, nozzle, if_false]
      rfl
  · refine congrArg Host.Outcome.next (request_refused (code := 0x60) ready rfl ?_ rfl)
    change setPointRequest v f s = _
    simp only [setPointRequest, configure, numbers, busy]
    rfl
  · refine congrArg Host.Outcome.next (request_refused (code := 0x60) ready rfl ?_ rfl)
    change setPointRequest v f s = _
    simp only [setPointRequest, configure, numbers, free, unread]
    rfl
  · refine congrArg Host.Outcome.next (request_done (code := 0x62) ready rfl zero ?_ ready.2)
    change setInletRequest v f s = _
    simp only [setInletRequest, configure, numbers, free, read]
    rfl
  · refine congrArg Host.Outcome.next (request_refused (code := 0x62) ready rfl ?_ rfl)
    change setInletRequest v f s = _
    simp only [setInletRequest, configure, numbers, busy]
    rfl
  · refine congrArg Host.Outcome.next (request_refused (code := 0x62) ready rfl ?_ rfl)
    change setInletRequest v f s = _
    simp only [setInletRequest, configure, numbers, free, unread]
    rfl
  · rw [readPoint_iff, meterInRange_iff_deviations]
  · rw [readInlet_iff, meterInRange_iff_deviations]

end Sys2Proof.Machine

/-! # Requests that read a record -/

namespace Sys2Proof.Machine

open Sys2Proof

/-! ## Contents, item by item -/

/-- R194: a list, its things written out before they are put together. -/
theorem itemList_flatten {α : Type} (capacity size : Nat) (f : α → List Item) (xs : List α) :
    itemList capacity size f xs = item1 (xs.map f).length :: (xs.map f).flatten ++
      [.zeros ((capacity - (xs.map f).length) * size)] := by
  rw [itemList, List.length_map, List.flatMap_def]

/-- R143: the entries of a queue with their places. -/
theorem deferredFrom_eq (machine : Option Nat) (place : Nat) (es : List DeferredEntry) :
    deferredFrom machine place es = (es.zipIdx place).filterMap fun (e, n) =>
      if machine.all (e.machine = ·) then some (deferredEntryItems n e) else none := by
  induction es generalizing place with
  | nil => rfl
  | cons e rest ih =>
    rw [deferredFrom, List.zipIdx_cons, List.filterMap_cons, ih]
    split <;> simp_all

theorem machineInRange_iff (n : Nat) : machineInRange n = true ↔ 1 ≤ n ∧ n ≤ 65534 := by
  simp [machineInRange]

/-- R83: what a tank shows, as the code of its report. -/
theorem tankShows_code (s : State) (t : TankId) : (s.tankShows t).code =
    if (s.tankSet t).outOfService then 1
    else if s.isSet (.bund (s.tankSet t).bund) ∨ s.isSet .bay then 2
    else if (s.tank t).low then 3
    else if (s.tank t).full then 4 else 5 := by
  simp only [State.tankShows, State.tankTripped, Bool.or_eq_true]
  split_ifs <;> rfl

theorem ordersNet_eq (s : State) (k : ProductId) : s.ordersNet k =
    (allPoints.map fun p => (((s.point p).order.filter fun o => o.product = k).map Order.net).getD 0).sum := by
  refine congrArg List.sum (congrArg (List.map · allPoints) (funext fun p => ?_))
  cases (s.point p).order with
  | none => rfl
  | some o =>
    by_cases h : o.product = k <;> simp [Option.filter, h]

theorem deliveriesNet_eq (s : State) (k : ProductId) : s.deliveriesNet k =
    (allInlets.map fun i => (((s.inlet i).delivery.filter fun d => d.product = k).map Delivery.net).getD 0).sum := by
  refine congrArg List.sum (congrArg (List.map · allInlets) (funext fun i => ?_))
  cases (s.inlet i).delivery with
  | none => rfl
  | some d =>
    by_cases h : d.product = k <;> simp [Option.filter, h]

/-! ## The trip log (R165) -/

theorem tripNumbered_none {s : State} {n : Nat} (h : n ∉ s.shutdown.log.map TripEntry.number) : s.tripNumbered n = none := by
  refine List.find?_eq_none.2 fun e he hn => h ?_
  exact List.mem_map.2 ⟨e, he, by simpa using hn⟩

theorem tripNumbered_some {s : State} {n : Nat} (h : n ∈ s.shutdown.log.map TripEntry.number) :
    ∃ e ∈ s.shutdown.log, e.number = n ∧ s.tripNumbered n = some e := by
  obtain ⟨x, hx, hn⟩ := List.mem_map.1 h
  cases found : s.tripNumbered n with
  | none => exact absurd (by simpa using hn) (List.find?_eq_none.1 found x hx)
  | some e => exact ⟨e, List.mem_of_find?_eq_some found, by simpa using List.find?_some found, rfl⟩

/-- R165: NEWEST is the entry of the highest number held. -/
theorem tripEntry_newest {s : State} (h : s.shutdown.log ≠ []) :
    ∃ e ∈ s.shutdown.log, (∀ x ∈ s.shutdown.log, x.number ≤ e.number) ∧ s.tripEntry .newest = some e := by
  obtain ⟨n, hn⟩ : ∃ n, s.tripNumbers.max? = some n := by
    cases e : s.tripNumbers.max? with
    | none => exact absurd (List.map_eq_nil_iff.1 (List.max?_eq_none_iff.1 e)) h
    | some n => exact ⟨n, rfl⟩
  obtain ⟨mem, least⟩ := List.max?_eq_some_iff.1 hn
  obtain ⟨e, he, number, found⟩ := tripNumbered_some mem
  refine ⟨e, he, fun x hx => number ▸ least _ (List.mem_map_of_mem hx), ?_⟩
  simp only [State.tripEntry, hn, Option.bind_some, found]

/-- R165: a trip number within 32 bits, or NEWEST. -/
theorem readTripLogRequest_some {s : State} {name : TripLogName} (low : ∀ n, name = .number n → n ≤ 4294967295) :
    readTripLogRequest (some name) s = match s.tripEntry name with
      | some e => ⟨.ok, tripEntryItems e ++ tripLogBounds s, s⟩
      | none => ⟨.notFound, tripLogBounds s, s⟩ := by
  cases name with
  | number n => exact if_neg (by rw [decide_eq_true_eq]; exact Nat.not_lt.2 (low n rfl))
  | newest => rfl

/-! ## The requests (O22) -/

section
variable {v : Via} {s : State}

theorem readSettings_answers {name : SettingsName} {items : List Item} (h : settingsItems s name = some items) :
    requestAnswer (.readSettings v (some name)) s = ⟨.ok, items, s⟩ := by
  change readSettingsRequest (some name) s = _
  simp only [readSettingsRequest, Option.bind_some, h]

theorem readSettings_unsettled {name : SettingsName} (h : settingsItems s name = none) :
    requestAnswer (.readSettings v (some name)) s = refuse .range s := by
  change readSettingsRequest (some name) s = _
  simp only [readSettingsRequest, Option.bind_some, h]

end

/-- Settles O22: each content by the record that it reads. -/
theorem recordReadsAnswered : Obligations.RecordReadsAnswered := by
  intro v s ready reads choice listed meter settings unsettled
  have answers {i : Instr} {code : Nat} {status : Status} {items : List Item} (runs : exec i s = .next (serveRequest v code i s))
      (awake : wakeBy i s = s) (parts : carriesParts status items = true) (h : requestAnswer i s = ⟨status, items, s⟩) :
      reads i (BitVec.ofNat 8 code) status items := request_reads ready awake h parts ready.2 runs
  have refused {i : Instr} {code : Nat} {status : Status} (runs : exec i s = .next (serveRequest v code i s))
      (awake : wakeBy i s = s) (untaken : status.taken = false) (h : requestAnswer i s = refuse status s) :
      exec i s = .next (answered v (BitVec.ofNat 8 code) status [] s) := by
    rw [runs, request_refused ready awake h untaken]
  have set {name : SettingsName} {items : List Item} (h : settingsItems s name = some items) : settings name items :=
    answers rfl rfl rfl (readSettings_answers h)
  have unset {name : SettingsName} (h : settingsItems s name = none) : unsettled (some name) :=
    refused rfl rfl rfl (readSettings_unsettled h)
  refine ⟨fun p => ?_, fun m => ?_, fun i => ?_, fun k => ?_, fun k => ?_, ?_, ?_, ?_, fun l => ?_, fun n => ?_, ?_,
    fun n a low high found => ?_, fun n low high missing => ?_, fun n hn => ?_, fun c => ?_, fun n hn => ?_,
    fun machine inRange => ?_, ?_, fun k => ?_, fun r held => ?_, fun none => ?_⟩
  · exact set (by simp only [settingsItems, numbered_numberOf]; rfl)
  · exact set (by simp only [settingsItems, numbered_numberOf]; rfl)
  · exact set (by simp only [settingsItems, numbered_numberOf, inletItems, contains_eq_decide]; rfl)
  · exact set (by simp only [settingsItems, numbered_numberOf, productItems, itemList_flatten]; rfl)
  · exact set (by simp only [settingsItems, numbered_numberOf, tankItems, List.flatMap_def]; rfl)
  · exact set rfl
  · exact set rfl
  · exact set (by simp only [settingsItems, itemList_flatten]; rfl)
  · exact set (by simp only [settingsItems, numbered_numberOf]; rfl)
  · refine ⟨fun h => ⟨unset ?_, unset ?_, refused rfl rfl rfl ?_⟩, fun h => unset ?_, fun h => unset ?_, fun h => unset ?_,
      fun h => unset ?_⟩
    case refine_3 =>
      change stockReportNowRequest n s = _
      simp only [stockReportNowRequest, numbered_none h]
    all_goals simp only [settingsItems, numbered_none h, Option.map_none]
  · exact refused rfl rfl rfl rfl
  · refine answers rfl rfl rfl ?_
    change readAccountRequest n s = _
    simp only [readAccountRequest, (machineInRange_iff n).2 ⟨low, high⟩, found, accountItems, itemList_flatten]
    rfl
  · refine refused rfl rfl rfl ?_
    change readAccountRequest n s = _
    simp only [readAccountRequest, (machineInRange_iff n).2 ⟨low, high⟩, missing]
    rfl
  · have out : machineInRange n = false := by
      rw [← Bool.not_eq_true, machineInRange_iff]
      omega
    refine ⟨refused rfl rfl rfl ?_, refused rfl rfl rfl ?_⟩
    · change readAccountRequest n s = _
      simp only [readAccountRequest, out]
      rfl
    · change readDeferredRequest (some n) s = _
      simp only [readDeferredRequest, Option.all_some, out]
      rfl
  · refine answers rfl rfl rfl ?_
    change readClassRequest c.val s = _
    simp only [readClassRequest, readClassId_val rfl]
  · refine refused rfl rfl rfl ?_
    change readClassRequest n s = _
    rw [readClassRequest, readClassId, dif_neg (by omega)]
  · intro written absent noLines value
    refine answers rfl rfl rfl ?_
    change readDeferredRequest machine s = _
    have all : machine.all machineInRange = true := by
      cases machine with
      | none => rfl
      | some n => exact (machineInRange_iff n).2 (inRange n rfl)
    have changed (c : DeferredChange) : changeItems c = value c := by
      cases c with
      | delete => rfl
      | write w =>
        cases w with
        | lines ls => simp only [changeItems, itemList_flatten]; rfl
        | _ => rfl
    have entries : deferredFrom machine 1 s.accounts.deferred = (s.accounts.deferred.zipIdx 1).filterMap fun (e, place) =>
        if ∀ n ∈ machine, e.machine = n then
          some (item2 e.machine :: value e.change ++ [item1 (numberOf e.source), item1 place])
        else none := by
      rw [deferredFrom_eq]
      refine List.filterMap_congr fun (e, place) _ => ?_
      refine if_congr (by cases machine <;> simp) (congrArg some ?_) rfl
      simp only [deferredEntryItems, changed]
      rfl
    simp only [readDeferredRequest, all, if_true, itemList_flatten, List.map_id_fun, id_eq, entries]
    rfl
  · intro numbers bounds scope entry
    have scopeItems (x : LatchId) : latchItems x = scope x := by cases x <;> rfl
    have reading {name : TripLogName} {e : TripEntry} (low : ∀ n, name = .number n → n ≤ 4294967295)
        (found : s.tripEntry name = some e) : reads (.readTripLog v (some name)) 0x43 .ok (entry e ++ bounds) := by
      refine answers rfl rfl rfl ?_
      change readTripLogRequest (some name) s = _
      simp only [readTripLogRequest_some low, found, tripEntryItems, itemList_flatten, scopeItems]
      rfl
    have missing {name : TripLogName} (low : ∀ n, name = .number n → n ≤ 4294967295) (none : s.tripEntry name = none) :
        reads (.readTripLog v (some name)) 0x43 .notFound bounds := by
      refine answers rfl rfl rfl ?_
      change readTripLogRequest (some name) s = _
      simp only [readTripLogRequest_some low, none]
      rfl
    have newest (n : Nat) : TripLogName.newest = .number n → n ≤ 4294967295 := nofun
    have numbered {n : Nat} (h : n ≤ 4294967295) (m : Nat) : TripLogName.number n = .number m → m ≤ 4294967295 := by
      rintro ⟨⟩; exact h
    refine ⟨fun n high => refused rfl rfl rfl ?_, fun n low absent => missing (numbered low) (tripNumbered_none absent),
      fun n low held => ?_, fun empty => missing newest ?_, fun held => ?_⟩
    · exact if_pos (decide_eq_true high)
    · obtain ⟨e, he, number, found⟩ := tripNumbered_some held
      exact ⟨e, he, number, reading (numbered low) found⟩
    · simp [State.tripEntry, State.tripNumbers, empty]
    · obtain ⟨e, he, most, found⟩ := tripEntry_newest held
      exact ⟨e, he, most, reading newest found⟩
  · refine answers rfl rfl rfl ?_
    change stockReportNowRequest (numberOf k) s = _
    simp only [stockReportNowRequest, numbered_numberOf, stockReport, itemList_flatten, ordersNet_eq, deliveriesNet_eq]
    have tanks : tankReportItems k s = _ := funext fun t => by
      rw [tankReportItems, tankShows_code]
    rw [tanks]
    rfl
  · intro content
    refine answers rfl rfl rfl ?_
    change fetchResultRequest v s = _
    simp only [fetchResultRequest, held]
    cases r with
    | mk c tag =>
      cases c with
      | scan o hits last => simp only [LongContent.items, itemList_flatten]; rfl
      | range => rfl
      | report => rfl
  · refine answers rfl rfl rfl ?_
    change fetchResultRequest v s = _
    simp only [fetchResultRequest, none]

end Sys2Proof.Machine

/-! # The journal read and released, and notices fetched -/

namespace Sys2Proof.Machine

open Sys2Proof

/-! ## The journal (O23) -/

theorem readJournal_position {s : State} {p : Nat} (low : 1 ≤ p) (high : p ≤ 4294967295) :
    readJournalRequest (some (.position p)) s =
      if s.journal.held.isEmpty then journalMissing s 2
      else if p < s.journal.oldest then journalMissing s 1
      else match s.journal.at? p with
        | some r => journalFound s p r
        | none => journalMissing s 2 :=
  if_neg (by simp only [Config.maxCount]; omega)

/-- Settles O23. -/
theorem journalReadAndReleased : Obligations.JournalReadAndReleased := by
  refine ⟨?_, fun v p s ready zero collect => ?_⟩
  · intro v s ready reads found missing
    have answers {name : JournalName} {status : Status} {items : List Item} (parts : carriesParts status items = true)
        (h : readJournalRequest (some name) s = ⟨status, items, s⟩) : reads name status items :=
      request_reads (code := 0x48) ready rfl h parts ready.2 rfl
    refine ⟨fun p low high => ⟨fun r held older => answers rfl ?_, fun some overwritten => answers rfl ?_,
      fun unwritten => answers rfl ?_⟩, fun r some held => answers rfl ?_, fun none => answers rfl ?_⟩
    · rw [readJournal_position low high, if_neg (by cases e : s.journal.held <;> simp_all [Journal.at?]),
        if_neg (Nat.not_lt.2 older), held]
      rfl
    · rw [readJournal_position low high, if_neg (by simpa using some), if_pos overwritten]
      rfl
    · rw [readJournal_position low high]
      split
      · rfl
      · next held =>
        have beyond : s.journal.oldest + s.journal.held.length ≤ p := unwritten.resolve_left (by simpa using held)
        rw [if_neg (by omega)]
        have : s.journal.at? p = none := by
          rw [Journal.at?, if_pos (by omega), List.getElem?_eq_none (by omega)]
        rw [this]
        rfl
    · change (if _ then _ else _) = _
      rw [if_neg some, held]
      rfl
    · exact if_pos none
  · have permitted : requestAnswer (.releaseJournal v p) s =
        if p ≤ s.journal.mark then ⟨.already, [item4 s.journal.mark], s⟩
        else if s.journal.newest < p then refuse .range s
        else ⟨.ok, [item4 p, item2 (p - s.journal.mark), item2 (releaseTo p s).journal.uncollected],
          judgeLift (releaseTo p s)⟩ := by
      change releaseJournalRequest v p s = _
      rw [releaseJournalRequest, if_neg (by simp [collect])]
    have runs : exec (.releaseJournal v p) s = .next (serveRequest v 0x49 (.releaseJournal v p) s) := rfl
    refine ⟨fun released => ?_, fun ahead beyond => ?_, fun ahead written => ?_⟩
    · rw [if_pos released] at permitted
      rw [runs, request_answered ready rfl permitted ready.2 (.inr (hasPart_of_zero zero))]
      rfl
    · rw [if_neg (by omega), if_pos (show s.journal.newest < p from beyond)] at permitted
      rw [runs, request_refused ready rfl permitted rfl]
      rfl
    · rw [if_neg (by omega), if_neg (show ¬s.journal.newest < p from Nat.not_lt.2 written)] at permitted
      rw [runs, request_answered ready rfl permitted ?_ (.inr (hasPart_of_zero zero))]
      · rfl
      · rw [judgeLift]
        split
        · exact (congrArg StockUnit.reports (State.post_stock ..)).trans ready.2
        · exact ready.2

/-! ## Notices (O47) -/

/-- Settles O47. -/
theorem noticesFetched : Obligations.NoticesFetched := by
  refine ⟨fun v count s ready => ⟨fun low high part => ?_, fun out => ?_⟩, fun l n s => ?_⟩
  · have taken : requestAnswer (.fetchNotices v count) s = _ := if_pos ⟨low, high⟩
    exact congrArg Host.Outcome.next (request_answered (code := 0x03) ready rfl taken ready.2 (.inr part))
  · have refused : requestAnswer (.fetchNotices v count) s = refuse .range s := if_neg (by omega)
    exact congrArg Host.Outcome.next (request_refused (code := 0x03) ready rfl refused rfl)
  · change { s with links := put s.links l (LinkUnit.enqueue _ _ (s.link l)) } = _
    congr 2
    simp only [LinkUnit.enqueue, LinkUnit.lineAt, List.length_append, List.length_singleton]
    rfl

end Sys2Proof.Machine

/-! # Chain checks, products and tanks written -/

namespace Sys2Proof.Machine

open Sys2Proof

/-! ## The chain check (O27) -/

section
variable {s : State} {k : ProductId} {old new : TankId} {fromStart : Bool}

/-- R69: the row that keeps the draw tank. -/
theorem drawAfter_stays (hold : (s.draw k).current = some old) (mem : old ∈ (s.productSet k).chain)
    (eligible : s.eligible k old = true) : s.drawAfter k false = some old := by
  simp only [State.drawAfter, hold, Bool.false_eq_true, if_false]
  exact if_pos (by simp [mem, eligible])

theorem drawAfter_next (hold : (s.draw k).current = some old) (unfit : s.eligible k old = false) :
    s.drawAfter k false = (chainAfter old (s.productSet k).chain).find? (s.eligible k) := by
  simp only [State.drawAfter, hold, Bool.false_eq_true, if_false]
  exact if_neg (by simp [unfit])

theorem drawAfter_first (h : (s.draw k).current = none ∨ fromStart = true) :
    s.drawAfter k fromStart = (s.productSet k).chain.find? (s.eligible k) := by
  unfold State.drawAfter
  rcases h with none | rfl
  · rw [none]; rfl
  · cases (s.draw k).current <;> rfl

theorem moveDraw_same (hold : (s.draw k).current = some old) : moveDraw k (some old) s = s := by
  simp only [moveDraw, hold, if_true]

theorem moveDraw_none (none : (s.draw k).current = none) : moveDraw k .none s = s := by
  simp only [moveDraw, none]

theorem moveDraw_next (hold : (s.draw k).current = some old) (moved : new ≠ old) :
    moveDraw k (some new) s = (s.updDraw k fun _ => ⟨some new, some old⟩).post (.drawChanged k (some old) new) := by
  simp only [moveDraw, hold]
  exact if_neg moved.symm

theorem moveDraw_found (none : (s.draw k).current = none) :
    moveDraw k (some new) s = (s.updDraw k fun d => { d with current := some new }).post (.drawChanged k .none new) := by
  simp only [moveDraw, none]

theorem moveDraw_exhausted (hold : (s.draw k).current = some old) : moveDraw k none s =
    let u := (s.updDraw k fun _ => ⟨none, some old⟩).post (.productEmpty k old (s.exhaustionReason k))
    { u with stock := { u.stock with reports := s.stock.reports ++ [⟨k, s.exhaustionReason k⟩] } } := by
  simp only [moveDraw, hold, State.post_stock, State.updDraw_reports]

theorem chainCheck_current (k : ProductId) (fromStart : Bool) (s : State) :
    ((chainCheck k fromStart s).draw k).current = s.drawAfter k fromStart := by
  rw [chainCheck_draw, if_pos rfl, Draw.moved]

end

/-- Settles O27: the draw tank that each row gives, and what moving to it leaves. -/
theorem chainCheckMovesDraw : Obligations.ChainCheckMovesDraw := by
  intro k fromStart s chain t
  have current : (t.draw k).current = s.drawAfter k fromStart := chainCheck_current ..
  have moved {new : Option TankId} (h : (t.draw k).current = new) : t = moveDraw k new s := by
    rw [← h, current]; rfl
  refine ⟨fun old hold start mem eligible => ?_, fun old hold start unfit => ?_, fun h => current.trans (drawAfter_first h),
    fun old new hold h other => (moved h).trans (moveDraw_next hold other),
    fun new none h => (moved h).trans (moveDraw_found none), fun old hold none => (moved none).trans (moveDraw_exhausted hold)⟩
  · subst start
    exact (moved (current.trans (drawAfter_stays hold mem eligible))).trans (moveDraw_same hold)
  · subst start
    exact current.trans (drawAfter_next hold unfit)

/-! ## Exhaustion reports that reach no point (R70) -/

/-- R70: what a chain check adds to the reports. -/
theorem chainCheck_reports (k : ProductId) (fromStart : Bool) (s : State) :
    (chainCheck k fromStart s).stock.reports = s.stock.reports ++
      if (s.draw k).current.isSome ∧ s.drawAfter k fromStart = none then [⟨k, s.exhaustionReason k⟩] else [] := by
  unfold chainCheck
  generalize s.drawAfter k fromStart = new
  cases hold : (s.draw k).current with
  | none =>
    cases new with
    | none => rw [moveDraw_none hold]; simp
    | some new => rw [moveDraw_found hold]; simp
  | some old =>
    cases new with
    | none => rw [moveDraw_exhausted hold]; simp
    | some new =>
      by_cases moved : new = old
      · subst moved; rw [moveDraw_same hold]; simp
      · rw [moveDraw_next hold moved]; simp

/-- No order is open on a product. -/
def State.unordered (s : State) (k : ProductId) : Prop := ∀ p, ∀ o ∈ (s.point p).order, o.product ≠ k

theorem takeReport_unordered {ended : Option PointId} {r : Exhaustion} {s : State} (free : s.unordered r.product) :
    takeReport ended r s = s := by
  refine forEach_invariant (P := (· = s)) _ _ (fun p t ht => ?_) s rfl
  subst ht
  refine if_neg ?_
  rw [Option.any_eq_true]
  rintro ⟨o, ho, product⟩
  exact free p o ho (by simpa using product)

theorem handReportsUpTo_none {s : State} (none : s.stock.reports = []) (ended : Option PointId) (n : Nat) :
    handReportsUpTo ended n s = s := by
  cases n with
  | zero =>
    change { s with stock := { s.stock with reports := [] } } = s
    rw [← none]
  | succ n => unfold handReportsUpTo; rw [none]

/-- R70: the only report of an event, when its points hand no other. -/
theorem handReportsAt_single {ended : Option PointId} {s : State} {r : Exhaustion} (one : s.stock.reports = [r])
    (none : (takeReport ended r (dropReports s)).stock.reports = []) :
    handReportsAt ended s = takeReport ended r (dropReports s) := by
  unfold handReportsAt handReportsUpTo
  rw [one]
  exact handReportsUpTo_none none ..

theorem dropReports_none {s : State} (none : s.stock.reports = []) : dropReports s = s := by
  unfold dropReports
  rw [← none]

/-- A chain check of a product with no order open hands its report to no point. -/
theorem handReports_chainCheck {s : State} {k : ProductId} {fromStart : Bool} (none : s.stock.reports = [])
    (free : s.unordered k) : handReports (chainCheck k fromStart s) = dropReports (chainCheck k fromStart s) := by
  have reports := chainCheck_reports k fromStart s
  rw [none, List.nil_append] at reports
  split at reports
  · have unordered : (dropReports (chainCheck k fromStart s)).unordered k := by
      intro p o ho
      refine free p o ?_
      have points : (chainCheck k fromStart s).points = s.points := (chainCheck_moves k fromStart s).same .points
      simpa only [State.point, dropReports, points] using ho
    have untaken := takeReport_unordered (ended := .none) (r := ⟨k, s.exhaustionReason k⟩) unordered
    refine (handReportsAt_single reports ?_).trans untaken
    rw [untaken]
    rfl
  · rw [handReports_none reports, dropReports_none reports]

/-! ## Product records (R63) -/

theorem isPrintable_iff (c : Nat) : isPrintable c = true ↔ 0x20 ≤ c ∧ c ≤ 0x7E := by
  simp [isPrintable]

theorem readTanks_iff (ns : List Nat) (ts : List TankId) : readTanks ns = some ts ↔ ns = ts.map numberOf := by
  induction ns generalizing ts with
  | nil => cases ts <;> simp [readTanks]
  | cons n rest ih =>
    cases ts with
    | nil =>
      simp only [readTanks, List.map_nil, reduceCtorEq, iff_false]
      split <;> simp
    | cons t ts =>
      rw [List.map_cons, List.cons.injEq, ← ih, ← numbered_eq_some]
      constructor
      · intro h
        unfold readTanks at h
        split at h
        · next first others => cases h; exact ⟨first, others⟩
        · cases h
      · rintro ⟨first, others⟩
        simp only [readTanks, first, others]

theorem readChain_iff (k : ProductId) (chain : Coded (List Nat)) (s : State) (ts : List TankId) :
    readChain k chain s = some ts ↔ chain = some (ts.map numberOf) ∧ 1 ≤ ts.length ∧ ts.length ≤ 4 ∧ ts.Nodup ∧
      ∀ t ∈ ts, (s.tankSet t).product = k := by
  have read : chain.bind readTanks = some ts ↔ chain = some (ts.map numberOf) := by
    cases chain with
    | none => simp
    | some ns => simp [readTanks_iff]
  rw [← read]
  constructor
  · intro h
    unfold readChain at h
    split at h
    · cases h
    · next found =>
      split at h
      · next good =>
        cases h
        obtain ⟨some, short, distinct, own⟩ := good
        exact ⟨found, some, short, distinct, by simpa using own⟩
      · cases h
  · rintro ⟨found, some, short, distinct, own⟩
    rw [readChain, found]
    exact if_pos ⟨some, short, distinct, by simpa using own⟩

theorem readProduct_iff (k : ProductId) (f : SetProduct) (s : State) (new : ProductSettings) :
    readProduct k f s = some new ↔
      f.kind = some new.kind ∧ (f.beta = new.beta ∧ new.beta ≤ 2000) ∧
      (f.name = new.name ∧ new.name.length ≤ 8 ∧ ∀ c ∈ new.name, 0x20 ≤ c ∧ c ≤ 0x7E) ∧
      f.chain = some (new.chain.map numberOf) ∧ 1 ≤ new.chain.length ∧ new.chain.length ≤ 4 ∧ new.chain.Nodup ∧
      ∀ t ∈ new.chain, (s.tankSet t).product = k := by
  rw [← readChain_iff]
  simp only [← isPrintable_iff]
  constructor
  · intro h
    unfold readProduct at h
    split at h
    · next kind chain =>
      split at h
      · next good =>
        cases h
        obtain ⟨beta, short, printable⟩ := good
        exact ⟨kind, ⟨rfl, beta⟩, ⟨rfl, short, List.all_eq_true.1 printable⟩, chain⟩
      · cases h
    · cases h
  · rintro ⟨kind, ⟨beta, low⟩, ⟨name, short, printable⟩, chain⟩
    simp only [readProduct, kind, chain, beta, name]
    exact if_pos ⟨low, short, List.all_eq_true.2 printable⟩

/-! ## Tank settings (R64) -/

theorem risingFrom_iff (a : StrapPoint) (rest : List StrapPoint) :
    risingFrom a rest = true ↔ (a :: rest).Pairwise strapBelow := by
  refine ⟨pairwise_of_risingFrom, fun h => ?_⟩
  induction rest generalizing a with
  | nil => rfl
  | cons b rest ih =>
    obtain ⟨first, later⟩ := List.pairwise_cons.1 h
    obtain ⟨level, volume⟩ := first b (List.mem_cons_self ..)
    simp [risingFrom, level, volume, ih b later]

theorem validStrapping_iff (table : Table 12 StrapPoint) : validStrapping table = true ↔
    table.toList.Pairwise strapBelow ∧ ∀ x ∈ table.toList, x.level ≤ 65000 ∧ x.volume ≤ 9999999 := by
  unfold validStrapping
  split
  · next none => simp [none]
  · next a rest points =>
    rw [points, Bool.and_eq_true, risingFrom_iff]
    simp

theorem readTankSettings_iff (f : SetTank) (outOfService : Bool) (new : TankSettings) :
    readTankSettings f outOfService = some new ↔
      f.product = numberOf new.product ∧ f.bund = numberOf new.bund ∧ new.outOfService = outOfService ∧
      (f.capacity = new.capacity ∧ 100 ≤ new.capacity ∧ new.capacity ≤ 9999999) ∧
      (f.lowCut = new.lowCut ∧ new.lowCut ≤ new.capacity) ∧
      (f.lowAlarm = new.lowAlarm ∧ new.lowCut ≤ new.lowAlarm ∧ new.lowAlarm ≤ new.capacity) ∧
      (f.highCut = new.highCut ∧ new.lowAlarm < new.highCut ∧ new.highCut ≤ new.capacity) ∧
      (f.hysteresis = new.hysteresis ∧ new.hysteresis ≤ 100000 ∧
        (new.lowCut : Int) + new.hysteresis < (new.highCut : Int) - new.hysteresis) ∧
      (f.tolerance = new.tolerance ∧ 1 ≤ new.tolerance ∧ new.tolerance ≤ 100000) ∧
      (f.leakThreshold = new.leakThreshold ∧ 1 ≤ new.leakThreshold ∧ new.leakThreshold ≤ 100000) ∧
      f.strapping = new.strapping ∧
      (new.strapping.toList.Pairwise fun a b => a.level < b.level ∧ a.volume ≤ b.volume) ∧
      ∀ x ∈ new.strapping.toList, x.level ≤ 65000 ∧ x.volume ≤ 9999999 := by
  have strapping (table : Table 12 StrapPoint) : validStrapping table = true ↔
      (table.toList.Pairwise fun a b => a.level < b.level ∧ a.volume ≤ b.volume) ∧
        ∀ x ∈ table.toList, x.level ≤ 65000 ∧ x.volume ≤ 9999999 := validStrapping_iff table
  simp only [← strapping, ← numbered_eq_some]
  constructor
  · intro h
    unfold readTankSettings at h
    split at h
    · next product bund =>
      split at h
      · cases h
        simp_all
        omega
      · cases h
    · cases h
  · rintro ⟨product, bund, service, ⟨capacity, hcapacity⟩, ⟨lowCut, hlowCut⟩, ⟨lowAlarm, hlowAlarm⟩, ⟨highCut, hhighCut⟩,
      ⟨hysteresis, hhysteresis⟩, ⟨tolerance, htolerance⟩, ⟨leak, hleak⟩, table, valid⟩
    simp only [readTankSettings, product, bund, ← service, capacity, lowCut, lowAlarm, highCut, hysteresis, tolerance, leak,
      table]
    exact if_pos ⟨hcapacity.1, hcapacity.2, hlowCut, hlowAlarm.1, hlowAlarm.2, hhighCut.1, hhighCut.2, hhysteresis.1,
      by omega, htolerance.1, htolerance.2, hleak.1, hleak.2, valid⟩

/-! ## The requests (O28) -/

/-- A request taken: its effect, its exhaustion reports handed, and the reply. -/
theorem request_taken {v : Via} {code : Nat} {i : Instr} {s t : State} (ready : s.Ready) (awake : wakeBy i s = s)
    (zero : partNumber v = 0) (h : requestAnswer i s = done t) :
    serveRequest v code i s = answered v (BitVec.ofNat 8 code) .ok [] (handReports t) := by
  rw [serveRequest_running ready.1, awake]
  exact serve_answered ⟨.ok, [], handReports t⟩ (by simp only [h]; rfl) (.inr (hasPart_of_zero zero))

theorem productEvaluated_unordered {s : State} {k : ProductId} {new : ProductSettings} (free : s.openOnProduct k = false) :
    (s.productEvaluated k new).unordered k := by
  intro p o ho
  have points : (s.productEvaluated k new).points = s.points := (productEvaluated_frame k new s).same .points
  exact order_product_ne free (p := p) (by simpa only [State.point, points] using ho)

theorem leavesChain_iff (s : State) (t : TankId) (new : TankSettings) : s.leavesChain t new = true ↔
    new.product ≠ (s.tankSet t).product ∧ t ∈ (s.productSet (s.tankSet t).product).chain := by
  simp [State.leavesChain]

/-- Settles O28: each write by the checks of its request, and the records read field by field. -/
theorem productAndTankWritten : Obligations.ProductAndTankWritten := by
  intro v s ready zero
  refine ⟨fun f k configure numbers => ?_, fun f t configure numbers => ?_, fun t inService stock => ?_,
    fun k f new => readProduct_iff k f s new, readTankSettings_iff⟩
  · have runs : exec (.setProduct v f) s = .next (serveRequest v 0x63 (.setProduct v f) s) := rfl
    have asked : requestAnswer (.setProduct v f) s = setProductRequest v f s := rfl
    simp only [setProductRequest, configure, numbers, Bool.not_true, Bool.false_eq_true, if_false] at asked
    refine ⟨fun unread => ?_, fun new read => ⟨fun kind chain => ?_, fun changed => ⟨fun busy => ?_, fun free => ?_⟩⟩⟩
    · simp only [unread] at asked
      rw [runs, request_refused ready rfl asked rfl]
      rfl
    all_goals simp only [read] at asked
    · have same : ¬s.rechains k new := by simp [State.rechains, kind, chain]
      rw [if_neg fun h => same h.1, writeProduct_unchanged same] at asked
      rw [runs, request_done (t := s.setProduct k new) ready rfl zero asked ready.2]
      rfl
    · rw [if_pos ⟨changed, busy⟩] at asked
      rw [runs, request_refused ready rfl asked rfl]
      rfl
    · rw [if_neg (by simp [free]), writeProduct_changed changed] at asked
      have reports : (s.productEvaluated k new).stock.reports = [] :=
        Eq.trans ((productEvaluated_frame k new s).same .reports) ready.2
      rw [runs, request_taken ready rfl zero asked,
        handReports_chainCheck reports (productEvaluated_unordered free)]
      rfl
  · have runs : exec (.setTank v f) s = .next (serveRequest v 0x64 (.setTank v f) s) := rfl
    have asked : requestAnswer (.setTank v f) s = setTankRequest v f s := rfl
    simp only [setTankRequest, configure, numbers, Bool.not_true, Bool.false_eq_true, if_false] at asked
    refine ⟨fun unread => ?_, fun new read => ?_⟩
    · simp only [unread] at asked
      rw [runs, request_refused ready rfl asked rfl]
      rfl
    · simp only [read, leavesChain_iff] at asked
      split_ifs at asked ⊢
      · rw [runs, request_refused ready rfl asked rfl]; rfl
      · rw [runs, request_refused ready rfl asked rfl]; rfl
      · rw [runs, request_taken ready rfl zero asked]; rfl
  · have asked : requestAnswer (.setTankService v ⟨numberOf t, some inService⟩) s =
        if s.tankBusy t then refuse .tankBusy s
        else if (s.tankSet t).outOfService = !inService then done s
        else done (chainCheck (s.tankSet t).product false
          (s.setTankSettings t { s.tankSet t with outOfService := !inService })) := by
      change setTankServiceRequest v _ s = _
      simp only [setTankServiceRequest, stock, numbered_numberOf, Bool.not_true, Bool.false_eq_true, if_false]
    have runs : exec (.setTankService v ⟨numberOf t, some inService⟩) s =
      .next (serveRequest v 0x22 (.setTankService v ⟨numberOf t, some inService⟩) s) := rfl
    dsimp only
    split_ifs at asked ⊢
    · rw [runs, request_refused ready rfl asked rfl]; rfl
    · rw [runs, request_done ready rfl zero asked ready.2]; rfl
    · rw [runs, request_taken ready rfl zero asked]; rfl

end Sys2Proof.Machine

/-! # The clock and the shifts -/

namespace Sys2Proof.Machine

open Sys2Proof

/-! ## The next shift start (R198) -/

theorem nextStartOf_after (c m : Nat) (h : m ≤ 1439) :
    c < nextStartOf c m ∧ nextStartOf c m % 60 = 0 ∧ nextStartOf c m / 60 % 1440 = m := by
  unfold nextStartOf
  dsimp only
  split <;> omega

/-- R198: no second between falls at the start of the minute. -/
theorem nextStartOf_first {c m x : Nat} (low : m ≤ 1439) (after : c < x) (minute : x % 60 = 0) (falls : x / 60 % 1440 = m) :
    nextStartOf c m ≤ x := by
  unfold nextStartOf
  dsimp only
  split <;> omega

theorem foldl_min_le {α : Type} (f : α → Nat) (start : Nat) (xs : List α) :
    xs.foldl (fun least x => min least (f x)) start ≤ start ∧
      ∀ x ∈ xs, xs.foldl (fun least x => min least (f x)) start ≤ f x := by
  induction xs generalizing start with
  | nil => simp
  | cons x xs ih =>
    obtain ⟨first, later⟩ := ih (min start (f x))
    refine ⟨by rw [List.foldl_cons]; omega, fun y hy => ?_⟩
    rw [List.foldl_cons]
    rcases List.mem_cons.1 hy with rfl | hy
    · omega
    · exact later y hy

theorem foldl_min_mem {α : Type} (f : α → Nat) (start : Nat) (xs : List α) :
    xs.foldl (fun least x => min least (f x)) start = start ∨
      ∃ x ∈ xs, xs.foldl (fun least x => min least (f x)) start = f x := by
  induction xs generalizing start with
  | nil => simp
  | cons x xs ih =>
    rw [List.foldl_cons]
    rcases ih (min start (f x)) with e | ⟨y, hy, e⟩
    · rcases Nat.le_total start (f x) with h | h
      · exact .inl (by rw [e]; omega)
      · exact .inr ⟨x, List.mem_cons_self .., by rw [e]; omega⟩
    · exact .inr ⟨y, List.mem_cons_of_mem _ hy, e⟩

/-- R198: the next shift start is the earliest over the table. -/
theorem nextShiftStart_least (c : Nat) {table : List Nat} (some : table ≠ []) :
    (∃ m ∈ table, nextShiftStart c table = nextStartOf c m) ∧ ∀ m ∈ table, nextShiftStart c table ≤ nextStartOf c m := by
  cases table with
  | nil => exact absurd rfl some
  | cons m ms =>
    obtain ⟨first, later⟩ := foldl_min_le (nextStartOf c) (nextStartOf c m) ms
    refine ⟨?_, List.forall_mem_cons.2 ⟨first, later⟩⟩
    rcases foldl_min_mem (nextStartOf c) (nextStartOf c m) ms with e | ⟨x, hx, e⟩
    · exact ⟨m, List.mem_cons_self .., e⟩
    · exact ⟨x, List.mem_cons_of_mem _ hx, e⟩

/-! ## The requests and the event (O29) -/

/-- Settles O29. -/
theorem clockAndShifts : Obligations.ClockAndShifts := by
  refine ⟨fun v s ready => ⟨fun calendar configure low part => ?_, fun table configure zero => ?_, ?_⟩,
    fun c table some minutes => ?_⟩
  · have set : requestAnswer (.setClock v calendar) s = ⟨.ok, [item4 s.calendar, item4 calendar],
        setNextShift calendar (shiftIfReached calendar
          { s with bay := { s.bay with offset := (calendar : Int) - s.seconds, clockSet := true } })⟩ := by
      change setClockRequest v calendar s = _
      simp only [setClockRequest, configure, Bool.not_true, Bool.false_eq_true, if_false]
      exact if_neg (Nat.not_lt.2 low)
    have runs : exec (.setClock v calendar) s = .next (serveRequest v 0x52 (.setClock v calendar) s) := rfl
    rw [runs, request_answered ready rfl set _ (.inr part)]
    · unfold shiftIfReached
      dsimp only
      split <;> rfl
    · unfold shiftIfReached
      split <;> exact ready.2
  · refine request_written ready rfl zero (code := 0x53) ?_ rfl ready.2 rfl
    change setShiftTableRequest v (some table) s = _
    simp only [setShiftTableRequest, configure, Bool.not_true, Bool.false_eq_true, if_false, List.all_eq_true,
      decide_eq_true_eq]
    rfl
  · intro r
    have event : exec .shiftStart s = .next (takeEvent shiftStartEvent s) := rfl
    have handed : (shiftStartEvent s).stock.reports = [] :=
      (congrArg StockUnit.reports (State.reach_stock s s.shiftInstant)).trans ready.2
    rw [event, takeEvent_running ready.1, handReports_none handed]
    change Host.Outcome.next { r with
      accounts := { r.accounts with table := r.accounts.table.map _, lastShiftChange := r.seconds }
      bay := { r.bay with nextShift := nextShiftStart r.calendar r.store.shifts } } = _
    simp only [r, State.reach_accounts, State.reach_bay, State.reach_store]
  · intro next
    obtain ⟨⟨m, hm, first⟩, least⟩ := nextShiftStart_least c some
    obtain ⟨after, minute, falls⟩ := nextStartOf_after c m (minutes m hm)
    rw [← first] at after minute falls
    refine ⟨after, minute, by rw [falls]; exact hm, fun x hafter hbefore hminute hlisted => ?_⟩
    exact Nat.not_lt.2 (least _ hlisted) (lt_of_le_of_lt (nextStartOf_first (minutes _ hlisted) hafter hminute rfl) hbefore)

end Sys2Proof.Machine

/-! # The wakes -/

namespace Sys2Proof.Machine

open Sys2Proof

/-! ## What a wake leaves (R196) -/

theorem wake_standby {source : ModeSource} {s : State} (h : s.bay.mode = .standby) :
    wake source s = changeMode .open source s := if_pos h

theorem wake_awake {source : ModeSource} {s : State} (h : s.bay.mode ≠ .standby) : wake source s = s := if_neg h

theorem changeMode_bay (new : Mode) (source : ModeSource) (s : State) :
    (changeMode new source s).bay = { s.bay with mode := new } := State.post_bay ..

theorem changeMode_open_awake (source : ModeSource) (s : State) : (changeMode .open source s).bay.mode ≠ .standby := by
  rw [changeMode_bay]; nofun

/-- A second wake after the first changes nothing. -/
theorem wake_changeMode (a b : ModeSource) (s : State) : wake a (changeMode .open b s) = changeMode .open b s :=
  wake_awake (changeMode_open_awake b s)

theorem changeMode_running {new : Mode} {source : ModeSource} {s : State} (h : s.Running) :
    (changeMode new source s).Running := by
  rw [State.Running, changeMode_bay]; exact h

/-! ## Commands that leave the mode as it is -/

theorem Moves.mode {K : List Part} {H : Set Law} {s t : State} (h : Moves K H s t) (other : Part.mode ∉ K) :
    t.bay.mode = s.bay.mode := h.frame .mode other

theorem handReports_mode (s : State) : (handReports s).bay.mode = s.bay.mode := (handReports_moves s).mode (by decide)

section
variable {s : State} {i : Instr} {v : Via} {code : Nat}

/-- A request that wakes nothing and whose answer keeps the mode. -/
theorem serveRequest_mode (run : s.Running) (awake : wakeBy i s = s)
    (kept : (requestAnswer i s).state.bay.mode = s.bay.mode) : (serveRequest v code i s).bay.mode = s.bay.mode := by
  rw [serveRequest_running run, awake, serve]
  split
  · rfl
  · exact (handReports_mode _).trans kept

theorem takeEvent_mode {f : State → State} (run : s.Running) (kept : (f s).bay.mode = s.bay.mode) :
    (takeEvent f s).bay.mode = s.bay.mode := by
  rw [takeEvent_running run, handReports_mode, kept]

theorem takeLine_mode {follow event : State → State} (run : s.Running) (kept : (event s).bay.mode = s.bay.mode) :
    (takeLine follow event s).bay.mode = s.bay.mode := by
  rw [takeLine_running run, handReports_mode, kept]

/-- In OPEN and in LOCKED a request that wakes the bay keeps the mode. -/
theorem openOrderRequest_mode {f : OpenOrder} (awake : s.bay.mode ≠ .standby) :
    (openOrderRequest v f s).state.bay.mode = s.bay.mode := by
  rw [openOrderRequest, wake_awake awake, openOrderChecked]
  split
  · rfl
  · exact (checked_moves fun passes => acceptOrder_moves (H := {.reserve}) passes (.inr rfl)).mode (by decide)

theorem openDeliveryRequest_mode {f : OpenDelivery} (awake : s.bay.mode ≠ .standby) :
    (openDeliveryRequest v f s).state.bay.mode = s.bay.mode := by
  rw [openDeliveryRequest, wake_awake awake, openDeliveryChecked]
  split
  · rfl
  · exact (checked_moves fun passes => acceptDelivery_moves (H := {.reserve}) passes (.inr rfl)).mode (by decide)

theorem attendEvent_mode {p : PointId} (awake : s.bay.mode ≠ .standby) : (attendEvent p s).bay.mode = s.bay.mode := by
  rw [attendEvent, wake_awake awake]
  split <;> (try split) <;> rfl

theorem nozzleLineHighEvent_mode {p : PointId} (awake : s.bay.mode ≠ .standby) :
    (nozzleLineHighEvent p s).bay.mode = s.bay.mode := by
  have reached (instant : Nat) : (s.reach instant).bay.mode ≠ .standby := by rwa [State.reach_bay]
  unfold nozzleLineHighEvent
  split
  · rw [wake_awake (reached _), State.updPoint_bay, State.reach_bay]
  · rfl

theorem inletCoupledActiveEvent_mode {i : InletId} (awake : s.bay.mode ≠ .standby) :
    (inletCoupledActiveEvent i s).bay.mode = s.bay.mode := by
  unfold inletCoupledActiveEvent
  split
  · rfl
  · rw [wake_awake awake]
    exact (couple_moves ..).mode (by decide)

end

/-! ## Commands that wake the bay -/

/-- A request woken first is the request in the mode that its wake leaves. -/
theorem serveRequest_woken {i : Instr} {v : Via} {code : Nat} {s t : State} (run : s.Running) (run' : t.Running)
    (wakes : wakeBy i s = t) (awake : wakeBy i t = t) : serveRequest v code i s = serveRequest v code i t := by
  rw [serveRequest_running run, serveRequest_running run', wakes, awake]

theorem attendEvent_woken {p : PointId} {s : State} (standby : s.bay.mode = .standby) :
    attendEvent p s = attendEvent p (changeMode .open (.attend p) s) := by
  rw [attendEvent, attendEvent, wake_standby standby, wake_changeMode]

theorem nozzleLineHighEvent_woken {p : PointId} {s : State} (standby : s.bay.mode = .standby)
    (fitted : (s.pointSet p).nozzleFitted = true) (uncoupled : (s.point p).receiver = .uncoupled) :
    nozzleLineHighEvent p s =
      nozzleLineHighEvent p (changeMode .open (.nozzle p) (s.reach ((s.point p).lineSince + 100))) := by
  have points (r : State) : (changeMode .open (.nozzle p) r).point = r.point := by
    funext q; simp only [State.point, changeMode, State.post_points]
  have reached : (s.reach ((s.point p).lineSince + 100)).point = s.point := by
    funext q; simp only [State.point, State.reach_points]
  have sets : (changeMode .open (.nozzle p) (s.reach ((s.point p).lineSince + 100))).pointSet = s.pointSet := by
    funext q; simp only [State.pointSet, changeMode, State.post_store, State.reach_store]
  have clock (r : State) (instant : Nat) :
      (changeMode .open (.nozzle p) (r.reach instant)).reach instant = changeMode .open (.nozzle p) (r.reach instant) := by
    refine if_neg ?_
    rw [changeMode, State.post_clock]
    unfold State.reach
    split <;> simp_all
  unfold nozzleLineHighEvent
  simp only [points, reached, sets, fitted, uncoupled, and_self, if_true, Config.coupleMs, clock, wake_changeMode]
  rw [wake_standby (by rwa [State.reach_bay])]

theorem inletCoupledActiveEvent_woken {i : InletId} {s : State} (standby : s.bay.mode = .standby)
    (uncoupled : (s.inlet i).coupled = false) :
    inletCoupledActiveEvent i s = inletCoupledActiveEvent i (changeMode .open (.coupled i) s) := by
  have inlets : (changeMode .open (.coupled i) s).inlet = s.inlet := by
    funext j; simp only [State.inlet, changeMode, State.post_inlets]
  simp only [inletCoupledActiveEvent, inlets, uncoupled, wake_standby standby, wake_changeMode, Bool.false_eq_true, if_false]

/-- Settles O31. -/
theorem wakeSources : Obligations.WakeSources := by
  intro s ready
  obtain ⟨run, handed⟩ := ready
  have woken (source : ModeSource) : (changeMode .open source s).Running := changeMode_running run
  refine ⟨fun v f standby => ?_, fun v f standby => ?_, fun p standby => ?_, fun p standby fitted uncoupled => ?_,
    fun i standby uncoupled => ?_, fun c awake wakes => ?_, fun c standby quiet => ?_⟩
  · exact congrArg Host.Outcome.next (serveRequest_woken run (woken _) (wake_standby standby) (wake_changeMode ..))
  · exact congrArg Host.Outcome.next (serveRequest_woken run (woken _) (wake_standby standby) (wake_changeMode ..))
  · refine congrArg Host.Outcome.next ?_
    rw [takeEvent_running run, takeEvent_running (woken _), attendEvent_woken standby]
  · have reached : (s.reach ((s.point p).lineSince + 100)).Running := by
      rw [State.Running, State.reach_bay]; exact run
    refine congrArg Host.Outcome.next ?_
    rw [takeEvent_running run, takeEvent_running (changeMode_running reached),
      nozzleLineHighEvent_woken standby fitted uncoupled]
  · refine congrArg Host.Outcome.next ?_
    rw [takeLine_running run, takeLine_running (woken _), inletCoupledActiveEvent_woken standby uncoupled]
  · rcases wakes with ⟨v, f, rfl⟩ | ⟨v, f, rfl⟩ | ⟨p, rfl⟩ | ⟨p, rfl⟩ | ⟨i, rfl⟩
    · exact ⟨_, rfl, serveRequest_mode run (wake_awake awake) (openOrderRequest_mode awake)⟩
    · exact ⟨_, rfl, serveRequest_mode run (wake_awake awake) (openDeliveryRequest_mode awake)⟩
    · exact ⟨_, rfl, takeEvent_mode run (attendEvent_mode awake)⟩
    · exact ⟨_, rfl, takeEvent_mode run (nozzleLineHighEvent_mode awake)⟩
    · exact ⟨_, rfl, takeLine_mode run (inletCoupledActiveEvent_mode awake)⟩
  · rw [← standby]
    rcases quiet with ⟨v, f, rfl⟩ | ⟨v, f, rfl⟩ | ⟨p, rfl⟩ | ⟨v, k, rfl⟩ | ⟨v, k, rfl⟩ | ⟨v, t, rfl⟩ | ⟨v, t, f, rfl⟩ |
      ⟨v, x, key, rfl⟩ | ⟨v, p, rfl⟩ | ⟨level, rfl⟩ | ⟨x, level, rfl⟩ | ⟨x, rfl⟩ | ⟨t, r, rfl⟩
    · exact ⟨_, rfl, serveRequest_mode run rfl ((stopOrderRequest_moves v f s).mode (by decide))⟩
    · exact ⟨_, rfl, serveRequest_mode run rfl ((stopDeliveryRequest_moves v f s).mode (by decide))⟩
    · exact ⟨_, rfl, takeEvent_mode run ((stopPoint_moves none .stopped p s).mode (by decide))⟩
    · exact ⟨_, rfl, serveRequest_mode run rfl (congrArg (fun t : State => t.bay.mode) (stockReportNowRequest_state k s))⟩
    · exact ⟨_, rfl, serveRequest_mode run rfl ((stockReportSettledRequest_moves v k s).mode (by decide))⟩
    · exact ⟨_, rfl, serveRequest_mode run rfl ((adjustSetToGaugeRequest_moves v t s).mode (by decide))⟩
    · exact ⟨_, rfl, serveRequest_mode run rfl ((adjustDeltaRequest_moves v t f s).mode (by decide))⟩
    · exact ⟨_, rfl, serveRequest_mode run rfl ((releaseTripRequest_moves v x (s.setKey key)).mode (by decide))⟩
    · exact ⟨_, rfl, serveRequest_mode run rfl ((releaseJournalRequest_moves v p s).mode (by decide))⟩
    · exact ⟨_, rfl, takeLine_mode run ((estopEvent_moves level s).mode (by decide))⟩
    · exact ⟨_, rfl, takeLine_mode run ((lineInputEvent_moves x level s).mode (by decide))⟩
    · exact ⟨_, rfl, takeEvent_mode run ((debounceEvent_moves x s).mode (by decide))⟩
    · exact ⟨_, rfl, takeEvent_mode run ((gaugeReadingEvent_moves t r s).mode (by decide))⟩

end Sys2Proof.Machine

/-! # Orders and deliveries refused -/

namespace Sys2Proof.Machine

open Sys2Proof

/-! ## Checks in order -/

theorem firstFailure_cons (failed : Bool) (st : Status) (rest : List (Bool × Status)) :
    firstFailure ((failed, st) :: rest) = if failed = true then some st else firstFailure rest := rfl

theorem firstFailure_mem {checks : List (Bool × Status)} {st : Status} (h : firstFailure checks = some st) :
    ∃ c ∈ checks, c.2 = st := by
  induction checks with
  | nil => cases h
  | cons c rest ih =>
    obtain ⟨failed, status⟩ := c
    rw [firstFailure_cons] at h
    split at h
    · cases h; exact ⟨_, List.mem_cons_self .., rfl⟩
    · obtain ⟨c, hc, e⟩ := ih h
      exact ⟨c, List.mem_cons_of_mem _ hc, e⟩

theorem checked_some {checks : List (Bool × Status)} {act : State → Answer} {s : State} {st : Status}
    (h : firstFailure checks = some st) : checked checks act s = refuse st s := by rw [checked, h]

theorem wake_mode (source : ModeSource) (s : State) : (wake source s).bay.mode ≠ .standby := by
  unfold wake
  split
  · exact changeMode_open_awake source s
  · assumption

theorem wake_wake (a b : ModeSource) (s : State) : wake a (wake b s) = wake b s := wake_awake (wake_mode b s)

theorem wake_ready {source : ModeSource} {s : State} (h : s.Ready) : (wake source s).Ready :=
  ⟨(wake_moves source s).stopped.trans h.1, Eq.trans ((wake_moves source s).same .reports) h.2⟩

/-! ## An order refused (O33) -/

theorem readOrder_iff (f : OpenOrder) (r : OrderRequest) : readOrder f = some r ↔
    f.point = numberOf r.point ∧ f.kind = some r.kind ∧ f.override = some r.override ∧
    (f.machine = r.machine ∧ ∀ n ∈ r.machine, 1 ≤ n ∧ n ≤ 65534) ∧
    (f.preset = r.preset ∧ ∀ n ∈ r.preset, 1 ≤ n ∧ n ≤ 200000) ∧
    (f.manualHours = r.manualHours ∧ ∀ n ∈ r.manualHours, n ≤ 16777215) := by
  have ranges (machine preset hours : Option Nat) :
      (machine.all machineInRange && (preset.all fun x => 1 ≤ x && x ≤ 200000) && hours.all (· ≤ 16777215)) = true ↔
        (∀ n ∈ machine, 1 ≤ n ∧ n ≤ 65534) ∧ (∀ n ∈ preset, 1 ≤ n ∧ n ≤ 200000) ∧ ∀ n ∈ hours, n ≤ 16777215 := by
    cases machine <;> cases preset <;> cases hours <;> simp [machineInRange_iff, and_assoc]
  simp only [← numbered_eq_some]
  constructor
  · intro h
    unfold readOrder at h
    split at h
    · next point kind override =>
      split at h
      · next good =>
        cases h
        obtain ⟨machine, preset, hours⟩ := (ranges ..).1 good
        exact ⟨point, kind, override, ⟨rfl, machine⟩, ⟨rfl, preset⟩, rfl, hours⟩
      · cases h
    · cases h
  · rintro ⟨point, kind, override, ⟨machine, hmachine⟩, ⟨preset, hpreset⟩, hours, hhours⟩
    simp only [readOrder, point, kind, override, machine, preset, hours]
    exact if_pos ((ranges ..).2 ⟨hmachine, hpreset, hhours⟩)

theorem accountChecks_untaken {machine : Nat} {kind : OrderKind} {product : ProductId} {override : Bool} {s : State} :
    ∀ c ∈ accountChecks machine kind product override s, c.2.taken = false := by
  unfold accountChecks
  split <;> simp [Status.taken, Status.code]

theorem orderChecks_untaken {v : Via} {r : OrderRequest} {s : State} : ∀ c ∈ orderChecks v r s, c.2.taken = false := by
  intro c hc
  rw [orderChecks, List.mem_append] at hc
  rcases hc with hc | hc
  · revert c; simp [Status.taken, Status.code]
  · split at hc
    · exact accountChecks_untaken c hc
    · revert c; simp [Status.taken, Status.code]

theorem kindFits_eq_false (kind : OrderKind) (product : ProductKind) : kindFits kind product = false ↔
    (kind = .fuel ∧ product ≠ .fuel) ∨ (kind = .waste ∧ product ≠ .waste) ∨
      ((kind = .service ∨ kind = .topup) ∧ product ≠ .lube ∧ product ≠ .coolant) := by
  cases kind <;> cases product <;> decide

/-- R21, checks 10 to 13: the account's own checks. -/
theorem firstFailure_account {machine : Nat} {kind : OrderKind} {product : ProductId} {override : Bool} {s : State}
    {a : Account} (found : s.account machine = some a) : firstFailure (accountChecks machine kind product override s) =
      if a.status = .barred then some .accountBarred
      else if a.status.name = .held ∧ override = false then some .accountHeld
      else if 3 ≤ a.openSet.length ∨ ∃ n ∈ a.openSet, s.productOfOrder n = some product then some .machineInUse
      else if kind = .fuel ∧ a.allowance ≠ 0 ∧ a.allowance ≤ a.shiftUsed ∧ override = false then some .allowanceSpent
      else none := by
  simp only [accountChecks, found, firstFailure, Bool.and_eq_true, Bool.or_eq_true, List.any_eq_true, decide_eq_true_eq,
    Bool.not_eq_true', and_assoc]

/-- Settles O33. -/
theorem orderRefused : Obligations.OrderRefused := by
  intro v f s ready w
  have woken : w.Ready := wake_ready ready
  have refused {st : Status} (h : openOrderChecked v f w = refuse st w) (untaken : st.taken = false) :
      exec (.openOrder v f) s = .next (answered v 0x10 st [] w) := by
    have awake : wakeBy (.openOrder v f) w = w := wake_wake ..
    have twice : serveRequest v 0x10 (.openOrder v f) s = serveRequest v 0x10 (.openOrder v f) w :=
      serveRequest_woken ready.1 woken.1 rfl awake
    change Host.Outcome.next (serveRequest v 0x10 (.openOrder v f) s) = _
    rw [twice, request_refused woken awake ?_ untaken]
    · rfl
    · change openOrderChecked v f (wake _ w) = _
      rw [wake_wake, h]
  refine ⟨readOrder_iff f, fun unread => refused (by rw [openOrderChecked, unread]) rfl, fun r read => ?_⟩
  intro set u kind account refusal
  have first : firstFailure (orderChecks v r w) = refusal := by
    simp only [orderChecks, List.cons_append, List.nil_append, firstFailure_cons, Bool.or_eq_true, Bool.and_eq_true,
      Bool.not_eq_true', decide_eq_true_eq, kindFits_eq_false, Option.isNone_iff_eq_none, refusal]
    cases r.machine with
    | none =>
      simp only [firstFailure, Bool.and_eq_true, Bool.not_eq_true', decide_eq_true_eq]
      rfl
    | some machine =>
      cases found : w.account machine with
      | none =>
        simp only [accountChecks, found, firstFailure, if_true]
        rfl
      | some a =>
        simp only [firstFailure_account found, found]
        rfl
  refine ⟨first, fun st h => ?_⟩
  rw [← first] at h
  obtain ⟨c, hc, e⟩ := firstFailure_mem h
  exact refused (by simp only [openOrderChecked, read, checked_some h]) (e ▸ orderChecks_untaken c hc)

/-! ## A delivery refused (O39) -/

theorem readDelivery_iff (f : OpenDelivery) (r : DeliveryRequest) : readDelivery f = some r ↔
    f.inlet = numberOf r.inlet ∧ f.tank = numberOf r.tank ∧ f.product = numberOf r.product ∧
    (f.tanker = r.tanker ∧ 1 ≤ r.tanker.length ∧ r.tanker.length ≤ 12 ∧ ∀ c ∈ r.tanker, 0x20 ≤ c ∧ c ≤ 0x7E) ∧
    (f.declared = r.declared ∧ ∀ n ∈ r.declared, 1 ≤ n ∧ n ≤ 9999999) := by
  have ranges (tanker : List Nat) (declared : Option Nat) :
      (decide (1 ≤ tanker.length) && decide (tanker.length ≤ 12) && tanker.all isPrintable &&
        (declared.all fun x => 1 ≤ x && x ≤ 9999999)) = true ↔
      (1 ≤ tanker.length ∧ tanker.length ≤ 12 ∧ ∀ c ∈ tanker, 0x20 ≤ c ∧ c ≤ 0x7E) ∧
        ∀ n ∈ declared, 1 ≤ n ∧ n ≤ 9999999 := by
    cases declared <;> simp [isPrintable_iff, and_assoc]
  simp only [← numbered_eq_some]
  constructor
  · intro h
    unfold readDelivery at h
    split at h
    · next inlet tank product =>
      split at h
      · next good =>
        cases h
        obtain ⟨tanker, declared⟩ := (ranges ..).1 good
        exact ⟨inlet, tank, product, ⟨rfl, tanker⟩, rfl, declared⟩
      · cases h
    · cases h
  · rintro ⟨inlet, tank, product, ⟨tanker, htanker⟩, declared, hdeclared⟩
    simp only [readDelivery, inlet, tank, product, tanker, declared]
    exact if_pos ((ranges ..).2 ⟨htanker, hdeclared⟩)

theorem deliveryChecks_untaken {v : Via} {r : DeliveryRequest} {s : State} :
    ∀ c ∈ deliveryChecks v r s, c.2.taken = false := by
  simp [deliveryChecks, Status.taken, Status.code]

/-- Settles O39. -/
theorem deliveryRefused : Obligations.DeliveryRefused := by
  intro v f s ready w
  have woken : w.Ready := wake_ready ready
  have refused {st : Status} (h : openDeliveryChecked v f w = refuse st w) (untaken : st.taken = false) :
      exec (.openDelivery v f) s = .next (answered v 0x18 st [] w) := by
    have awake : wakeBy (.openDelivery v f) w = w := wake_wake ..
    have twice : serveRequest v 0x18 (.openDelivery v f) s = serveRequest v 0x18 (.openDelivery v f) w :=
      serveRequest_woken ready.1 woken.1 rfl awake
    change Host.Outcome.next (serveRequest v 0x18 (.openDelivery v f) s) = _
    rw [twice, request_refused woken awake ?_ untaken]
    · rfl
    · change openDeliveryChecked v f (wake _ w) = _
      rw [wake_wake, h]
  refine ⟨readDelivery_iff f, fun unread => refused (by rw [openDeliveryChecked, unread]) rfl, fun r read => ?_⟩
  intro set refusal
  have first : firstFailure (deliveryChecks v r w) = refusal := by
    simp only [deliveryChecks, firstFailure, State.isWaste, State.bookAtHighCut, Bool.or_eq_true, Bool.not_eq_true', decide_eq_true_eq,
      List.contains_eq_mem, decide_eq_false_iff_not, or_assoc]
    rfl
  refine ⟨first, fun st h => ?_⟩
  rw [← first] at h
  obtain ⟨c, hc, e⟩ := firstFailure_mem h
  exact refused (by simp only [openDeliveryChecked, read, checked_some h]) (e ▸ deliveryChecks_untaken c hc)

end Sys2Proof.Machine

/-! # The nozzle receiver and the line of a link -/

namespace Sys2Proof.Machine

open Sys2Proof

/-! ## The nozzle receiver (O37) -/

theorem sum_toNat_eq_length_filter {α : Type} (p : α → Bool) (xs : List α) :
    (xs.map fun x => (p x).toNat).sum = (xs.filter p).length := by
  induction xs with
  | nil => rfl
  | cons x xs ih =>
    rw [List.map_cons, List.sum_cons, ih, List.filter_cons]
    cases p x <;> simp [Nat.add_comm]

theorem isGoodNozzleFrame_iff (f : NozzleFrame) : isGoodNozzleFrame f = true ↔
    (((List.range 8).filter f.data.getLsbD).length + f.mark.toNat + f.parity.toNat) % 2 = 0 ∧ f.stop = true := by
  rw [isGoodNozzleFrame, onesOf, sum_toNat_eq_length_filter, Bool.and_eq_true, decide_eq_true_eq]

/-- R27: a message of six characters, its number of the machine and its hours high byte first. -/
theorem identityOf_six (a b c d e g : Byte) (now : Nat) : identityOf [a, b, c, d, e, g] now =
    if (a.toNat + b.toNat + c.toNat + d.toNat + e.toNat + g.toNat) % 256 = 0 ∧
        1 ≤ a.toNat * 256 + b.toNat ∧ a.toNat * 256 + b.toNat ≤ 65534 then
      some ⟨a.toNat * 256 + b.toNat, (c.toNat * 256 + d.toNat) * 256 + e.toNat, now⟩
    else none := by
  have sum : ([a, b, c, d, e, g].map BitVec.toNat).sum =
      a.toNat + b.toNat + c.toNat + d.toNat + e.toNat + g.toNat := by
    simp [Nat.add_assoc]
  have machine : spelled ([a, b, c, d, e, g].take 2) = a.toNat * 256 + b.toNat := by simp [spelled]
  have hours : spelled (([a, b, c, d, e, g].drop 2).take 3) = (c.toNat * 256 + d.toNat) * 256 + e.toNat := by
    simp [spelled]
  rw [identityOf, sum, machine, hours]

/-- Settles O37. -/
theorem nozzleReceiver : Obligations.NozzleReceiver := by
  intro f good
  refine ⟨isGoodNozzleFrame_iff f, rfl, ?_, fun message => ⟨fun bad => ?_, fun fine mark => ?_, fun fine data short => ?_,
    fun fine data last => ?_, fun a b c d e g now six => six ▸ identityOf_six a b c d e g now⟩⟩
  · simp only [receive, Bool.and_eq_true, decide_eq_true_eq, and_assoc]
    split <;> rfl
  · simp only [receive, show isGoodNozzleFrame f = false from bad, Bool.not_false, if_true]
  · simp only [receive, show isGoodNozzleFrame f = true from fine, mark, Bool.not_true, Bool.false_eq_true, if_false, if_true]
  · simp only [receive, show isGoodNozzleFrame f = true from fine, data, Bool.not_true, Bool.false_eq_true, if_false,
      List.length_append, List.length_singleton]
    exact if_pos (by omega)
  · simp only [receive, show isGoodNozzleFrame f = true from fine, data, Bool.not_true, Bool.false_eq_true, if_false,
      List.length_append, List.length_singleton]
    exact if_neg (by omega)

/-! ## The line (O52) -/

theorem updLink_eq (l : Link) (f : LinkUnit → LinkUnit) (s : State) :
    s.updLink l f = { s with links := put s.links l (f (s.link l)) } := rfl

theorem updLink_updLink (l : Link) (f g : LinkUnit → LinkUnit) (s : State) :
    (s.updLink l f).updLink l g = s.updLink l fun u => g (f u) := by
  simp [State.updLink]

theorem RestartOwed.ended_eq (x : RestartOwed) : x.ended = if x = .replying then .over else x := by
  cases x <;> rfl

/-- Of two instants the one on this side of the point midway is no farther. -/
theorem abs_sub_le_of_midway {w a b : ℚ} (h : a = b ∨ (a < b ∧ 2 * w ≤ a + b) ∨ (b < a ∧ a + b ≤ 2 * w)) :
    |w - a| ≤ |w - b| := by
  rw [← sq_le_sq]
  rcases h with rfl | ⟨order, side⟩ | ⟨order, side⟩ <;> nlinarith

/-- R179: the comparison of two rates is by the point midway between their bit times. -/
theorem nearerFaster_true {slow fast width : Nat} (hs : 0 < slow) (hf : 0 < fast) (h : nearerFaster slow fast width = true) :
    2 * (width : ℚ) ≤ 1000000000 / slow + 1000000000 / fast := by
  have least : 2 * width * slow * fast ≤ 1000000000 * (slow + fast) := by
    simp only [nearerFaster, Bool.or_eq_true, decide_eq_true_eq, Bool.and_eq_true] at h
    omega
  rw [div_add_div _ _ (by positivity) (by positivity), le_div_iff₀ (by positivity)]
  have : (2 * width * slow * fast : ℚ) ≤ 1000000000 * (slow + fast) := by exact_mod_cast least
  linarith

theorem nearerFaster_false {slow fast width : Nat} (hs : 0 < slow) (hf : 0 < fast) (h : nearerFaster slow fast width = false) :
    1000000000 / slow + 1000000000 / fast ≤ 2 * (width : ℚ) := by
  have most : 1000000000 * (slow + fast) ≤ 2 * width * slow * fast := by
    simp only [nearerFaster, Bool.or_eq_false_iff, decide_eq_false_iff_not] at h
    omega
  rw [div_add_div _ _ (by positivity) (by positivity), div_le_iff₀ (by positivity)]
  have : (1000000000 * (slow + fast) : ℚ) ≤ 2 * width * slow * fast := by exact_mod_cast most
  linarith

/-- R179: the rate found has the bit time nearest to the width. -/
theorem nearestRate_nearest (width : Nat) (r : Rate) :
    |(width : ℚ) - 1000000000 / (nearestRate width).bits| ≤ |(width : ℚ) - 1000000000 / r.bits| := by
  have faster {slow fast : Nat} (hs : 0 < slow) (hf : 0 < fast) :=
    And.intro (nearerFaster_true (width := width) hs hf) (nearerFaster_false (width := width) hs hf)
  obtain ⟨a, a'⟩ := faster (slow := 57600) (fast := 115200) (by omega) (by omega)
  obtain ⟨b, b'⟩ := faster (slow := 38400) (fast := 57600) (by omega) (by omega)
  obtain ⟨c, c'⟩ := faster (slow := 19200) (fast := 38400) (by omega) (by omega)
  obtain ⟨d, d'⟩ := faster (slow := 9600) (fast := 19200) (by omega) (by omega)
  clear faster
  refine abs_sub_le_of_midway ?_
  unfold nearestRate
  split_ifs <;> cases r <;> simp_all only [Bool.not_eq_true, forall_const] <;> norm_num [Rate.bits] at * <;> linarith

/-- Settles O52. -/
theorem linkLine : Obligations.LinkLine := by
  intro l s ready u linkAs
  have event {f : State → State} {t : State} (h : f s = t) (handed : t.stock.reports = []) :
      Host.Outcome.next (takeEvent f s) = (.next t : Host.Outcome State Fault Refusal) := by
    rw [takeEvent_running ready.1, h, handReports_none handed]
  have seeks (seek : u.rate = none) : ¬(s.link l).rate.isSome := by simpa [u] using seek
  refine ⟨fun width seek => ⟨event (if_pos ⟨by simpa [u] using seek, rfl, rfl⟩) ready.2, nearestRate_nearest width⟩,
    fun width char good other => event (if_neg ?_) ready.2, fun locked => event ?_ ready.2,
    fun seek => event (if_neg (seeks seek)) ready.2,
    fun locked => ⟨event (if_pos locked) ready.2, event (if_pos locked) ready.2⟩,
    fun seek => ⟨event (if_neg (seeks seek)) ready.2, event (if_neg (seeks seek)) ready.2⟩,
    fun idle => event ?_ ready.2, fun serving none => event ?_ ready.2, fun tag code serving waits locked => event ?_ ready.2⟩
  · rintro ⟨seek, start, fine⟩
    rcases other with locked | other | bad
    · simp_all [u]
    · exact other start
    · rw [fine] at bad; cases bad
  · rw [breakEvent, if_pos locked, updLink_eq, RestartOwed.ended_eq]
  · simp only [replySentEvent, show (s.link l).service = none from idle]
  · obtain ⟨reply, serves⟩ := Option.isSome_iff_exists.1 serving
    simp only [replySentEvent, show (s.link l).service = some reply from serves, link_updLink_self,
      show (s.link l).busyWaiting = Option.none from none, RestartOwed.ended_eq]
    rfl
  · obtain ⟨reply, serves⟩ := Option.isSome_iff_exists.1 serving
    simp only [replySentEvent, show (s.link l).service = some reply from serves, link_updLink_self,
      show (s.link l).busyWaiting = some (tag, code) from waits, State.reply, updLink_updLink,
      RestartOwed.ended_eq]
    rw [updLink_eq, if_pos locked]
    rfl

end Sys2Proof.Machine

/-! # Good frames and what they spell -/

namespace Sys2Proof.Machine

open Sys2Proof

/-! ## The characters of a frame (R181) -/

theorem spelled_one (a : Byte) : spelled [a] = a.toNat := by simp [spelled]

theorem spelled_two (a b : Byte) : spelled [a, b] = a.toNat * 256 + b.toNat := by simp [spelled]

theorem spelled_four (a b c d : Byte) : spelled [a, b, c, d] =
    ((a.toNat * 256 + b.toNat) * 256 + c.toNat) * 256 + d.toNat := by simp [spelled]

theorem readFrame_iff (bytes : List Byte) (g : GoodFrame) : readFrame bytes = some g ↔
    ∃ len hi lo : Byte, bytes = len :: g.tag :: g.code :: (g.payload ++ [hi, lo]) ∧
      len.toNat = g.payload.length + 2 ∧ len.toNat ≤ 250 ∧
      (crc16 (len :: g.tag :: g.code :: g.payload)).toNat = hi.toNat * 256 + lo.toNat := by
  constructor
  · intro h
    unfold readFrame at h
    split at h
    · next len tag code rest =>
      dsimp only at h
      split_ifs at h with size check
      cases h
      obtain ⟨low, high, whole⟩ := size
      have long : rest.length = len.toNat := by simpa using whole
      obtain ⟨hi, lo, last⟩ : ∃ hi lo, rest.drop (len.toNat - 2) = [hi, lo] :=
        List.length_eq_two.1 (by rw [List.length_drop]; omega)
      obtain ⟨k, hk⟩ : ∃ k, len.toNat = k + 2 := ⟨len.toNat - 2, by omega⟩
      have first : (len :: tag :: code :: rest).take (len.toNat + 1) = len :: tag :: code :: rest.take (len.toNat - 2) := by
        rw [hk]; rfl
      have check' : (len :: tag :: code :: rest).drop (len.toNat + 1) = [hi, lo] := by rw [← last, hk]; rfl
      rw [first, check', spelled_two] at check
      refine ⟨len, hi, lo, ?_, ?_, high, check⟩
      · rw [← last, List.take_append_drop]
      · simp only [List.length_take]
        omega
    · cases h
  · rintro ⟨len, hi, lo, rfl, size, high, check⟩
    have first : (len :: g.tag :: g.code :: (g.payload ++ [hi, lo])).take (len.toNat + 1) =
        len :: g.tag :: g.code :: g.payload := by
      simp [size]
    have last : (len :: g.tag :: g.code :: (g.payload ++ [hi, lo])).drop (len.toNat + 1) = [hi, lo] := by
      simp [size]
    have payload : (g.payload ++ [hi, lo]).take (len.toNat - 2) = g.payload := by simp [size]
    unfold readFrame
    dsimp only
    rw [if_pos ⟨by omega, high, by simp [size]⟩, first, last, spelled_two, if_pos check, payload]

/-- R181: what each byte makes of the CRC. -/
theorem crc16_append (bytes : List Byte) (b : Byte) : crc16 (bytes ++ [b]) =
    [7, 6, 5, 4, 3, 2, 1, 0].foldl
      (fun (crc : BitVec 16) bit => if crc.getLsbD 15 ≠ b.getLsbD bit then (crc <<< 1) ^^^ 0x1021 else crc <<< 1)
      (crc16 bytes) := by
  have bits : (fun c i => crcBit c (b.getLsbD i)) = fun (crc : BitVec 16) bit =>
      if crc.getLsbD 15 ≠ b.getLsbD bit then (crc <<< 1) ^^^ 0x1021 else crc <<< 1 := by
    funext crc bit
    simp only [crcBit, bne_iff_ne, BitVec.msb_eq_getLsbD_last]
  rw [crc16, List.foldl_append, List.foldl_cons, List.foldl_nil, crcByte, bits]
  rfl

/-! ## The catalogue (section 10.4) -/

section
variable {v : Via} {code : Nat} {p : List Byte} {key : Bool} {i : Instr}

/-- A request spelled under a CODE has that CODE, and is taken on its link with its TAG. -/
theorem requestOf_request (h : requestOf v code p key = .request i) : viaOf i = some v ∧ requestCode i = some code := by
  unfold requestOf at h
  split at h
  all_goals first
    | exact FrameContent.noConfusion h
    | (obtain rfl := FrameContent.request.inj h; exact ⟨rfl, rfl⟩)
    | skip
  · unfold stockReportOf at h
    split at h <;> first
      | exact FrameContent.noConfusion h
      | (obtain rfl := FrameContent.request.inj h; exact ⟨rfl, rfl⟩)
  · unfold adjustStockOf at h
    split at h <;> (obtain rfl := FrameContent.request.inj h; exact ⟨rfl, rfl⟩)
  · unfold setModeOf at h
    split at h <;> first
      | exact FrameContent.noConfusion h
      | (obtain rfl := FrameContent.request.inj h; exact ⟨rfl, rfl⟩)

end

/-- Section 10.4, R194: the CODEs of the catalogue, each with its payload length. -/
def catalogueLengths : List (Nat × Nat) :=
  [(0x01, 0), (0x02, 0), (0x03, 1), (0x04, 3), (0x05, 0), (0x06, 2), (0x07, 7), (0x10, 13), (0x11, 5), (0x12, 1),
    (0x13, 0), (0x18, 19), (0x19, 5), (0x1A, 1), (0x20, 2), (0x21, 7), (0x22, 2), (0x30, 2), (0x31, 0), (0x32, 2),
    (0x33, 42), (0x34, 42), (0x35, 2), (0x36, 9), (0x37, 6), (0x38, 2), (0x39, 1), (0x3A, 11), (0x40, 0), (0x41, 3),
    (0x42, 7), (0x43, 9), (0x48, 9), (0x49, 4), (0x50, 0), (0x51, 1), (0x52, 4), (0x53, 9), (0x54, 0), (0x60, 35),
    (0x61, 4), (0x62, 27), (0x63, 17), (0x64, 103), (0x65, 2), (0x66, 2)]

theorem payloadLength_listed : ∀ x ∈ catalogueLengths, payloadLength x.1 = some x.2 := by decide

theorem payloadLength_iff (code length : Nat) :
    payloadLength code = some length ↔ (code, length) ∈ catalogueLengths := by
  refine ⟨fun h => ?_, payloadLength_listed _⟩
  unfold payloadLength at h
  split at h <;> cases h <;> decide

section
variable {l : Link} {tag code : Byte} {payload : List Byte} {key : Bool}

/-- R194: a payload of the request's one length. -/
theorem frameContent_whole (h : payloadLength code.toNat = some payload.length) :
    frameContent l ⟨tag, code, payload⟩ key = requestOf ⟨l, tag, none⟩ code.toNat payload key := by
  simp only [frameContent, h, if_true]

/-- R183, R194: that length and a trailing part number. -/
theorem frameContent_part (h : payloadLength code.toNat = some payload.length) (part : Byte) :
    frameContent l ⟨tag, code, payload ++ [part]⟩ key = requestOf ⟨l, tag, some part⟩ code.toNat payload key := by
  simp [frameContent, h]

end

/-- R182, R183: the request that a frame spells is taken on its link with its TAG and its part. -/
theorem frameContent_request {l : Link} {g : GoodFrame} {key : Bool} {i : Instr}
    (h : frameContent l g key = .request i) :
    viaOf i = some ⟨l, g.tag, takeFrame.partOf g⟩ ∧ requestCode i = some g.code.toNat := by
  unfold frameContent at h
  dsimp only at h
  split at h
  · cases h
  · next n length =>
    split_ifs at h with whole part
    · rw [takeFrame.partOf, if_pos (by rw [length, whole])]
      exact requestOf_request h
    · rw [takeFrame.partOf, if_neg (by rw [length, part]; simp)]
      exact requestOf_request h
    

/-- A mode of STOCK_REPORT that is not numbered. -/
def badReportMode (code : Byte) (payload : List Byte) : Prop :=
  code = 0x20 ∧ ∃ k mode, payload = [k, mode] ∧ mode ≠ 1 ∧ mode ≠ 2

/-- A mode of SET_MODE that is not numbered. -/
def badBayMode (code : Byte) (payload : List Byte) : Prop :=
  code = 0x51 ∧ ∃ mode : Byte, payload = [mode] ∧ (mode = 0 ∨ 4 < mode.toNat)

theorem toNat_eq_of_ne {b : Byte} {n : Nat} (hn : n < 256) : b.toNat = n ↔ b = BitVec.ofNat 8 n := by
  constructor
  · rintro rfl; simp
  · rintro rfl; simp; omega

section
variable {v : Via} {code : Byte} {payload : List Byte} {key : Bool}

/-- Log entry 27: a mode that is not numbered is out of range. -/
theorem requestOf_badMode (h : badReportMode code payload ∨ badBayMode code payload) :
    requestOf v code.toNat payload key = .outOfRange := by
  rcases h with ⟨rfl, k, mode, rfl, one, two⟩ | ⟨rfl, mode, rfl, range⟩
  · have byte : fieldAt [k, mode] 1 1 = mode.toNat := by simp [fieldAt, spelled]
    change stockReportOf v [k, mode] = _
    rw [stockReportOf, byte]
    split
    · next h => exact absurd ((toNat_eq_of_ne (by omega)).1 h) one
    · next h => exact absurd ((toNat_eq_of_ne (by omega)).1 h) two
    · rfl
  · have byte : fieldAt [mode] 0 1 = mode.toNat := by simp [fieldAt, spelled]
    have high : mode.toNat = 0 ∨ 4 < mode.toNat := range.imp_left (congrArg BitVec.toNat)
    change setModeOf v [mode] = _
    rw [setModeOf, byte]
    split <;> first | omega | rfl

/-- Every other payload of a request's length is a request. -/
theorem requestOf_numbered {n : Nat} (h : payloadLength n = some payload.length)
    (report : n = 0x20 → fieldAt payload 1 1 = 1 ∨ fieldAt payload 1 1 = 2)
    (mode : n = 0x51 → 1 ≤ fieldAt payload 0 1 ∧ fieldAt payload 0 1 ≤ 4) : ∃ i, requestOf v n payload key = .request i := by
  by_cases isReport : n = 0x20
  · subst isReport
    change ∃ i, stockReportOf v payload = .request i
    rcases report rfl with h | h <;> rw [stockReportOf, h] <;> exact ⟨_, rfl⟩
  by_cases isMode : n = 0x51
  · subst isMode
    change ∃ i, setModeOf v payload = .request i
    have : fieldAt payload 0 1 = 1 ∨ fieldAt payload 0 1 = 2 ∨ fieldAt payload 0 1 = 3 ∨ fieldAt payload 0 1 = 4 := by
      have := mode rfl
      omega
    rcases this with h | h | h | h <;> rw [setModeOf, h] <;> exact ⟨_, rfl⟩
  by_cases isAdjust : n = 0x21
  · subst isAdjust
    change ∃ i, adjustStockOf v payload = .request i
    unfold adjustStockOf
    split <;> exact ⟨_, rfl⟩
  unfold payloadLength at h
  split at h <;> first
    | exact ⟨_, rfl⟩
    | exact absurd rfl isReport
    | exact absurd rfl isMode
    | exact absurd rfl isAdjust
    | cases h

theorem requestOf_isRequest (h : payloadLength code.toNat = some payload.length) (report : ¬badReportMode code payload)
    (mode : ¬badBayMode code payload) : ∃ i, requestOf v code.toNat payload key = .request i := by
  refine requestOf_numbered h (fun isReport => ?_) fun isMode => ?_
  · have long : payload.length = 2 := by
      rw [isReport] at h; exact (Option.some.inj h).symm
    obtain ⟨k, m, rfl⟩ := List.length_eq_two.1 long
    have byte : fieldAt [k, m] 1 1 = m.toNat := by simp [fieldAt, spelled]
    rw [byte, toNat_eq_of_ne (n := 1) (by omega), toNat_eq_of_ne (n := 2) (by omega)]
    by_contra none
    exact report ⟨(toNat_eq_of_ne (n := 0x20) (by omega)).1 isReport, k, m, rfl, fun e => none (.inl e),
      fun e => none (.inr e)⟩
  · have long : payload.length = 1 := by
      rw [isMode] at h; exact (Option.some.inj h).symm
    obtain ⟨m, rfl⟩ := List.length_eq_one_iff.1 long
    have byte : fieldAt [m] 0 1 = m.toNat := by simp [fieldAt, spelled]
    rw [byte]
    by_contra none
    refine mode ⟨(toNat_eq_of_ne (n := 0x51) (by omega)).1 isMode, m, rfl, ?_⟩
    by_cases zero : m.toNat = 0
    · exact .inl ((toNat_eq_of_ne (n := 0) (by omega)).1 zero)
    · exact .inr (by omega)

end

/-! ## What the fields spell (R194) -/

theorem eq_ones (b : Byte) : b = 0xFF ↔ b.toNat = 255 := (toNat_eq_of_ne (n := 255) (by omega)).symm

/-- R194: all ones is absent. -/
theorem ones_two (a b : Byte) : a.toNat * 256 + b.toNat = 65535 ↔ a = 0xFF ∧ b = 0xFF := by
  rw [eq_ones, eq_ones]
  omega

theorem ones_four (a b c d : Byte) : ((a.toNat * 256 + b.toNat) * 256 + c.toNat) * 256 + d.toNat = 4294967295 ↔
    a = 0xFF ∧ b = 0xFF ∧ c = 0xFF ∧ d = 0xFF := by
  rw [eq_ones, eq_ones, eq_ones, eq_ones]
  omega

section
variable {p : List Byte} {offset : Nat} {a b c d : Byte}

theorem optionAt_two (h : (p.drop offset).take 2 = [a, b]) : optionAt p offset 2 =
    if a = 0xFF ∧ b = 0xFF then none else some (a.toNat * 256 + b.toNat) := by
  simp only [optionAt, fieldAt, h, spelled_two]
  exact if_congr (ones_two a b) rfl rfl

theorem optionAt_four (h : (p.drop offset).take 4 = [a, b, c, d]) : optionAt p offset 4 =
    if a = 0xFF ∧ b = 0xFF ∧ c = 0xFF ∧ d = 0xFF then none
    else some (((a.toNat * 256 + b.toNat) * 256 + c.toNat) * 256 + d.toNat) := by
  simp only [optionAt, fieldAt, h, spelled_four]
  exact if_congr (ones_four a b c d) rfl rfl

/-- R194: a signed number in two's complement. -/
theorem signedAt_four (h : (p.drop offset).take 4 = [a, b, c, d]) : signedAt p offset 4 =
    let n := ((a.toNat * 256 + b.toNat) * 256 + c.toNat) * 256 + d.toNat
    if n < 2147483648 then (n : Int) else (n : Int) - 4294967296 := by
  have range : 256 ^ [a, b, c, d].length = 4294967296 := by norm_num
  simp only [signedAt, spelledSigned, h, spelled_four, range]
  exact if_congr (by omega) rfl rfl

end

theorem eq_code (b : Byte) : (b = 1 ↔ b.toNat = 1) ∧ (b = 2 ↔ b.toNat = 2) ∧ (b = 3 ↔ b.toNat = 3) ∧ (b = 4 ↔ b.toNat = 4) :=
  ⟨(toNat_eq_of_ne (n := 1) (by omega)).symm, (toNat_eq_of_ne (n := 2) (by omega)).symm,
    (toNat_eq_of_ne (n := 3) (by omega)).symm, (toNat_eq_of_ne (n := 4) (by omega)).symm⟩

/-- R194: what the codes 1 to 4 number. -/
theorem coded_four {α : Type} (x y z w : α) (b : Byte) : coded [x, y, z, w] b.toNat =
    if b = 1 then some x else if b = 2 then some y else if b = 3 then some z else if b = 4 then some w else none := by
  obtain ⟨one, two, three, four⟩ := eq_code b
  simp only [one, two, three, four, coded]
  rcases b.toNat with _ | _ | _ | _ | _ | n <;> simp

theorem coded_three {α : Type} (x y z : α) (b : Byte) : coded [x, y, z] b.toNat =
    if b = 1 then some x else if b = 2 then some y else if b = 3 then some z else none := by
  obtain ⟨one, two, three, -⟩ := eq_code b
  simp only [one, two, three, coded]
  rcases b.toNat with _ | _ | _ | _ | n <;> simp

theorem coded_two {α : Type} (x y : α) (b : Byte) : coded [x, y] b.toNat =
    if b = 1 then some x else if b = 2 then some y else none := by
  obtain ⟨one, two, -⟩ := eq_code b
  simp only [one, two, coded]
  rcases b.toNat with _ | _ | _ | n <;> simp

/-- R194: a text, its padding of spaces taken off. -/
theorem textAt_spaces (p : List Byte) (offset width : Nat) : ∃ spaces,
    (((p.drop offset).take width).map BitVec.toNat) = textAt p offset width ++ List.replicate spaces 0x20 ∧
      (textAt p offset width).getLast? ≠ some 0x20 := by
  simp only [textAt]
  generalize ((p.drop offset).take width).map BitVec.toNat = chars
  refine ⟨(chars.reverse.takeWhile (· = 0x20)).length, ?_, ?_⟩
  · have pad : chars.reverse.takeWhile (· = 0x20) =
        List.replicate (chars.reverse.takeWhile (· = 0x20)).length 0x20 :=
      List.eq_replicate_iff.2 ⟨rfl, fun c hc => by simpa using List.mem_takeWhile_imp hc⟩
    rw [← List.reverse_replicate, ← pad, ← List.reverse_append, List.takeWhile_append_dropWhile, List.reverse_reverse]
  · rw [List.getLast?_reverse]
    intro h
    have := List.head?_dropWhile_not (· = 0x20) chars.reverse
    simp_all

end Sys2Proof.Machine

/-! # The good frame as a command -/

namespace Sys2Proof.Machine

open Sys2Proof

/-- Settles O53. -/
theorem goodFrames : Obligations.GoodFrames := by
  refine ⟨readFrame_iff, ⟨rfl, crc16_append⟩, fun l bytes key g s run read => ?_, payloadLength_iff, fun l tag key => ?_⟩
  · intro u hunting
    have event {t : State} (h : goodFrameEvent l bytes key s = t) : exec (.goodFrame l bytes key) s = .next t := by
      change Host.Outcome.next (whileRunning (goodFrameEvent l bytes key) s) = _
      rw [whileRunning, if_neg (by rw [show s.bay.stopped = false from run]; nofun), h]
    have hunts (locked : u.rate.isSome) : huntAgain l s = hunting := if_pos locked
    refine ⟨fun seek => event (if_neg (by simpa [u] using seek)), fun locked busy => event ?_, fun locked free => ?_⟩
    · rw [goodFrameEvent, if_pos locked]
      simp only [read]
      rw [if_pos busy, hunts locked]
      simp only [refuseBusy, updLink_eq, hunting, State.link, look_put_self, put_put]
    · have taken : goodFrameEvent l bytes key s = takeFrame l g key hunting := by
        rw [goodFrameEvent, if_pos locked]
        simp only [read]
        rw [if_neg (by rw [show (s.link l).inService = false from free]; nofun), hunts locked]
      refine ⟨fun i spells => ?_, fun unknown => event ?_, fun n length short part => event ?_, fun range => event ?_⟩
      · obtain ⟨via, coded⟩ := frameContent_request spells
        refine ⟨⟨_, via, rfl, rfl⟩, coded, ?_⟩
        rw [event taken, exec_request via coded, takeFrame, spells, serveRequest, whileRunning,
          if_neg (by rw [show hunting.bay.stopped = false from run]; nofun)]
      · rw [taken, takeFrame, frameContent]
        simp only [unknown]
      · rw [taken, takeFrame, frameContent]
        simp only [length, short, part, if_false]
      · rw [taken, takeFrame, range]
  · intro content
    refine ⟨fun code payload length => ⟨fun part bad => ?_, fun report mode => ?_⟩, ?_⟩
    · change badReportMode code payload ∨ badBayMode code payload at bad
      exact ⟨(frameContent_whole length).trans (requestOf_badMode bad),
        (frameContent_part length part).trans (requestOf_badMode bad)⟩
    · have spells (v : Via) : ∃ i, requestOf v code.toNat payload key = .request i ∧ viaOf i = some v ∧
          requestCode i = some code.toNat := by
        obtain ⟨i, h⟩ := requestOf_isRequest (v := v) (key := key) length report mode
        exact ⟨i, h, requestOf_request h⟩
      refine ⟨?_, fun part => ?_⟩
      · simp only [content, frameContent_whole length]
        exact spells _
      · simp only [content, frameContent_part length part]
        exact spells _
    · intro v word long word? long? first kind
      refine ⟨fun p a b c d => ?_, fun m a b c => ?_, fun a b => ?_, fun p k m n a b c d a' b' c' d' o => ?_, fun x p b => ?_,
        fun k form a b c d reason => ?_, fun m members level => ?_, fun n a b c d e f g h => ?_,
        fun i k p chars a b c d twelve => ?_⟩
      · refine (frameContent_whole rfl).trans ?_
        change FrameContent.request (.stopOrder v ⟨fieldAt _ 0 1, fieldAt _ 1 4⟩) = _
        simp [fieldAt, spelled, long]
      · refine (frameContent_whole rfl).trans ?_
        change FrameContent.request (.setPump v ⟨fieldAt _ 0 1, fieldAt _ 1 1, fieldAt _ 2 2⟩) = _
        simp [fieldAt, spelled, word]
      · refine (frameContent_whole rfl).trans ?_
        change FrameContent.request (.readDeferred v (optionAt _ 0 2)) = _
        rw [optionAt_two (a := a) (b := b) rfl]
      · refine (frameContent_whole rfl).trans ?_
        change FrameContent.request (.openOrder v (openOrderOf _)) = _
        have machine : optionAt [p, k, m, n, a, b, c, d, a', b', c', d', o] 2 2 = _ := optionAt_two (a := m) (b := n) rfl
        have preset : optionAt [p, k, m, n, a, b, c, d, a', b', c', d', o] 4 4 = _ :=
          optionAt_four (a := a) (b := b) (c := c) (d := d) rfl
        have hours : optionAt [p, k, m, n, a, b, c, d, a', b', c', d', o] 8 4 = _ :=
          optionAt_four (a := a') (b := b') (c := c') (d := d') rfl
        simp only [openOrderOf, choiceAt, machine, preset, hours, fieldAt, List.drop_succ_cons, List.drop_zero,
          List.take_succ_cons, List.take_zero, spelled_one, orderKinds, coded_four, coded_two]
        rfl
      · refine (frameContent_whole rfl).trans ?_
        change FrameContent.request (.releaseTrip v (latchNameOf _) key) = _
        simp only [latchNameOf, fieldAt, List.drop_succ_cons, List.drop_zero, List.take_succ_cons, List.take_zero,
          spelled_one, coded_three]
      · refine (frameContent_whole rfl).trans ?_
        change adjustStockOf v _ = _
        have signed : signedAt [k, form, a, b, c, d, reason] 2 4 = _ :=
          signedAt_four (a := a) (b := b) (c := c) (d := d) rfl
        obtain ⟨one, two, -⟩ := eq_code form
        have byte : fieldAt [k, form, a, b, c, d, reason] 1 1 = form.toNat := spelled_one form
        have tank : fieldAt [k, form, a, b, c, d, reason] 0 1 = k.toNat := spelled_one k
        have why : fieldAt [k, form, a, b, c, d, reason] 6 1 = reason.toNat := spelled_one reason
        rw [adjustStockOf, byte, tank, why]
        split
        · next h => rw [if_pos (one.2 h)]
        · next h => rw [if_neg (c := form = 1) (by rw [one]; omega), if_pos (c := form = 2) (two.2 h), signed]
        · next no1 no2 => rw [if_neg fun e => no1 (one.1 e), if_neg fun e => no2 (two.1 e)]
      · refine (frameContent_whole rfl).trans ?_
        change FrameContent.request (.setSubscription v ⟨fieldAt _ 0 1, (setAt _ 1 1 5).bind classesOf, fieldAt _ 2 1⟩) = _
        simp only [setAt, fieldAt, List.drop_succ_cons, List.drop_zero, List.take_succ_cons, List.take_zero, spelled_one,
          show 2 ^ 5 = 32 from rfl]
        split <;> rfl
      · refine (frameContent_whole rfl).trans ?_
        change FrameContent.request (.setShiftTable v (listAt _ 0 4 2 fun i => fieldAt _ i 2)) = _
        have items : (fun i => fieldAt [n, a, b, c, d, e, f, g, h] (0 + 1 + i * 2) 2) = fun i =>
            spelled (([a, b, c, d, e, f, g, h].drop (i * 2)).take 2) := by
          funext i
          rw [fieldAt, Nat.zero_add, Nat.add_comm, List.drop_succ_cons]
        simp only [listAt, items]
        have count : fieldAt [n, a, b, c, d, e, f, g, h] 0 1 = n.toNat := spelled_one n
        rw [count]
        split
        · next short =>
          have takes : ∀ count ≤ 4, (List.range count).map (fun i => spelled (([a, b, c, d, e, f, g, h].drop (i * 2)).take 2)) =
              [word a b, word c d, word e f, word g h].take count := by
            intro count low
            have four : ([word a b, word c d, word e f, word g h] : List Nat) =
                (List.range 4).map fun i => spelled (([a, b, c, d, e, f, g, h].drop (i * 2)).take 2) := by
              simp only [word, ← spelled_two]; rfl
            rw [four, ← List.map_take, List.take_range, Nat.min_eq_left low]
          exact congrArg (fun x => FrameContent.request (.setShiftTable v (some x))) (takes _ short)
        · rfl
      · have length : payloadLength (0x18 : Byte).toNat = some ([i, k, p] ++ chars ++ [a, b, c, d]).length := by
          simp only [List.length_append, twelve]; rfl
        have text : (([i, k, p] ++ chars ++ [a, b, c, d]).drop 3).take 12 = chars := by simp [twelve]
        have declared : optionAt ([i, k, p] ++ chars ++ [a, b, c, d]) 15 4 = _ :=
          optionAt_four (a := a) (b := b) (c := c) (d := d) (by simp [twelve])
        obtain ⟨spaces, padded, last⟩ := textAt_spaces ([i, k, p] ++ chars ++ [a, b, c, d]) 3 12
        rw [text] at padded
        refine ⟨_, spaces, padded, last, (frameContent_whole length).trans ?_⟩
        change FrameContent.request (.openDelivery v (openDeliveryOf _)) = _
        rw [openDeliveryOf, declared]
        have byte {x : Byte} {n : Nat} (h : (([i, k, p] ++ chars ++ [a, b, c, d]).drop n).take 1 = [x]) :
            fieldAt ([i, k, p] ++ chars ++ [a, b, c, d]) n 1 = x.toNat := by rw [fieldAt, h, spelled_one]
        rw [byte (x := i) (n := 0) rfl, byte (x := k) (n := 1) rfl, byte (x := p) (n := 2) rfl]

end Sys2Proof.Machine

/-! # Accounts added, deleted and read in turn -/

namespace Sys2Proof.Machine

open Sys2Proof

/-! ## The fields of an account (R105) -/

/-- R105: a service line as it was given. -/
def givenLine (l : ServiceLine) : LineFields := ⟨numberOf l.product, l.interval, l.lastService⟩

/-- R105, R108: a service line in its range, with its top-up 0, not yet evaluated. -/
def NewLine (l : ServiceLine) : Prop :=
  1 ≤ l.interval ∧ l.interval ≤ 10000 ∧ l.lastService ≤ 9999999 ∧ l.topUp = 0 ∧ l.state = .ok

theorem readLine_iff (x : LineFields) (l : ServiceLine) : readLine x = some l ↔ x = givenLine l ∧ NewLine l := by
  obtain ⟨product, interval, last⟩ := x
  unfold readLine
  constructor
  · intro h
    split at h
    · next k hk =>
      split at h
      · next range =>
        cases h
        have number : product = numberOf k := numbered_eq_some.1 hk
        exact ⟨by rw [givenLine, number], range.1, range.2.1, range.2.2, rfl, rfl⟩
      · cases h
    · cases h
  · rintro ⟨given, low, high, hours, top, ok⟩
    obtain ⟨k, i, h, t, st⟩ := l
    cases given
    cases top
    cases ok
    simp only [numbered_numberOf]
    exact if_pos ⟨low, high, hours⟩

theorem readLines_iff (xs : List LineFields) (ls : List ServiceLine) :
    readLines xs = some ls ↔ xs = ls.map givenLine ∧ ∀ l ∈ ls, NewLine l := by
  induction xs generalizing ls with
  | nil => cases ls <;> simp [readLines]
  | cons x xs ih =>
    cases ls with
    | nil =>
      unfold readLines
      split <;> simp
    | cons l ls =>
      rw [List.map_cons, List.cons.injEq, List.forall_mem_cons, and_and_and_comm, ← ih, ← readLine_iff]
      constructor
      · intro h
        unfold readLines at h
        split at h
        · next first rest => cases h; exact ⟨first, rest⟩
        · cases h
      · rintro ⟨first, rest⟩
        simp only [readLines, first, rest]

theorem readLineList_iff (x : Coded (List LineFields)) (ls : List ServiceLine) :
    readLineList x = some ls ↔ x = some (ls.map givenLine) ∧ ls.length ≤ 4 ∧ ∀ l ∈ ls, NewLine l := by
  cases x with
  | none => simp [readLineList]
  | some xs =>
    unfold readLineList
    dsimp only
    split
    · next short =>
      rw [readLines_iff, Option.some.injEq]
      refine and_congr_right fun given => ?_
      rw [given, List.length_map] at short
      exact ⟨fun h => ⟨short, h⟩, fun h => h.2⟩
    · next long =>
      refine ⟨nofun, fun ⟨given, short, _⟩ => absurd ?_ long⟩
      rwa [Option.some.inj given, List.length_map]

theorem readClassId_iff (n : Nat) (c : ClassId) : readClassId n = some c ↔ n = c.val := by
  refine ⟨fun h => ?_, readClassId_val⟩
  unfold readClassId at h
  split at h
  · cases h; rfl
  · cases h

theorem writtenStatus_iff (n : StatusName) (x : AccountStatus) :
    writtenStatus n = x ↔ n = x.name ∧ ∀ reason, x = .held reason → reason = .link := by
  cases n <;> cases x <;> simp [writtenStatus, AccountStatus.name, eq_comm]

/-- R105, R108: the record of ADD_ACCOUNT, field by field. -/
theorem newAccount_iff (f : AddAccount) (now : Nat) (a : Account) : newAccount f now = some a ↔
    (f.machine = a.machine ∧ 1 ≤ a.machine ∧ a.machine ≤ 65534) ∧ f.klass = a.klass.val ∧
    (f.status = some a.status.name ∧ ∀ reason, a.status = .held reason → reason = .link) ∧
    (f.allowance = a.allowance ∧ a.allowance ≤ 200000) ∧ f.action = some a.action ∧
    (f.lines = some (a.lines.map fun l => ⟨numberOf l.product, l.interval, l.lastService⟩) ∧ a.lines.length ≤ 4 ∧
      ∀ l ∈ a.lines, 1 ≤ l.interval ∧ l.interval ≤ 10000 ∧ l.lastService ≤ 9999999 ∧ l.topUp = 0 ∧ l.state = .ok) ∧
    (a.hourMeter = f.hourMeter.map (fun x => ⟨x, now⟩) ∧ ∀ x ∈ f.hourMeter, x ≤ 9999999) ∧
    a.fullRef = none ∧ a.burnAverage = none ∧ a.fuelSinceFull = 0 ∧ a.samplesTaken = 0 ∧ a.samplesRejected = 0 ∧
    a.implausibleRun = 0 ∧ a.shiftUsed = 0 ∧ a.fuelTotal = 0 ∧ a.openSet = [] := by
  have ranges (machine allowance : Nat) (hours : Option Nat) :
      (machineInRange machine && allowanceInRange allowance && hours.all (· ≤ Config.maxHours)) = true ↔
        (1 ≤ machine ∧ machine ≤ 65534) ∧ allowance ≤ 200000 ∧ ∀ x ∈ hours, x ≤ 9999999 := by
    rw [Bool.and_eq_true, Bool.and_eq_true, and_assoc, machineInRange_iff, Option.all_eq_true, allowanceInRange,
      decide_eq_true_eq]
    simp only [decide_eq_true_eq]
    rfl
  have lines := readLineList_iff f.lines
  simp only [NewLine] at lines
  constructor
  · intro h
    unfold newAccount at h
    split at h
    · next klass status action ls hklass hstatus haction hlines =>
      split at h
      · next good =>
        cases h
        obtain ⟨machine, allowance, hours⟩ := (ranges ..).1 good
        obtain ⟨name, reason⟩ := (writtenStatus_iff status _).1 rfl
        exact ⟨⟨rfl, machine⟩, (readClassId_iff ..).1 hklass, ⟨hstatus.trans (congrArg some name), reason⟩, ⟨rfl, allowance⟩, haction,
          (lines _).1 hlines, ⟨rfl, hours⟩, rfl, rfl, rfl, rfl, rfl, rfl, rfl, rfl, rfl⟩
      · cases h
    · cases h
  · obtain ⟨machine, klass, status, hourMeter, fullRef, fuelSinceFull, burnAverage, taken, rejected, run, allowance,
      shiftUsed, fuelTotal, action, ls, openSet⟩ := a
    rintro ⟨⟨rfl, hmachine⟩, hklass, ⟨hstatus, reason⟩, ⟨rfl, hallowance⟩, haction, hlines, ⟨rfl, hours⟩, rfl, rfl, rfl, rfl,
      rfl, rfl, rfl, rfl, rfl⟩
    have written := (writtenStatus_iff _ status).2 ⟨rfl, reason⟩
    simp only [newAccount, (readClassId_iff ..).2 hklass, hstatus, haction, (lines _).2 hlines, written]
    exact if_pos ((ranges ..).2 ⟨hmachine, hallowance, hours⟩)

/-! ## Deletes deferred (R140, R141) -/

theorem code_delete (c : DeferredChange) : c.code = DeferredChange.delete.code ↔ c = .delete := by
  cases c with
  | delete => simp
  | write w => cases w <;> simp [DeferredChange.code]

theorem newPlaces_single (machine : Nat) (c : DeferredChange) (queue : List DeferredEntry) :
    newPlaces machine [c] queue = if queue.any (DeferredEntry.sameAs machine c) then 0 else 1 := by
  rw [newPlaces, List.countP_singleton]
  cases queue.any (DeferredEntry.sameAs machine c) <;> simp

section
variable {machine : Nat} {source : Link} {queue : List DeferredEntry}

theorem deferDelete_new (fresh : queue.any (DeferredEntry.sameAs machine .delete) = false) (room : queue.length < 16) :
    deferChanges machine [.delete] source queue = some (queue ++ [⟨machine, .delete, source⟩]) := by
  rw [deferChanges, newPlaces_single, fresh, if_neg (by simp only [Config.maxDeferred, Bool.false_eq_true, if_false]; omega)]
  simp only [List.foldl_cons, List.foldl_nil, mergeDeferred, fresh, Bool.false_eq_true, if_false]

theorem deferDelete_full (fresh : queue.any (DeferredEntry.sameAs machine .delete) = false) (full : 16 ≤ queue.length) :
    deferChanges machine [.delete] source queue = none := by
  rw [deferChanges, newPlaces_single, fresh, if_pos (by simp only [Config.maxDeferred, Bool.false_eq_true, if_false]; omega)]

/-- R140: a delete that waits keeps its place, and takes the source of the later one. -/
theorem deferDelete_again (waits : queue.any (DeferredEntry.sameAs machine .delete) = true) (bound : queue.length ≤ 16) :
    deferChanges machine [.delete] source queue = some (queue.map fun e =>
      if e.machine = machine ∧ e.change = .delete then { e with source := source } else e) := by
  rw [deferChanges, newPlaces_single, waits, if_neg (by simp only [Config.maxDeferred, if_true]; omega)]
  simp only [List.foldl_cons, List.foldl_nil, mergeDeferred, waits, if_true]
  refine congrArg some (List.map_congr_left fun e _ => ?_)
  obtain ⟨m, c, l⟩ := e
  have same : DeferredEntry.sameAs machine .delete ⟨m, c, l⟩ = true ↔ m = machine ∧ c = .delete := by
    rw [DeferredEntry.sameAs, Bool.and_eq_true, decide_eq_true_eq, decide_eq_true_eq, code_delete]
  rw [if_congr same rfl rfl]
  split
  · next h => rw [h.1, h.2]
  · rfl

end

/-- Settles O42. -/
theorem accountsAddedAndDeleted : Obligations.AccountsAddedAndDeleted := by
  refine ⟨newAccount_iff, fun v s ready zero => ⟨fun accounts => ⟨fun f unread => ?_, fun f a read => ?_, fun machine out => ?_,
    fun machine low high => ⟨fun missing => ?_, fun a found => ?_⟩⟩, fun a above => ?_, fun a none last => ?_, fun empty => ?_⟩⟩
  · have asked : requestAnswer (.addAccount v f) s = addAccountRequest v f s := rfl
    simp only [addAccountRequest, accounts, unread, Bool.not_true, Bool.false_eq_true, if_false] at asked
    exact congrArg Host.Outcome.next (request_refused (code := 0x33) ready rfl asked rfl)
  · obtain ⟨⟨hmachine, _⟩, hklass, ⟨hstatus, reason⟩, ⟨hallowance, _⟩, haction, ⟨hlines, _, lines⟩, ⟨hours, _⟩, fullRef, burn,
      fuel, taken, rejected, run, used, total, openSet⟩ := (newAccount_iff f _ a).1 read
    refine ⟨hmachine.symm, hklass, hallowance.symm, haction, hstatus, hlines, fullRef, burn, fuel, taken, rejected, run, used,
      total, openSet, fun l hl => (lines l hl).2.2.2.1, hours, reason, ?_⟩
    have asked : requestAnswer (.addAccount v f) s = addAccountRequest v f s := rfl
    simp only [addAccountRequest, accounts, read, Bool.not_true, Bool.false_eq_true, if_false] at asked
    split_ifs with duplicate full
    · rw [if_pos duplicate] at asked
      exact congrArg Host.Outcome.next (request_refused (code := 0x33) ready rfl asked rfl)
    · rw [if_neg duplicate, if_pos (show Config.maxAccounts ≤ _ from full)] at asked
      exact congrArg Host.Outcome.next (request_refused (code := 0x33) ready rfl asked rfl)
    · rw [if_neg duplicate, if_neg (show ¬Config.maxAccounts ≤ _ from full)] at asked
      exact congrArg Host.Outcome.next (request_done (code := 0x33) ready rfl zero asked
        (Eq.trans ((postAll_moves ..).same .reports) ready.2))
  · have asked : requestAnswer (.deleteAccount v machine) s = refuse .range s := by
      change deleteAccountRequest v machine s = _
      have beyond : machineInRange machine = false := by
        rw [← Bool.not_eq_true, machineInRange_iff]
        omega
      simp only [deleteAccountRequest, accounts, beyond, Bool.not_true, Bool.false_eq_true, if_false, Bool.not_false, if_true]
    exact congrArg Host.Outcome.next (request_refused (code := 0x35) ready rfl asked rfl)
  · have asked : requestAnswer (.deleteAccount v machine) s = refuse .notFound s := by
      change deleteAccountRequest v machine s = _
      simp only [deleteAccountRequest, accounts, (machineInRange_iff machine).2 ⟨low, high⟩, missing, Bool.not_true,
        Bool.false_eq_true, if_false]
    exact congrArg Host.Outcome.next (request_refused (code := 0x35) ready rfl asked rfl)
  · have asked : requestAnswer (.deleteAccount v machine) s = deleteAccountRequest v machine s := rfl
    simp only [deleteAccountRequest, accounts, (machineInRange_iff machine).2 ⟨low, high⟩, found, List.isEmpty_iff,
      Bool.not_true, Bool.false_eq_true, if_false] at asked
    refine ⟨fun free => ?_, fun held fresh room => ?_, fun held fresh full => ?_, fun held waits bound => ?_⟩
    · rw [if_pos free] at asked
      exact congrArg Host.Outcome.next (request_done (code := 0x35) ready rfl zero asked ready.2)
    all_goals rw [if_neg held] at asked
    · simp only [deferDelete_new fresh room] at asked
      exact congrArg Host.Outcome.next (request_answered (code := 0x35) ready rfl asked ready.2 (.inr (hasPart_of_zero zero)))
    · simp only [deferDelete_full fresh full] at asked
      exact congrArg Host.Outcome.next (request_refused (code := 0x35) ready rfl asked rfl)
    · simp only [deferDelete_again waits bound] at asked
      exact congrArg Host.Outcome.next (request_answered (code := 0x35) ready rfl asked ready.2 (.inr (hasPart_of_zero zero)))
  · have asked : requestAnswer (.readNextAccount v) s = readNextAccountRequest v s := rfl
    simp only [readNextAccountRequest, above] at asked
    exact congrArg Host.Outcome.next (request_answered (code := 0x31) ready rfl asked ready.2 (.inr (hasPart_of_zero zero)))
  · have asked : requestAnswer (.readNextAccount v) s = readNextAccountRequest v s := rfl
    simp only [readNextAccountRequest, none, last] at asked
    exact congrArg Host.Outcome.next (request_answered (code := 0x31) ready rfl asked ready.2 (.inr (hasPart_of_zero zero)))
  · have asked : requestAnswer (.readNextAccount v) s = readNextAccountRequest v s := rfl
    simp only [readNextAccountRequest, State.accountAbove, empty, List.find?_nil, List.getLast?_nil] at asked
    exact congrArg Host.Outcome.next (request_refused (code := 0x31) ready rfl asked rfl)

end Sys2Proof.Machine

/-! # WRITE_ACCOUNT -/

namespace Sys2Proof.Machine

open Sys2Proof

/-! ## The writes that a request names (R112, R138) -/

section
variable {α β γ : Type} {x : Option α} {f : α → Option β} {g : α → Option γ} {c : γ → β} {ys : List β}

/-- R138: a field that is read is absent, or is one write. -/
theorem readField_some (hf : ∀ a, f a = (g a).map c) (h : readField x f = some ys) :
    ∃ z : Option γ, ys = z.toList.map c ∧ x.map g = z.map some := by
  cases x with
  | none => cases h; exact ⟨none, rfl, rfl⟩
  | some x =>
    simp only [readField, hf, Option.map_map, Option.map_eq_some_iff] at h
    obtain ⟨z, hz, rfl⟩ := h
    exact ⟨some z, rfl, by simp [hz]⟩

/-- R138: what is read of a field, where each value read is read of one value given. -/
theorem eq_map_of_read {given : γ → α} (hg : ∀ a z, g a = some z → a = given z) {z : Option γ} (h : x.map g = z.map some) :
    x = z.map given := by
  cases x <;> cases z <;> simp_all
  exact hg _ _ h

theorem exists_read {z : Option γ} (h : x.map g = z.map some) {y : γ} (hy : y ∈ z) : ∃ a, g a = some y := by
  cases x <;> cases z <;> simp_all
  exact ⟨_, h⟩

theorem readField_isSome : (readField x f).isSome ↔ ∀ y ∈ x, (f y).isSome := by
  cases x <;> simp [readField]

end

theorem readLine_isSome (x : LineFields) : (readLine x).isSome ↔
    1 ≤ x.product ∧ x.product ≤ 8 ∧ 1 ≤ x.interval ∧ x.interval ≤ 10000 ∧ x.lastService ≤ 9999999 := by
  unfold readLine numbered
  by_cases product : 1 ≤ x.product ∧ x.product ≤ 8
  · rw [dif_pos (by omega)]
    dsimp only
    split
    · next range => exact ⟨fun _ => ⟨product.1, product.2, range⟩, fun _ => rfl⟩
    · next range => exact ⟨nofun, fun ⟨_, _, h⟩ => absurd h range⟩
  · rw [dif_neg (by omega)]
    exact ⟨nofun, fun ⟨low, high, _⟩ => absurd ⟨low, high⟩ product⟩

theorem readLines_isSome (xs : List LineFields) : (readLines xs).isSome ↔ ∀ x ∈ xs, (readLine x).isSome := by
  induction xs with
  | nil => simp [readLines]
  | cons x xs ih =>
    rw [List.forall_mem_cons, ← ih]
    rw [readLines]
    cases readLine x <;> cases readLines xs <;> simp

theorem readLineList_isSome (given : Coded (List LineFields)) : (readLineList given).isSome ↔
    ∃ ls, given = some ls ∧ ls.length ≤ 4 ∧ ∀ l ∈ ls,
      1 ≤ l.product ∧ l.product ≤ 8 ∧ 1 ≤ l.interval ∧ l.interval ≤ 10000 ∧ l.lastService ≤ 9999999 := by
  simp only [← readLine_isSome, ← readLines_isSome]
  cases given with
  | none => simp [readLineList]
  | some xs =>
    unfold readLineList
    by_cases short : xs.length ≤ 4 <;> simp [short]

theorem writesOf_isSome (f : WriteAccount) : (writesOf f).isSome ↔
    f.status ≠ some none ∧ (∀ n ∈ f.klass, n ≤ 15) ∧ (∀ n ∈ f.allowance, n ≤ 200000) ∧
    (∀ n ∈ f.hourMeter, n ≤ 9999999) ∧ f.action ≠ some none ∧
    ∀ given ∈ f.lines, ∃ ls, given = some ls ∧ ls.length ≤ 4 ∧ ∀ l ∈ ls,
      1 ≤ l.product ∧ l.product ≤ 8 ∧ 1 ≤ l.interval ∧ l.interval ≤ 10000 ∧ l.lastService ≤ 9999999 := by
  have coded {α β : Type} (x : Option (Coded α)) (c : α → β) : (readField x (·.map c)).isSome ↔ x ≠ some none := by
    rw [readField_isSome]
    rcases x with _ | _ | _ <;> simp
  have klass : (readField f.klass fun n => (readClassId n).map AccountWrite.klass).isSome ↔ ∀ n ∈ f.klass, n ≤ 15 := by
    rw [readField_isSome]
    refine forall₂_congr fun n _ => ?_
    unfold readClassId
    split <;> simp <;> omega
  have bounded (x : Option Nat) (p : Nat → Prop) [DecidablePred p] (c : Nat → AccountWrite) :
      (readField x fun n => if p n then some (c n) else none).isSome ↔ ∀ n ∈ x, p n := by
    rw [readField_isSome]
    refine forall₂_congr fun n _ => ?_
    split <;> simp [*]
  have lines : (readField f.lines fun ls => (readLineList ls).map AccountWrite.lines).isSome ↔
      ∀ given ∈ f.lines, (readLineList given).isSome := by
    rw [readField_isSome]
    simp
  have allowance : (readField f.allowance fun n =>
      if allowanceInRange n then some (AccountWrite.allowance n) else none).isSome ↔ ∀ n ∈ f.allowance, n ≤ 200000 :=
    (bounded ..).trans (by simp [allowanceInRange])
  have hours : (readField f.hourMeter fun n =>
      if n ≤ Config.maxHours then some (AccountWrite.hourMeter n) else none).isSome ↔ ∀ n ∈ f.hourMeter, n ≤ 9999999 :=
    bounded ..
  simp only [← coded f.status AccountWrite.status, ← klass, ← allowance, ← hours, ← coded f.action AccountWrite.action,
    ← readLineList_isSome, ← lines]
  constructor
  · intro h
    unfold writesOf at h
    split at h
    · next ha hb hc hd he hg => simp only [ha, hb, hc, hd, he, hg, Option.isSome_some, and_self]
    · cases h
  · rintro ⟨hstatus, hklass, hallowance, hhours, haction, hlines⟩
    obtain ⟨a, ha⟩ := Option.isSome_iff_exists.1 hstatus
    obtain ⟨b, hb⟩ := Option.isSome_iff_exists.1 hklass
    obtain ⟨c, hc⟩ := Option.isSome_iff_exists.1 hallowance
    obtain ⟨d, hd⟩ := Option.isSome_iff_exists.1 hhours
    obtain ⟨e, he⟩ := Option.isSome_iff_exists.1 haction
    obtain ⟨g, hg⟩ := Option.isSome_iff_exists.1 hlines
    simp only [writesOf, ha, hb, hc, hd, he, hg, Option.isSome_some]

/-- The fields that a request names, each in its range. -/
structure NamedWrites where
  status : Option StatusName
  klass : Option ClassId
  allowance : Option Nat
  hourMeter : Option Nat
  action : Option OverdueAction
  lines : Option (List ServiceLine)

/-- R112: the writes of the fields named, in its order. -/
def NamedWrites.writes (n : NamedWrites) : List AccountWrite :=
  n.status.toList.map .status ++ n.klass.toList.map .klass ++ n.allowance.toList.map .allowance ++
    n.hourMeter.toList.map .hourMeter ++ n.action.toList.map .action ++ n.lines.toList.map .lines

/-- R105, R138: the fields as they were given. -/
def NamedWrites.ReadFrom (n : NamedWrites) (f : WriteAccount) : Prop :=
  f.status = n.status.map some ∧ f.klass = n.klass.map Fin.val ∧ f.allowance = n.allowance ∧
  f.hourMeter = n.hourMeter ∧ f.action = n.action.map some ∧
  f.lines = n.lines.map (fun ls => some (ls.map givenLine)) ∧ ∀ ls ∈ n.lines, ∀ l ∈ ls, NewLine l

theorem writesOf_some {f : WriteAccount} {ws : List AccountWrite} (h : writesOf f = some ws) :
    ∃ n : NamedWrites, n.ReadFrom f ∧ ws = n.writes := by
  unfold writesOf at h
  split at h
  · next a b c d e g ha hb hc hd he hg =>
    cases h
    obtain ⟨status, rfl, hstatus⟩ := readField_some (g := id) (fun _ => rfl) ha
    obtain ⟨klass, rfl, hklass⟩ := readField_some (g := readClassId) (fun _ => rfl) hb
    obtain ⟨allowance, rfl, hallowance⟩ := readField_some (c := AccountWrite.allowance)
      (g := fun n => if allowanceInRange n then some n else none) (fun n => by split <;> rfl) hc
    obtain ⟨hourMeter, rfl, hhourMeter⟩ := readField_some (c := AccountWrite.hourMeter)
      (g := fun n => if n ≤ Config.maxHours then some n else none) (fun n => by split <;> rfl) hd
    obtain ⟨action, rfl, haction⟩ := readField_some (g := id) (fun _ => rfl) he
    obtain ⟨lines, rfl, hlines⟩ := readField_some (g := readLineList) (fun _ => rfl) hg
    refine ⟨⟨status, klass, allowance, hourMeter, action, lines⟩, ⟨?_, ?_, ?_, ?_, ?_, ?_, ?_⟩, rfl⟩
    · simpa using hstatus
    · exact eq_map_of_read (fun n c h => (readClassId_iff n c).1 h) hklass
    · simpa using eq_map_of_read (given := id) (fun n z h => by split at h <;> cases h; rfl) hallowance
    · simpa using eq_map_of_read (given := id) (fun n z h => by split at h <;> cases h; rfl) hhourMeter
    · simpa using haction
    · exact eq_map_of_read (fun xs ls h => ((readLineList_iff xs ls).1 h).1) hlines
    · intro ls hls
      obtain ⟨xs, h⟩ := exists_read hlines hls
      exact ((readLineList_iff xs ls).1 h).2.2
  · cases h


/-! ## What the writes hold -/

theorem NamedWrites.codes (n : NamedWrites) :
    (n.writes.map fun w => (DeferredChange.write w).code).Pairwise (· < ·) := by
  have part {α : Type} (x : Option α) (c : α → AccountWrite) (k : Nat) (h : ∀ y, (DeferredChange.write (c y)).code = k) :
      ((x.toList.map c).map fun w => (DeferredChange.write w).code).Sublist [k] := by
    cases x <;> simp [h]
  have order : (n.writes.map fun w => (DeferredChange.write w).code).Sublist [1, 2, 3, 4, 5, 6] := by
    simp only [NamedWrites.writes, List.map_append]
    exact (((((part n.status _ 1 fun _ => rfl).append (part n.klass _ 2 fun _ => rfl)).append
      (part n.allowance _ 3 fun _ => rfl)).append (part n.hourMeter _ 4 fun _ => rfl)).append
      (part n.action _ 5 fun _ => rfl)).append (part n.lines _ 6 fun _ => rfl)
  exact List.Pairwise.sublist order (by decide)

/-- A line's fields as given, its top-up and its state are the whole of it. -/
theorem givenLine_inj {l m : ServiceLine} (h : givenLine l = givenLine m) (top : l.topUp = m.topUp) (state : l.state = m.state) :
    l = m := by
  obtain ⟨k, i, last, t, st⟩ := l
  obtain ⟨k', i', last', t', st'⟩ := m
  simp only [givenLine, LineFields.mk.injEq, numberOf] at h
  obtain ⟨product, rfl, rfl⟩ := h
  obtain rfl : k = k' := Fin.ext (by omega)
  cases top
  cases state
  rfl

theorem map_givenLine_inj {ls ms : List ServiceLine} (h : ls.map givenLine = ms.map givenLine)
    (hl : ∀ l ∈ ls, l.topUp = 0 ∧ l.state = .ok) (hm : ∀ m ∈ ms, m.topUp = 0 ∧ m.state = .ok) : ls = ms := by
  induction ls generalizing ms with
  | nil => cases ms with
    | nil => rfl
    | cons => cases h
  | cons l ls ih =>
    cases ms with
    | nil => cases h
    | cons m ms =>
      obtain ⟨first, rest⟩ := List.cons.inj h
      obtain ⟨⟨tl, sl⟩, hl⟩ := List.forall_mem_cons.1 hl
      obtain ⟨⟨tm, sm⟩, hm⟩ := List.forall_mem_cons.1 hm
      rw [givenLine_inj first (tl.trans tm.symm) (sl.trans sm.symm), ih rest hl hm]

/-- R112, R138: the writes are the fields named, as given. -/
theorem writesOf_holds {f : WriteAccount} {ws : List AccountWrite} (h : writesOf f = some ws) :
    (ws.map fun w => (DeferredChange.write w).code).Pairwise (· < ·) ∧
    (∀ x, .status x ∈ ws ↔ f.status = some (some x)) ∧ (∀ x, .klass x ∈ ws ↔ f.klass = some x.val) ∧
    (∀ x, .allowance x ∈ ws ↔ f.allowance = some x) ∧ (∀ x, .hourMeter x ∈ ws ↔ f.hourMeter = some x) ∧
    (∀ x, .action x ∈ ws ↔ f.action = some (some x)) ∧
    ∀ ls, .lines ls ∈ ws ↔
      f.lines = some (some (ls.map fun l => ⟨numberOf l.product, l.interval, l.lastService⟩)) ∧
      ∀ l ∈ ls, l.topUp = 0 ∧ l.state = .ok := by
  obtain ⟨n, ⟨status, klass, allowance, hours, action, lines, fresh⟩, rfl⟩ := writesOf_some h
  refine ⟨n.codes, fun x => ?_, fun x => ?_, fun x => ?_, fun x => ?_, fun x => ?_, fun ls => ?_⟩
  · rw [status]; simp [NamedWrites.writes]
  · rw [klass]; simp [NamedWrites.writes, Fin.ext_iff]
  · rw [allowance]; simp [NamedWrites.writes]
  · rw [hours]; simp [NamedWrites.writes]
  · rw [action]; simp [NamedWrites.writes]
  · have named : AccountWrite.lines ls ∈ n.writes ↔ n.lines = some ls := by simp [NamedWrites.writes]
    rw [named, lines]
    constructor
    · intro held
      rw [held]
      exact ⟨rfl, fun l hl => (fresh ls held l hl).2.2.2⟩
    · rintro ⟨given, top⟩
      obtain ⟨ms, held, same⟩ := Option.map_eq_some_iff.1 given
      rw [held, map_givenLine_inj (Option.some.inj same) (fun l hl => (fresh ms held l hl).2.2.2) top]

/-! ## Evaluation (R121 to R124) -/

/-- R121, R123: the lines evaluated, and the notices of those that move up. -/
theorem evaluateLines_eq (machine : Nat) (h : Option HourMeter) (place : Nat) (ls : List ServiceLine) :
    evaluateLines machine h place ls = (ls.map fun l => { l with state := lineStateAt l (hoursSince h l) },
      (ls.zipIdx place).filterMap fun (l, place) =>
        if movesUp l.state (lineStateAt l (hoursSince h l)) then
          some (.serviceDue machine place l.product (lineStateAt l (hoursSince h l)) (hoursSince h l))
        else none) := by
  induction ls generalizing place with
  | nil => rfl
  | cons l rest ih =>
    rw [evaluateLines, ih]
    simp only [List.map_cons, List.zipIdx_cons, List.filterMap_cons]
    split <;> simp_all

theorem movesUp_iff (a b : LineState) : movesUp a b = true ↔ a = .ok ∧ b ≠ .ok ∨ a = .due ∧ b = .overdue := by
  cases a <;> cases b <;> decide

/-- R121: an account with its lines evaluated, before its overdue action. -/
def evaluatedLines (x : Account) : Account :=
  { x with lines := x.lines.map fun l => { l with state := lineStateAt l (hoursSince x.hourMeter l) } }

theorem reevaluate_eq (x : Account) : reevaluate x =
    ({ evaluatedLines x with status := applyAction (evaluatedLines x) },
      (x.lines.zipIdx 1).filterMap fun (l, place) =>
        if movesUp l.state (lineStateAt l (hoursSince x.hourMeter l)) then
          some (.serviceDue x.machine place l.product (lineStateAt l (hoursSince x.hourMeter l)) (hoursSince x.hourMeter l))
        else none) := by
  rw [reevaluate, evaluateLines_eq]
  rfl

/-- R124: the overdue action calls for a hold. -/
abbrev Overdue (a : Account) : Prop := a.action = .hold ∧ ∃ l ∈ a.lines, l.state = .overdue

theorem applyAction_active {a : Account} (h : a.status = .active) :
    applyAction a = if Overdue a then .held .service else .active := by
  simp only [applyAction, h, Overdue, List.any_eq_true, decide_eq_true_eq]

theorem applyAction_service {a : Account} (h : a.status = .held .service) :
    applyAction a = if Overdue a then .held .service else if a.implausibleRun = 3 then .held .hours else .active := by
  simp only [applyAction, h, Overdue, and_comm (b := a.action = .hold), List.any_eq_true, decide_eq_true_eq]

theorem applyAction_other {a : Account} (h : a.status ≠ .active) (h' : a.status ≠ .held .service) :
    applyAction a = a.status := by
  unfold applyAction
  split <;> simp_all

/-! ## Writes deferred (R140) -/

theorem sameAs_write_iff (machine : Nat) (w : AccountWrite) (e : DeferredEntry) :
    e.sameAs machine (.write w) = true ↔ e.machine = machine ∧ e.change.code = (DeferredChange.write w).code := by
  rw [DeferredEntry.sameAs, Bool.and_eq_true, decide_eq_true_eq, decide_eq_true_eq]

theorem any_sameAs_write_iff (machine : Nat) (w : AccountWrite) (queue : List DeferredEntry) :
    queue.any (DeferredEntry.sameAs machine (.write w)) = true ↔
      ∃ e ∈ queue, e.machine = machine ∧ e.change.code = (DeferredChange.write w).code := by
  simp only [List.any_eq_true, sameAs_write_iff]

theorem mergeDeferred_write (machine : Nat) (w : AccountWrite) (source : Link) (queue : List DeferredEntry) :
    mergeDeferred ⟨machine, .write w, source⟩ queue =
      if ∃ e ∈ queue, e.machine = machine ∧ e.change.code = (DeferredChange.write w).code then
        queue.map fun e =>
          if e.machine = machine ∧ e.change.code = (DeferredChange.write w).code then ⟨machine, .write w, source⟩ else e
      else queue ++ [⟨machine, .write w, source⟩] := by
  simp only [mergeDeferred, any_sameAs_write_iff, sameAs_write_iff]

theorem newPlaces_writes (machine : Nat) (ws : List AccountWrite) (queue : List DeferredEntry) :
    newPlaces machine (ws.map .write) queue = ws.countP fun w =>
      ¬∃ e ∈ queue, e.machine = machine ∧ e.change.code = (DeferredChange.write w).code := by
  rw [newPlaces, List.countP_map]
  refine List.countP_congr fun w _ => ?_
  simp only [Function.comp_apply, Bool.not_eq_true', decide_eq_true_eq, ← any_sameAs_write_iff, Bool.not_eq_true]

section
variable {v : Via} {f : WriteAccount} {ws : List AccountWrite} {s : State} (accounts : (s.perms v.link).accounts = true)
include accounts

theorem writeAccountRequest_unnamed (h : writesOf f = none ∨ writesOf f = some []) :
    writeAccountRequest v f s = refuse .range s := by
  rcases h with h | h <;>
    simp only [writeAccountRequest, accounts, h, Bool.not_true, Bool.false_eq_true, if_false]

variable (named : writesOf f = some ws) (some : ws ≠ [])
include named some

theorem writeAccountRequest_beyond (out : machineInRange f.machine = false) :
    writeAccountRequest v f s = refuse .range s := by
  obtain ⟨w, rest, rfl⟩ := List.exists_cons_of_ne_nil some
  simp only [writeAccountRequest, accounts, named, out, Bool.not_true, Bool.false_eq_true, if_false, Bool.not_false, if_true]

variable (inRange : machineInRange f.machine = true)
include inRange

theorem writeAccountRequest_missing (missing : s.account f.machine = Option.none) :
    writeAccountRequest v f s = refuse .notFound s := by
  obtain ⟨w, rest, rfl⟩ := List.exists_cons_of_ne_nil some
  simp only [writeAccountRequest, accounts, named, inRange, missing, Bool.not_true, Bool.false_eq_true, if_false]

variable {a : Account} (found : s.account f.machine = Option.some a)
include found

theorem writeAccountRequest_deleting (waits : s.deleteWaits f.machine = true) :
    writeAccountRequest v f s = refuse .accountDeleting s := by
  obtain ⟨w, rest, rfl⟩ := List.exists_cons_of_ne_nil some
  simp only [writeAccountRequest, accounts, named, inRange, found, waits, Bool.not_true, Bool.false_eq_true, if_false, if_true]

variable (free : s.deleteWaits f.machine = false)
include free

theorem writeAccountRequest_now (closed : a.openSet = []) :
    writeAccountRequest v f s = done (writeNow f.machine ws s) := by
  obtain ⟨w, rest, rfl⟩ := List.exists_cons_of_ne_nil some
  simp only [writeAccountRequest, accounts, named, inRange, found, free, closed, Bool.not_true, Bool.false_eq_true, if_false,
    List.isEmpty_nil, if_true]

theorem writeAccountRequest_full (held : a.openSet ≠ [])
    (full : deferChanges f.machine (ws.map .write) v.link s.accounts.deferred = none) :
    writeAccountRequest v f s = refuse .deferFull s := by
  obtain ⟨w, rest, rfl⟩ := List.exists_cons_of_ne_nil some
  simp only [writeAccountRequest, accounts, named, inRange, found, free, List.isEmpty_eq_false_iff.2 held, full, Bool.not_true,
    Bool.false_eq_true, if_false]

theorem writeAccountRequest_deferred (held : a.openSet ≠ []) {queue : List DeferredEntry}
    (placed : deferChanges f.machine (ws.map .write) v.link s.accounts.deferred = Option.some queue) :
    writeAccountRequest v f s = ⟨.deferred, [], s.setDeferred queue⟩ := by
  obtain ⟨w, rest, rfl⟩ := List.exists_cons_of_ne_nil some
  simp only [writeAccountRequest, accounts, named, inRange, found, free, List.isEmpty_eq_false_iff.2 held, placed, Bool.not_true,
    Bool.false_eq_true, if_false]

end

theorem writeNow_some {machine : Nat} {ws : List AccountWrite} {s : State} {a : Account} (found : s.account machine = some a) :
    writeNow machine ws s = postAll (applyWrites s.seconds ws a).2
      { s with accounts := { s.accounts with
          table := changeAccount machine (fun _ => (applyWrites s.seconds ws a).1) s.accounts.table } } := by
  simp only [writeNow, found]
  rfl

/-- Settles O43. -/
theorem writesAppliedOrDeferred : Obligations.WritesAppliedOrDeferred := by
  refine ⟨fun v f s ready zero accounts unnamed => ?_, writesOf_isSome, fun f ws => writesOf_holds,
    fun v f ws s ready zero accounts named some => ?_, fun now a => ?_⟩
  · exact congrArg Host.Outcome.next
      (request_refused (code := 0x34) ready rfl (writeAccountRequest_unnamed accounts unnamed) rfl)
  · intro entry place new
    have refused {q : Status} (asked : writeAccountRequest v f s = refuse q s) (untaken : q.taken = false := by rfl) :
        exec (.writeAccount v f) s = .next (answered v 0x34 q [] s) :=
      congrArg Host.Outcome.next (request_refused (code := 0x34) ready rfl asked untaken)
    refine ⟨fun out => refused (writeAccountRequest_beyond accounts named some ?_), fun low high => ?_⟩
    · rw [← Bool.not_eq_true, machineInRange_iff]
      omega
    have inRange := (machineInRange_iff f.machine).2 ⟨low, high⟩
    refine ⟨fun missing => refused (writeAccountRequest_missing accounts named some inRange missing), fun a found =>
      ⟨fun waits => refused (writeAccountRequest_deleting accounts named some inRange found waits),
      fun free closed => ?_, fun free held room => ?_, fun free held full => ?_⟩⟩
    · have asked := writeAccountRequest_now accounts named some inRange found free closed
      rw [writeNow_some found] at asked
      exact congrArg Host.Outcome.next (request_done (code := 0x34) ready rfl zero asked
        (Eq.trans ((postAll_moves ..).same .reports) ready.2))
    · have placed : deferChanges f.machine (ws.map .write) v.link s.accounts.deferred =
          Option.some (ws.foldl place s.accounts.deferred) := by
        rw [deferChanges, newPlaces_writes]
        refine (if_neg (Nat.not_lt.2 room)).trans ?_
        rw [List.foldl_map]
        exact congrArg Option.some (congrArg (fun f => ws.foldl f _) (funext₂ fun q w => mergeDeferred_write ..))
      exact congrArg Host.Outcome.next (request_answered (code := 0x34) ready rfl
        (writeAccountRequest_deferred accounts named some inRange found free held placed) ready.2 (.inr (hasPart_of_zero zero)))
    · refine refused (writeAccountRequest_full accounts named some inRange found free held ?_)
      rw [deferChanges, newPlaces_writes]
      exact if_pos full
  · intro evaluated
    have evaluation (x : Account) : reevaluate x = evaluated x := by
      rw [reevaluate_eq]
      refine Prod.ext (congrArg (fun status => { evaluatedLines x with status := status }) ?_)
        (List.filterMap_congr fun l _ => if_congr (movesUp_iff _ _) rfl rfl)
      split
      · next active => exact applyAction_active active
      · next service => exact applyAction_service service
      · next active service => exact applyAction_other active service
    exact ⟨rfl, rfl, rfl, fun _ => rfl, fun _ => rfl, fun x => evaluation _, fun x => evaluation _, fun ls => evaluation _, rfl,
      fun w rest => rfl⟩

end Sys2Proof.Machine

/-! # Long operations and their visits -/

namespace Sys2Proof.Machine

open Sys2Proof

/-- An event that leaves no exhaustion report waiting. -/
theorem takeEvent_eq {f : State → State} {s : State} (run : s.Running) (handed : (f s).stock.reports = []) :
    takeEvent f s = f s := by
  rw [takeEvent_running run, handReports_none handed]

/-! ## Links with notices posted (R189, R190) -/

/-- R190: a link unit that notices alone have changed. -/
structure LinkUnit.Noticed (u v : LinkUnit) : Prop where
  rest : v = { u with queue := v.queue, overflow := v.overflow, notice := v.notice }
  queue : u.queue <+: v.queue
  overflow : u.overflow = true → v.overflow = true

theorem LinkUnit.Noticed.refl (u : LinkUnit) : u.Noticed u := ⟨rfl, List.prefix_rfl, id⟩

theorem LinkUnit.Noticed.trans {u v w : LinkUnit} (h : u.Noticed v) (h' : v.Noticed w) : u.Noticed w :=
  ⟨by rw [h'.rest, h.rest], h.queue.trans h'.queue, h'.overflow ∘ h.overflow⟩

theorem LinkUnit.enqueue_noticed (level : Nat) (e : NoticeEntry) (u : LinkUnit) : u.Noticed (u.enqueue level e) := by
  unfold LinkUnit.enqueue LinkUnit.lineAt
  split
  · exact ⟨rfl, List.prefix_append .., id⟩
  · exact ⟨rfl, List.prefix_rfl, fun _ => rfl⟩

/-- R190: a state whose links notices alone have changed. -/
def State.Noticed (s t : State) : Prop := ∀ l, (s.link l).Noticed (t.link l)

theorem State.Noticed.of_links {s t : State} (h : t.links = s.links) : s.Noticed t := fun l => by
  rw [show t.link l = s.link l by simp only [State.link, h]]
  exact .refl _

theorem State.Noticed.trans {s t u : State} (h : s.Noticed t) (h' : t.Noticed u) : s.Noticed u :=
  fun l => (h l).trans (h' l)

/-- Notices posted once the rest of the state has moved. -/
theorem State.Noticed.once {s t u : State} (h : t.Noticed u) (links : t.links = s.links) : s.Noticed u :=
  (State.Noticed.of_links links).trans h

theorem State.Noticed.forEach {α : Type} {f : α → State → State} (h : ∀ x s, State.Noticed s (f x s)) (xs : List α)
    (s : State) : s.Noticed (forEach xs f s) :=
  forEach_invariant xs f (fun x t ht => ht.trans (h x t)) s (.of_links rfl)

theorem postTo_noticed (l : Link) (n : Notice) (s : State) : s.Noticed (s.postTo l n) := fun m => by
  rw [State.postTo, link_updLink]
  split
  · next same => exact same ▸ LinkUnit.enqueue_noticed ..
  · exact .refl _

theorem post_noticed (n : Notice) (s : State) : s.Noticed (s.post n) :=
  .forEach (f := fun l s => if subscribed (look s.store.links l).classes n then s.postTo l n else s)
    (fun l s => by split <;> [exact postTo_noticed l n s; exact .of_links rfl]) allLinks s

theorem postAll_noticed (ns : List Notice) (s : State) : s.Noticed (postAll ns s) := .forEach post_noticed ns s

theorem State.Noticed.running {s t : State} (h : s.Noticed t) (l : Link) : (t.link l).running = (s.link l).running := by
  rw [(h l).rest]

theorem writeNow_noticed (machine : Nat) (ws : List AccountWrite) (s : State) : s.Noticed (writeNow machine ws s) := by
  unfold writeNow
  split
  · exact .of_links rfl
  · next a _ =>
    exact (postAll_noticed (applyWrites s.seconds ws a).2 (s.updAccount machine fun _ => (applyWrites s.seconds ws a).1)).once rfl

/-! ## The figure of a scan (R133) -/

theorem leastOf_eq (xs : List Nat) : leastOf xs = xs.min? := by
  cases xs <;> rfl

/-- R133: the figures of a scan. -/
theorem scanFigure_iff (field : ScanField) (a : Account) (n : Nat) : scanFigure field a = some n ↔
    match field with
    | .serviceRemaining => (∃ x ∈ a.lines, n = remainingToDue a.hourMeter x) ∧ ∀ x ∈ a.lines, n ≤ remainingToDue a.hourMeter x
    | .burnAverage => a.burnAverage = some n
    | .shiftUsed => n = a.shiftUsed
    | .hourMeter => ∃ h ∈ a.hourMeter, n = h.value
    | .classNumber => n = a.klass.val
    | .status => n = match a.status with
      | .active => 0
      | .held _ => 1
      | .barred => 2 := by
  cases field with
  | serviceRemaining =>
    rw [scanFigure, leastOf_eq, List.min?_eq_some_iff, List.mem_map, List.forall_mem_map]
    simp only [eq_comm (a := n)]
  | burnAverage => rfl
  | shiftUsed | classNumber => simp only [scanFigure, Option.some.injEq, eq_comm]
  | hourMeter => simp only [scanFigure, Option.map_eq_some_iff, Option.mem_def, eq_comm (a := n)]
  | status => exact (Option.some.injEq ..).to_iff.trans eq_comm

theorem scanMatches_iff (w : ScanWork) (a : Account) : scanMatches w a = true ↔
    w.value = 4294967295 ∨ ∃ n, scanFigure w.field a = some n ∧
      match w.condition with
      | .equal => n = w.value
      | .atMost => n ≤ w.value
      | .atLeast => w.value ≤ n := by
  unfold scanMatches wildcard
  split
  · next wild => simp only [wild, true_or]
  · next wild =>
    rw [or_iff_right wild]
    cases scanFigure w.field a with
    | none => simp
    | some n => cases w.condition <;> simp

/-! ## Visits (R131, R136) -/

section
variable {l : Link} {tag : Byte} {s : State}

theorem completeLong_running {work : LongWork} (running : (s.link l).running = some ⟨work, tag⟩) (content : LongContent) :
    completeLong l content s = (s.updLink l fun u => { u with running := none, result := some ⟨content, tag⟩ }).postTo l
      (.operationDone content.kind tag content.outcome) := by
  simp only [completeLong, running]

theorem continueLong_running {old : LongWork} (running : (s.link l).running = some ⟨old, tag⟩) (work : LongWork) :
    continueLong l work s = s.updLink l fun u => { u with running := some ⟨work, tag⟩ } := by
  rw [continueLong, updLink_eq, updLink_eq, running]
  rfl

variable (ready : s.Ready)
include ready

/-- A visit that only changes the link units is the event itself. -/
theorem exec_scanVisit : exec (.scanVisit l) s = .next (scanVisitEvent l s) :=
  congrArg Host.Outcome.next (takeEvent_eq ready.1 (((scanVisitEvent_moves l s).same .reports).trans ready.2))

theorem exec_rangeVisit {w : RangeWork} (running : (s.link l).running = some ⟨.range w, tag⟩) :
    exec (.rangeVisit l) s = .next (rangeVisitWork l w s) := by
  have event : rangeVisitEvent l s = rangeVisitWork l w s := by simp only [rangeVisitEvent, running]
  rw [← event]
  exact congrArg Host.Outcome.next (takeEvent_eq ready.1 (((rangeVisitEvent_moves l s).same .reports).trans ready.2))

end

section
variable {machine : Nat} {w : AccountWrite} {l : Link} {queue : List DeferredEntry}

/-- R140: one write deferred in the place of an entry of the same machine and field. -/
theorem deferWrite_again (bound : queue.length ≤ 16)
    (named : ∃ e ∈ queue, e.machine = machine ∧ e.change.code = (DeferredChange.write w).code) :
    deferChanges machine [.write w] l queue = some (queue.map fun e =>
      if e.machine = machine ∧ e.change.code = (DeferredChange.write w).code then ⟨machine, .write w, l⟩ else e) := by
  rw [deferChanges, newPlaces_single, (any_sameAs_write_iff ..).2 named,
    if_neg (by simp only [Config.maxDeferred, if_true]; omega)]
  simp only [List.foldl_cons, List.foldl_nil, mergeDeferred_write, if_pos named]

variable (fresh : ¬∃ e ∈ queue, e.machine = machine ∧ e.change.code = (DeferredChange.write w).code)
include fresh

theorem deferWrite_new (room : queue.length < 16) :
    deferChanges machine [.write w] l queue = some (queue ++ [⟨machine, .write w, l⟩]) := by
  rw [deferChanges, newPlaces_single, if_neg (mt (any_sameAs_write_iff ..).1 fresh),
    if_neg (show ¬Config.maxDeferred < queue.length + 1 from Nat.not_lt.2 room)]
  simp only [List.foldl_cons, List.foldl_nil, mergeDeferred_write, if_neg fresh]

theorem deferWrite_full (full : 16 ≤ queue.length) : deferChanges machine [.write w] l queue = none := by
  rw [deferChanges, newPlaces_single, if_neg (mt (any_sameAs_write_iff ..).1 fresh),
    if_pos (show Config.maxDeferred < queue.length + 1 from Nat.lt_succ_of_le full)]

end

/-- Settles O46. -/
theorem longOperationVisits : Obligations.LongOperationVisits := by
  intro l tag s ready complete goOn
  refine ⟨fun w running => ?_, fun w running => ?_⟩
  · have event : exec (.scanVisit l) s = .next (scanVisitWork l w s) := by
      rw [exec_scanVisit ready, scanVisitEvent]
      simp only [running]
    rw [event]
    refine ⟨fun past => ?_, fun a above => ?_⟩
    · simp only [scanVisitWork, past, completeLong_running running]
      rfl
    · intro remaining isFigure meets matched
      have judged : scanMatches w a = true ↔ matched := by
        rw [scanMatches_iff]
        refine or_congr_right (exists_congr fun n => and_congr_left fun _ => ?_)
        exact scanFigure_iff ..
      refine ⟨fun other => ?_, fun hit more => ?_, fun hit last => ?_⟩
      · have missed : scanMatches w a = false := Bool.eq_false_iff.2 (mt judged.1 other)
        simp only [scanVisitWork, above, missed, Bool.false_eq_true, if_false, false_and, continueLong_running running]
        rfl
      · simp only [scanVisitWork, above, judged.2 hit, if_true, true_and, List.length_append, List.length_singleton,
          Nat.not_le.2 more, if_false, continueLong_running running]
        rfl
      · simp only [scanVisitWork, above, judged.2 hit, if_true, true_and, List.length_append, List.length_singleton, last,
          completeLong_running running]
        rfl
  · rw [exec_rangeVisit ready running]
    refine ⟨fun past => ?_, fun a above => ?_⟩
    · simp only [rangeVisitWork, past, completeLong_running running]
      rfl
    · intro inClass entry waiting named defers
      have filtered : (w.filter.any fun c => a.klass ≠ c) = true ↔ ¬inClass := by
        simp only [Option.any_eq_true, decide_eq_true_eq, inClass, not_forall, exists_prop]
        rfl
      refine ⟨fun beyond => ?_, fun within other => ?_, fun within inside waits => ?_, fun within inside free closed => ?_,
        fun within inside free held => ?_⟩
      · simp only [rangeVisitWork, above, if_pos beyond, completeLong_running running]
        rfl
      all_goals simp only [rangeVisitWork, above, Nat.not_lt.2 within, if_false]
      · rw [if_pos (filtered.2 other), continueLong_running running]
      all_goals rw [if_neg (mt filtered.1 (not_not.2 inside))]
      · rw [if_pos waits, continueLong_running running]
      all_goals rw [free, if_neg Bool.false_ne_true]
      · have kept : ((writeNow a.machine [.status w.status] s).link l).running = some ⟨.range w, tag⟩ :=
          ((writeNow_noticed _ _ s).running l).trans running
        rw [closed, List.isEmpty_nil, if_pos rfl, continueLong_running kept]
      · rw [if_neg (by rwa [List.isEmpty_iff])]
        have deferred {queue : List DeferredEntry}
            (placed : deferChanges a.machine [.write (.status w.status)] l s.accounts.deferred = some queue) : defers queue := by
          simp only [defers, rangeVisitWork, above, Nat.not_lt.2 within, if_false]
          rw [if_neg (mt filtered.1 (not_not.2 inside)), free, if_neg Bool.false_ne_true, if_neg (by rwa [List.isEmpty_iff])]
          simp only [placed]
          exact congrArg Host.Outcome.next (continueLong_running (s := s.setDeferred queue) running _)
        refine ⟨fun again bound => deferred (deferWrite_again bound again), fun fresh room => deferred (deferWrite_new fresh room),
          fun fresh full => ?_⟩
        have placed : deferChanges a.machine [.write (.status w.status)] l s.accounts.deferred = none :=
          deferWrite_full fresh full
        simp only [placed, completeLong_running running]
        rfl

end Sys2Proof.Machine

/-! # An order closed at once -/

namespace Sys2Proof.Machine

open Sys2Proof

/-! ## Records of the state that an event leaves as they are -/

namespace Moves

variable {K : List Part} {H : Set Law} {s t : State}

theorem stock (h : Moves K H s t) (hK : ∀ x ∈ [Part.tanks, .draws, .reports, .stockRest], x ∉ K := by decide) :
    t.stock = s.stock := by
  obtain ⟨checkDue, tripping⟩ := h.same .stockRest (hK _ (by simp))
  have tanks : t.stock.tanks = s.stock.tanks := h.same .tanks (hK _ (by simp))
  have draws : t.stock.draws = s.stock.draws := h.same .draws (hK _ (by simp))
  have reports : t.stock.reports = s.stock.reports := h.same .reports (hK _ (by simp))
  have all := congr (congr (congr (congr (congrArg StockUnit.mk tanks) draws) checkDue) reports) tripping
  exact all

theorem store (h : Moves K H s t) (hK : ∀ x ∈ [Part.products, .tankSets, .linkSets, .storeRest], x ∉ K := by decide) :
    t.store = s.store := by
  obtain ⟨points, pumps, inlets, timing, debounce, shifts⟩ := h.same .storeRest (hK _ (by simp))
  have products : t.store.products = s.store.products := h.same .products (hK _ (by simp))
  have tanks : t.store.tanks = s.store.tanks := h.same .tankSets (hK _ (by simp))
  have links : t.store.links = s.store.links := h.same .linkSets (hK _ (by simp))
  have all := congr (congr (congr (congr (congr (congr (congr (congr (congrArg Store.mk points) pumps) inlets) products) tanks)
    timing) debounce) shifts) links
  exact all

theorem seconds (h : Moves K H s t) (hK : Part.clock ∉ K := by decide) : t.seconds = s.seconds := by
  have clock : t.clock = s.clock := h.same .clock hK
  simp only [State.seconds, clock]

end Moves

/-! ## A last window that holds nothing (R8, R12, R14) -/

theorem grossOf_zero (d : Int) {rem : Nat} (small : rem < 10000) : (grossOf 0 d rem).1 = 0 := by
  simp only [grossOf]
  omega

theorem netOf_zero (f : Int) {rem : Nat} (small : rem < 10000000) : (netOf 0 f rem).1 = 0 := by
  simp only [netOf]
  omega

theorem windowResult_nothing {m : Meter} (h : m.CountedNothing) (w : Working) (reading : Option Int) (last : Bool) :
    (windowResult m w reading last).gross = 0 ∧ (windowResult m w reading last).net = 0 := by
  obtain ⟨_, pulses, gross, net⟩ := h
  have none : (windowResult m w reading last).gross = 0 := by
    simp only [windowResult, pulses, Nat.zero_mul]
    exact grossOf_zero _ gross
  refine ⟨none, ?_⟩
  simp only [windowResult] at none ⊢
  rw [none]
  exact netOf_zero _ net

theorem takeResult_nothing (p : PointId) {r : WindowResult} (h : r.net = 0) (s : State) :
    takeResult p r s = s.updOrder p (addResult r) := by
  rw [takeResult, h, postOrderWindow, if_pos rfl]

/-- R14: a window that holds nothing, ended as the last, posts nothing. -/
theorem endWindow_nothing {p : PointId} {s : State} (h : (s.point p).meter.CountedNothing) (reading : Option Int) :
    ∃ r : WindowResult, r.gross = 0 ∧ r.net = 0 ∧
      endWindow p reading s = s.updPoint p fun u => { u with meter := .idle, order := u.order.map (addResult r) } := by
  obtain ⟨w, working⟩ := Option.isSome_iff_exists.1 h.1
  obtain ⟨gross, net⟩ := windowResult_nothing h w reading true
  refine ⟨_, gross, net, ?_⟩
  simp only [endWindow, working]
  rw [takeResult_nothing p net]
  simp only [State.updOrder, State.updPoint, adjust_adjust]

/-! ## The claim released (R51) -/

theorem startHead_claims (m : PumpId) (s : State) : ((startHead s).pump m).claims = (s.pump m).claims := by
  unfold startHead
  split
  · rfl
  · next n rest _ =>
    split
    · rw [pump_updPump]
      split
      · next same => rw [← same]; rfl
      · rfl
    · rfl

theorem releasePump_claims (p : PointId) (m : PumpId) (s : State) : p ∉ ((releasePump p m s).pump m).claims := by
  unfold releasePump
  dsimp only
  split
  · split
    · split
      · rw [startHead_claims]
        simp [State.setQueue, State.updPump, State.pump, PumpUnit.off]
      · unfold holdOrOff
        rw [pump_updPump_self]
        split <;> simp [PumpUnit.off, PumpUnit.holding]
      all_goals simp
    · simp
  · next free => simpa using free

/-! ## The close (R44) -/

theorem finishClose_pumps {p : PointId} {s : State} {o : Order} (h : (s.point p).order = some o) :
    (finishClose p s).pumps = (releasePump p (s.pointSet p).pump s).pumps := by
  rw [finishClose, h]
  exact ((settledReportsAfterClose_moves _).same .pumps).trans ((recordOrder_moves p o _ _).same .pumps)

theorem finishClose_claims {p : PointId} {s : State} {o : Order} (h : (s.point p).order = some o) :
    p ∉ ((finishClose p s).pump (s.pointSet p).pump).claims := by
  simp only [State.pump, finishClose_pumps h]
  exact releasePump_claims p (s.pointSet p).pump s

/-- R14, R44: an order closed with a cause, after a last window that held nothing. -/
def Order.closedWith (o : Order) (c : Cause) (r : WindowResult) : Order := addResult r { o with termination := some c }

section
variable {p : PointId} {s : State} {o : Order}

theorem closeAtOnce_nothing (order : (s.point p).order = some o) (h : (s.point p).meter.CountedNothing) (c : Cause) :
    ∃ r : WindowResult, r.gross = 0 ∧ r.net = 0 ∧ closeAtOnce none p c s =
      finishClose p (s.updPoint p fun u => { u with meter := .idle, order := some (o.closedWith c r) }) := by
  have nothing : ((s.updOrder p fun o => { o with termination := some c }).point p).meter.CountedNothing := by
    rw [point_updOrder_self]; exact h
  obtain ⟨r, gross, net, ended⟩ := endWindow_nothing nothing
    (shortReading (.point p) (s.updOrder p fun o => { o with termination := some c }))
  refine ⟨r, gross, net, ?_⟩
  rw [closeAtOnce, if_neg nofun, ended]
  simp only [State.updOrder, State.updPoint, adjust_adjust]
  have unit : adjust s.points p (fun u => { u with
      order := Option.map (addResult r) (Option.map (fun o => { o with termination := some c }) u.order), meter := .idle }) =
        adjust s.points p (fun u => { u with order := some (o.closedWith c r), meter := .idle }) := by
    simp only [adjust, show (look s.points p).order = some o from order, Option.map_some, Order.closedWith]
  rw [unit]

/-- R44: the state that the close of an order after an empty last window leaves. -/
theorem finishClose_orderClosed {r : WindowResult} (gross : r.gross = 0) (net : r.net = 0) (c : Cause) :
    s.OrderClosed p o c
      (finishClose p (s.updPoint p fun u => { u with meter := .idle, order := some (o.closedWith c r) })) := by
  have order : ((s.updPoint p fun u => { u with meter := .idle, order := some (o.closedWith c r) }).point p).order =
      some (o.closedWith c r) := by rw [point_updPoint_self]
  have moves := finishClose_moves p (s.updPoint p fun u => { u with meter := .idle, order := some (o.closedWith c r) })
  have point := finishClose_point order
  have journal := finishClose_journal order
  have closed := (point p).trans (if_pos rfl)
  refine ⟨⟨_, by rw [journal]; exact List.getLast?_concat .., rfl, rfl, rfl, rfl, rfl, rfl, rfl, rfl, rfl, rfl, ?_, ?_, ?_, rfl,
    rfl, rfl, rfl, rfl⟩, by rw [journal]; rfl, by rw [journal]; rfl, by rw [journal]; rfl, by rw [closed]; rfl, by rw [closed]; rfl,
    by rw [closed]; rfl, by rw [closed]; rfl, finishClose_claims order, fun q other => ?_, moves.stock, moves.same .inlets,
    moves.store⟩
  · simp only [Order.closedWith, addResult, gross, Nat.add_zero]
  · simp only [Order.closedWith, addResult, net, Nat.add_zero]
  · simp only [Order.closedWith, addResult, net, Nat.add_zero]
  · rw [point q, if_neg (Ne.symm other), point_updPoint, if_neg (Ne.symm other)]

/-- R32, R33: an order that waits and has counted nothing, closed at once. -/
theorem closeAtOnce_orderClosed (order : (s.point p).order = some o) (h : (s.point p).meter.CountedNothing) (c : Cause) :
    s.OrderClosed p o c (closeAtOnce none p c s) := by
  obtain ⟨r, gross, net, closed⟩ := closeAtOnce_nothing order h c
  rw [closed]
  exact finishClose_orderClosed gross net c

theorem stopPoint_waiting (ended : Option PointId) (waits : (s.point p).state = .identifying ∨ (s.point p).state = .awaitPump)
    (c : Cause) : stopPoint ended c p s = closeAtOnce ended p c s := by
  rcases waits with h | h <;> simp only [stopPoint, h]

theorem stopPoint_orderClosed (waits : (s.point p).state = .identifying ∨ (s.point p).state = .awaitPump)
    (order : (s.point p).order = some o) (h : (s.point p).meter.CountedNothing) (c : Cause) :
    s.OrderClosed p o c (stopPoint none c p s) := by
  rw [stopPoint_waiting none waits]
  exact closeAtOnce_orderClosed order h c

end

end Sys2Proof.Machine

/-! # Long operations: their start, their stop and their end at a close -/

namespace Sys2Proof.Machine

open Sys2Proof

theorem link_updPoint (p : PointId) (f : PointUnit → PointUnit) (s : State) (l : Link) : (s.updPoint p f).link l = s.link l := rfl

theorem link_updInlet (i : InletId) (f : InletUnit → InletUnit) (s : State) (l : Link) : (s.updInlet i f).link l = s.link l := rfl

/-! ## The notices of a close (R44, R101, R189) -/

theorem chainCheck_noticed (k : ProductId) (fromStart : Bool) (s : State) : s.Noticed (chainCheck k fromStart s) := by
  unfold chainCheck moveDraw
  split
  · split
    · exact .of_links rfl
    · exact (post_noticed _ _).once rfl
  · exact (post_noticed _ _).once rfl
  · next old _ _ =>
    exact ((post_noticed (.productEmpty k old (s.exhaustionReason k)) (s.updDraw k fun _ => ⟨none, some old⟩)).once rfl).trans
      (.of_links rfl)
  · exact .of_links rfl

theorem clearReceiving_noticed (i : InletId) (s : State) : s.Noticed (clearReceiving i s) := by
  unfold clearReceiving
  split
  · exact .of_links rfl
  · dsimp only
    split
    · exact (chainCheck_noticed _ _ _).once rfl
    · exact .of_links rfl

theorem recordDelivery_noticed (i : InletId) (d : Delivery) (c : Cause) (x : SettleOutcome) (s : State) :
    s.Noticed (recordDelivery i d c x s) := (post_noticed _ _).once rfl

theorem applyDeferred_noticed (machine : Nat) (s : State) : s.Noticed (applyDeferred machine s) := by
  unfold applyDeferred
  dsimp only
  refine State.Noticed.once ((State.Noticed.forEach (fun e s => postTo_noticed e.source (.deferredApplied e) s) _ _).trans
    (postAll_noticed _ _)) ?_
  split <;> split <;> rfl

theorem closeUpdates_noticed (o : Order) (netDl : Nat) (c : Cause) (ok : Option Bool) (s : State) :
    s.Noticed (closeUpdates o netDl c ok s) := by
  rcases closeUpdates_cases o netDl c ok s with same | ⟨machine, a, hm, ha, held⟩
  · exact .of_links (congrArg State.links same)
  · obtain ⟨ns, eq⟩ := closeUpdates_eq hm ha held netDl c ok
    rw [eq]
    refine State.Noticed.trans ?_ (postAll_noticed _ _)
    split
    · exact (applyDeferred_noticed machine _).once rfl
    · exact .of_links rfl

theorem recordOrder_noticed (p : PointId) (o : Order) (c : Cause) (s : State) : s.Noticed (recordOrder p o c s) :=
  ((post_noticed _ _).trans (closeUpdates_noticed _ _ _ _ _)).once rfl

/-! ## SETTLED reports after a close (R84, R187) -/

/-- R83: a report does not look at the links. -/
theorem stockReport_of_links {s t : State} (h : SameButLinks s t) (k : ProductId) :
    stockReport k t = stockReport k s ∧ t.openOnProduct k = s.openOnProduct k := by
  rw [h]
  exact ⟨rfl, rfl⟩

theorem completeLong_same (l : Link) (content : LongContent) (s : State) : SameButLinks s (completeLong l content s) := by
  unfold completeLong
  split <;> rfl

theorem settledReportCheck_same (l : Link) (s : State) : SameButLinks s (settledReportCheck l s) := by
  unfold settledReportCheck
  split
  · split
    · rfl
    · exact completeLong_same ..
  · rfl

theorem settledReportCheck_link_ne {l m : Link} (h : l ≠ m) (s : State) : (settledReportCheck l s).link m = s.link m := by
  unfold settledReportCheck
  split
  · split
    · rfl
    · unfold completeLong
      split
      · rfl
      · rw [State.postTo, link_updLink, if_neg h, link_updLink, if_neg h]
  · rfl

section
variable {l : Link} {k : ProductId} {due : Nat} {tag : Byte} {s t : State}

/-- R84: the link unit whose SETTLED report completes. -/
def reportSettled (l : Link) (k : ProductId) (tag : Byte) (s : State) : LinkUnit :=
  LinkUnit.enqueue (look s.store.links l).level ⟨.operationDone 3 tag 1, s.seconds⟩
    { s.link l with running := none, result := some ⟨.report .settled (some (stockReport k s)), tag⟩ }

theorem reportSettled_of_links (h : SameButLinks s t) (link : t.link l = s.link l) :
    reportSettled l k tag t = reportSettled l k tag s := by
  have seconds : t.seconds = s.seconds := by rw [h]; rfl
  have store : t.store = s.store := by rw [h]
  rw [reportSettled, seconds, store, link, (stockReport_of_links h k).1, reportSettled]

theorem settledReportCheck_link (running : (s.link l).running = some ⟨.settled k due, tag⟩) :
    (settledReportCheck l s).link l = if s.openOnProduct k then s.link l else reportSettled l k tag s := by
  simp only [settledReportCheck, running, completeLong]
  split
  · rfl
  · rw [State.postTo, link_updLink_self, link_updLink_self]
    rfl

theorem settledReportCheck_open (running : (s.link l).running = some ⟨.settled k due, tag⟩) (opened : s.openOnProduct k = true) :
    settledReportCheck l s = s := by
  simp only [settledReportCheck, running, opened, if_true]

theorem settledReportCheck_free (running : (s.link l).running = some ⟨.settled k due, tag⟩) (free : ¬s.openOnProduct k = true) :
    settledReportCheck l s = (s.updLink l fun u =>
      { u with running := none, result := some ⟨.report .settled (some (stockReport k s)), tag⟩ }).postTo l
        (.operationDone 3 tag 1) := by
  simp only [settledReportCheck, running, if_neg free]
  exact completeLong_running running _

/-- R84: a SETTLED report that waits, after the checks of a close. -/
def State.SettledAfterClose (l : Link) (k : ProductId) (due : Nat) (tag : Byte) (t : State) : Prop :=
  if t.openOnProduct k = true then (t.link l).running = some ⟨.settled k due, tag⟩
  else
    (t.link l).running = none ∧
    (t.link l).result = some ⟨.report .settled (some (stockReport k t)), tag⟩ ∧
    ((t.link l).overflow = false → (t.link l).queue.getLast? = some ⟨.operationDone 3 tag 1, t.seconds⟩)

theorem forEach_settledReportCheck_link {ls : List Link} (distinct : ls.Nodup) (mem : l ∈ ls)
    (running : (s.link l).running = some ⟨.settled k due, tag⟩) :
    SameButLinks s (forEach ls settledReportCheck s) ∧
      (forEach ls settledReportCheck s).link l = if s.openOnProduct k then s.link l else reportSettled l k tag s := by
  have kept (ls : List Link) (s : State) : SameButLinks s (forEach ls settledReportCheck s) :=
    forEach_invariant ls _ (fun m t ht => (settledReportCheck_same m t).trans (by rw [ht])) s rfl
  refine ⟨kept ls s, ?_⟩
  induction ls generalizing s with
  | nil => cases mem
  | cons m rest ih =>
    obtain ⟨fresh, distinct⟩ := List.nodup_cons.1 distinct
    have same := settledReportCheck_same m s
    change (forEach rest settledReportCheck (settledReportCheck m s)).link l = _
    by_cases here : m = l
    · subst here
      rw [← settledReportCheck_link running]
      exact forEach_induction (P := fun t => t.link m = (settledReportCheck m s).link m)
        (fun n hn t ht => (settledReportCheck_link_ne (ne_of_mem_of_not_mem hn fresh) t).trans ht) rfl
    · have link := settledReportCheck_link_ne here s
      rw [ih distinct ((List.mem_cons.1 mem).resolve_left (Ne.symm here)) (by rw [link]; exact running),
        reportSettled_of_links same link, link, (stockReport_of_links same k).2]

/-- R84: the checks of a close complete each SETTLED report that no operation holds. -/
theorem settledReportsAfterClose_settled (running : (s.link l).running = some ⟨.settled k due, tag⟩) :
    (settledReportsAfterClose s).SettledAfterClose l k due tag := by
  obtain ⟨same, link⟩ := forEach_settledReportCheck_link (s := s) (ls := allLinks) (by decide) (mem_allLinks l) running
  change SameButLinks s (settledReportsAfterClose s) at same
  change (settledReportsAfterClose s).link l = _ at link
  obtain ⟨report, opened⟩ := stockReport_of_links same k
  rw [State.SettledAfterClose, opened, link, report]
  have seconds : (settledReportsAfterClose s).seconds = s.seconds := by rw [same]; rfl
  split
  · exact running
  · rw [seconds]
    refine ⟨?_, ?_, ?_⟩
    all_goals unfold reportSettled LinkUnit.enqueue; split
    · rfl
    · rfl
    · rfl
    · rfl
    · exact fun _ => List.getLast?_concat ..
    · exact fun h => nomatch h

/-- R84: a close of an order, with the SETTLED report of a link that waits. -/
theorem finishClose_settled {p : PointId} {o : Order} (order : (s.point p).order = some o)
    (running : (s.link l).running = some ⟨.settled k due, tag⟩) : (finishClose p s).SettledAfterClose l k due tag := by
  rw [finishClose, order]
  have released : s.Noticed (releasePump p (s.pointSet p).pump s) := .of_links ((releasePump_moves ..).same .links)
  have noticed := released.trans
    (recordOrder_noticed p o (o.termination.getD .stopped) (releasePump p (s.pointSet p).pump s))
  refine settledReportsAfterClose_settled ?_
  rw [link_updPoint]
  exact (noticed.running l).trans running

theorem closeDelivery_settled {i : InletId} {d : Delivery} {x : SettleOutcome} (delivery : (s.inlet i).delivery = some d)
    (running : (s.link l).running = some ⟨.settled k due, tag⟩) : (closeDelivery i x s).SettledAfterClose l k due tag := by
  rw [closeDelivery_some delivery]
  have noticed := (clearReceiving_noticed i s).trans
    (recordDelivery_noticed i (letGo d) (d.termination.getD .stopped) x (clearReceiving i s))
  refine settledReportsAfterClose_settled ?_
  rw [link_updInlet]
  exact (noticed.running l).trans running

end

/-! ## Requests of long operations (R132, R135, R188) -/

section
variable {v : Via} {s : State}

/-- R187: a long operation's start in a slot. -/
def longStarted (v : Via) (work : LongWork) (s : State) : State :=
  s.updLink v.link fun u => { u with running := some ⟨work, v.tag⟩ }

theorem startLong_busy (busy : (s.link v.link).running.isSome = true) (work : LongWork) :
    startLong v work s = refuse .longBusy s := if_pos busy

theorem startLong_free (free : (s.link v.link).running.isSome ≠ true) (work : LongWork) :
    startLong v work s = ⟨.accepted, [], longStarted v work s⟩ := if_neg free

/-- R187: a request that ends in the start of a long operation. -/
theorem request_starts {i : Instr} {code : Nat} {work : LongWork} (ready : s.Ready) (awake : wakeBy i s = s)
    (zero : partNumber v = 0) (asked : requestAnswer i s = startLong v work s) :
    serveRequest v code i s =
      if (s.link v.link).running.isSome then answered v (BitVec.ofNat 8 code) .longBusy [] s
      else answered v (BitVec.ofNat 8 code) .accepted [] (longStarted v work s) := by
  split
  · next busy => exact request_refused ready awake (asked.trans (startLong_busy busy work)) rfl
  · next free =>
    exact request_answered ready awake (asked.trans (startLong_free free work)) ready.2 (.inr (hasPart_of_zero zero))

theorem readFilter_iff (x : Option Nat) (filter : Option ClassId) : readFilter x = some filter ↔ x = filter.map Fin.val := by
  cases x with
  | none => cases filter <;> simp [readFilter]
  | some n =>
    cases filter with
    | none => simp [readFilter]
    | some c => simp [readFilter, readClassId_iff]

theorem readFilter_eq_none (x : Option Nat) : readFilter x = none ↔ ∃ n ∈ x, 15 < n := by
  cases x with
  | none => simp [readFilter]
  | some n =>
    by_cases small : n < 16
    · simpa [readFilter, readClassId, small] using Nat.lt_succ_iff.1 small
    · simpa [readFilter, readClassId, small] using Nat.lt_of_succ_le (not_lt.1 small)

end

/-! ## The first account not done (R137) -/

theorem find?_above {table : List Account} (ordered : table.Pairwise fun a b => a.machine < b.machine) (low high : Nat) :
    ((table.find? fun a => low < a.machine).bind fun a => if a.machine ≤ high then some a.machine else none) =
      ((table.map Account.machine).filter fun n => low < n ∧ n ≤ high).min? := by
  induction table with
  | nil => rfl
  | cons a rest ih =>
    obtain ⟨least, ordered⟩ := List.pairwise_cons.1 ordered
    by_cases above : low < a.machine
    · rw [List.find?_cons_of_pos (by simpa using above), Option.bind_some]
      split
      · next within =>
        refine (List.min?_eq_some_iff.2 ⟨?_, fun n hn => ?_⟩).symm
        · simp [above, within]
        · obtain ⟨b, hb, rfl⟩ := List.mem_map.1 (List.mem_of_mem_filter hn)
          rcases List.mem_cons.1 hb with rfl | hb
          · exact Nat.le_refl _
          · exact Nat.le_of_lt (least b hb)
      · next beyond =>
        refine (List.min?_eq_none_iff.2 (List.filter_eq_nil_iff.2 fun n hn => ?_)).symm
        obtain ⟨b, hb, rfl⟩ := List.mem_map.1 hn
        have later : a.machine ≤ b.machine := by
          rcases List.mem_cons.1 hb with rfl | hb
          · exact Nat.le_refl _
          · exact Nat.le_of_lt (least b hb)
        simp only [decide_eq_true_eq]
        omega
    · rw [List.find?_cons_of_neg (by simpa using above), ih ordered, List.map_cons,
        List.filter_cons_of_neg (by simp [above])]

theorem firstNotDone_eq {s : State} (ordered : s.AccountsOrdered) (w : RangeWork) : firstNotDone w s =
    ((s.accounts.table.map Account.machine).filter fun n => w.position < n ∧ n ≤ w.last).min? := by
  rw [← find?_above ordered.1]
  unfold firstNotDone State.accountAbove
  split <;> simp only [*, Option.bind_some, Option.bind_none]

/-! ## SETTLED reports and their wait (R84) -/

section
variable {v : Via} {s : State}

theorem stockReportSettledRequest_busy (k : ProductId) (busy : (s.link v.link).running.isSome = true) :
    stockReportSettledRequest v (numberOf k) s = refuse .longBusy s := by
  simp only [stockReportSettledRequest, numbered_numberOf, startLong_busy busy]
  rfl

theorem stockReportSettledRequest_free (k : ProductId) (free : (s.link v.link).running.isSome ≠ true) :
    stockReportSettledRequest v (numberOf k) s = ⟨.accepted, [],
      settledReportCheck v.link (longStarted v (.settled k (s.clock + Config.settledWaitMs)) s)⟩ := by
  simp only [stockReportSettledRequest, numbered_numberOf, startLong_free free]
  rfl

end

theorem clearReceiving_free {i : InletId} {s : State} {d : Delivery} (delivery : (s.inlet i).delivery = some d)
    (free : d.holdsFlag = false) : clearReceiving i s = s.updDelivery i letGo := by
  simp only [clearReceiving, delivery, free, Bool.false_and, Bool.false_eq_true, if_false]
  rfl

theorem closeDelivery_stock {i : InletId} {s : State} {d : Delivery} (delivery : (s.inlet i).delivery = some d)
    (free : d.holdsFlag = false) (x : SettleOutcome) : (closeDelivery i x s).stock = s.stock := by
  rw [closeDelivery_some delivery, clearReceiving_free delivery free]
  exact (settledReportsAfterClose_moves _).stock.trans
    ((recordDelivery_moves i (letGo d) (d.termination.getD .stopped) x (s.updDelivery i letGo)).stock)

/-- Settles O45. -/
theorem longOperations : Obligations.LongOperations := by
  intro v s ready zero u start complete
  refine ⟨fun field condition value start' limit hvalue hstart low high => ?_, fun f out => ?_, fun f accounts out => ?_,
    fun f status filter accounts hstatus hklass low order high => ?_, fun k => ?_, fun op running => ?_,
    fun ordered w => firstNotDone_eq ordered w, fun free => ?_, fun l k due tag running => ?_, fun l k due tag running => ?_⟩
  · have asked : requestAnswer (.scanAccounts v ⟨some field, some condition, value, start', limit⟩) s =
        startLong v (.scan ⟨field, condition, value, limit, start', []⟩) s := if_pos ⟨hvalue, hstart, low, high⟩
    rw [← apply_ite Host.Outcome.next]
    exact congrArg Host.Outcome.next (request_starts (code := 0x36) ready rfl zero asked)
  · have asked : requestAnswer (.scanAccounts v f) s = refuse .range s := by
      change scanAccountsRequest v f s = _
      unfold scanAccountsRequest
      split
      · next field condition hfield hcondition =>
        simp only [hfield, hcondition, reduceCtorEq, false_or] at out
        exact if_neg (by simp only [Config.maxCount]; omega)
      · rfl
    exact congrArg Host.Outcome.next (request_refused (code := 0x36) ready rfl asked rfl)
  · have asked : requestAnswer (.setRangeStatus v f) s = refuse .range s := by
      change setRangeStatusRequest v f s = _
      unfold setRangeStatusRequest
      rw [accounts, Bool.not_true, if_neg Bool.false_ne_true]
      split
      · next filter status hfilter hstatus =>
        have named : ¬∃ n ∈ f.klass, 15 < n := by rw [← readFilter_eq_none, hfilter]; nofun
        refine if_neg fun ⟨first, order, last⟩ => ?_
        obtain ⟨low, high⟩ := (machineInRange_iff _).1 first
        rcases out with h | h | h | h | h | h
        · omega
        · omega
        · omega
        · omega
        · exact named h
        · rw [hstatus] at h; cases h
      · rfl
    exact congrArg Host.Outcome.next (request_refused (code := 0x37) ready rfl asked rfl)
  · have asked : requestAnswer (.setRangeStatus v f) s =
        startLong v (.range ⟨f.last, filter, status, f.first - 1, 0, 0, 0⟩) s := by
      change setRangeStatusRequest v f s = _
      simp only [setRangeStatusRequest, accounts, Bool.not_true, Bool.false_eq_true, if_false, (readFilter_iff ..).2 hklass,
        hstatus]
      exact if_pos ⟨(machineInRange_iff _).2 ⟨low, Nat.le_trans order high⟩, order, high⟩
    rw [← apply_ite Host.Outcome.next]
    exact congrArg Host.Outcome.next (request_starts (code := 0x37) ready rfl zero asked)
  · intro begun
    split_ifs with busy opened
    · exact congrArg Host.Outcome.next
        (request_refused (code := 0x20) ready rfl (stockReportSettledRequest_busy k busy) rfl)
    all_goals
      have asked : requestAnswer (.stockReportSettled v (numberOf k)) s = _ := stockReportSettledRequest_free k busy
      have running : ((longStarted v (.settled k (s.clock + Config.settledWaitMs)) s).link v.link).running =
          some ⟨.settled k (s.clock + Config.settledWaitMs), v.tag⟩ := by rw [longStarted, link_updLink_self]
    · rw [settledReportCheck_open running opened] at asked
      exact congrArg Host.Outcome.next (request_answered (code := 0x20) ready rfl asked ready.2 (.inr (hasPart_of_zero zero)))
    · rw [settledReportCheck_free running opened] at asked
      exact congrArg Host.Outcome.next (request_answered (code := 0x20) ready rfl asked
        (((postTo_moves ..).same .reports).trans ready.2) (.inr (hasPart_of_zero zero)))
  · obtain ⟨work, tag⟩ := op
    have asked : requestAnswer (.stopLong v) s = done (completeLong v.link (stoppedResult work s) s) := by
      change stopLongRequest v s = _
      simp only [stopLongRequest, show (s.link v.link).running = some ⟨work, tag⟩ from running]
    rw [completeLong_running running] at asked
    have served := request_done (code := 0x02) ready rfl zero asked (((postTo_moves ..).same .reports).trans ready.2)
    cases work <;> exact congrArg Host.Outcome.next served
  · have asked : requestAnswer (.stopLong v) s = refuse .noOperation s := by
      change stopLongRequest v s = _
      simp only [stopLongRequest, show (s.link v.link).running = none from free]
    exact congrArg Host.Outcome.next (request_refused (code := 0x02) ready rfl asked rfl)
  · intro settles
    refine ⟨fun p o waits order same nothing => ?_, fun i d stock settling delivery free same => ?_⟩
    · have closed := stopPoint_orderClosed (c := .stopped) waits order nothing
      refine ⟨stopPoint none .stopped p s, congrArg Host.Outcome.next (takeEvent_eq ready.1 ?_), ?_, ?_⟩
      · obtain ⟨_, _, _, _, _, _, _, _, _, _, stock, _⟩ := closed
        exact (congrArg StockUnit.reports stock).trans ready.2
      · obtain ⟨_, _, _, _, _, none, _⟩ := closed
        exact none
      · obtain ⟨r, -, -, eq⟩ := closeAtOnce_nothing order nothing .stopped
        rw [stopPoint_waiting none waits, eq]
        exact finishClose_settled (by rw [point_updPoint_self]) running
    · have asked : requestAnswer (.stopDelivery v ⟨numberOf i, d.number⟩) s = done (cutSettle i s) := by
        change stopDeliveryRequest v ⟨numberOf i, d.number⟩ s = _
        simp only [stopDeliveryRequest, stock, numbered_numberOf, delivery, stopDeliveryTaken, settling, Bool.not_true,
          Bool.false_eq_true, if_false, Option.any_some, decide_true, if_true]
      exact ⟨cutSettle i s, congrArg Host.Outcome.next (request_done (code := 0x19) ready rfl zero asked
        ((congrArg StockUnit.reports (closeDelivery_stock delivery free _)).trans ready.2)), closeDelivery_delivery,
        closeDelivery_settled delivery running⟩
  · have event : settledWaitEvent l s = completeLong l (.report .provisional (some (stockReport k (s.reach due)))) (s.reach due) := by
      simp only [settledWaitEvent, running]
    have kept : ((s.reach due).link l).running = some ⟨.settled k due, tag⟩ := by
      simpa only [State.link, State.reach_links] using running
    rw [completeLong_running kept] at event
    refine congrArg Host.Outcome.next ((takeEvent_eq ready.1 ?_).trans event)
    rw [event]
    exact ((postTo_moves ..).same .reports).trans (((reach_moves due s).same .reports).trans ready.2)

end Sys2Proof.Machine

/-! # The events that stop an order at a point -/

namespace Sys2Proof.Machine

open Sys2Proof

/-! ## A stop, by the state of the point (R38 to R40, R42) -/

section
variable {p : PointId} {s : State} {c : Cause} {ended : Option PointId}

/-- R40: the point unit that a stop of an order with flow leaves. -/
def PointUnit.stopped (u : PointUnit) (now : Nat) (c : Cause) : PointUnit :=
  { u with
    state := .stopping, valve := false, primeDue := none, attendDue := none
    stopDue := some (now + 5000), stoppingAt := now, lowFlow := 0
    order := u.order.map fun o => { o with termination := some c } }

/-- R42: the point unit whose order takes a secondary cause. -/
def PointUnit.takesSecondary (u : PointUnit) (c : Cause) : PointUnit :=
  { u with order := u.order.map fun o => { o with secondaries := addCause o.termination o.secondaries c } }

theorem stopPoint_flows (h : (s.point p).state = .priming ∨ (s.point p).state = .flowing) :
    stopPoint ended c p s = { s with points := put s.points p ((s.point p).stopped s.clock c) } := by
  have entered : stopPoint ended c p s = enterStopping p c s := by rcases h with h | h <;> simp only [stopPoint, h]
  rw [entered, enterStopping]
  simp only [State.updOrder, State.updPoint, adjust_adjust]
  rfl

theorem stopPoint_stopping (h : (s.point p).state = .stopping) :
    stopPoint ended c p s = { s with points := put s.points p ((s.point p).takesSecondary c) } := by
  simp only [stopPoint, h]
  rfl

theorem stopPoint_free (h : (s.point p).state = .idle ∨ (s.point p).state = .disabled) : stopPoint ended c p s = s := by
  rcases h with h | h <;> simp only [stopPoint, h]

end

/-! ## Secondary causes (R42) -/

theorem addCause_eq (termination : Option Cause) (secondaries : List Cause) (c : Cause) :
    addCause termination secondaries c =
      if (termination = some c ∨ c ∈ secondaries) ∨ 3 ≤ secondaries.length then secondaries else secondaries ++ [c] := by
  unfold addCause
  simp only [Bool.or_eq_true, decide_eq_true_eq, List.contains_iff_mem]
  by_cases held : termination = some c ∨ c ∈ secondaries
  · rw [if_pos held, if_pos (.inl held)]
  · by_cases short : secondaries.length < Config.maxSecondaries
    · rw [if_neg held, if_pos short]
      exact (if_neg (not_or.2 ⟨held, Nat.not_le.2 short⟩)).symm
    · rw [if_neg held, if_neg short]
      exact (if_pos (.inr (Nat.not_lt.1 short))).symm

theorem addCause_nodup {termination : Option Cause} {secondaries : List Cause} (c : Cause) (distinct : secondaries.Nodup)
    (apart : ∀ x ∈ termination, x ∉ secondaries) : (addCause termination secondaries c).Nodup ∧
      ∀ x ∈ termination, x ∉ addCause termination secondaries c := by
  rw [addCause_eq]
  split
  · exact ⟨distinct, apart⟩
  · next new =>
    simp only [not_or] at new
    obtain ⟨⟨other, fresh⟩, _⟩ := new
    refine ⟨distinct.append (List.nodup_singleton c) (by simpa using fresh), fun x hx mem => ?_⟩
    rcases List.mem_append.1 mem with old | last
    · exact apart x hx old
    · exact other (by rw [← List.mem_singleton.1 last]; exact hx)

/-! ## The events (R26, R34, R37, R38) -/

section
variable {p : PointId} {s : State}

theorem stopOrderRequest_named {v : Via} {o : Order} (dispense : (s.perms v.link).dispense = true)
    (order : (s.point p).order = some o) : stopOrderRequest v ⟨numberOf p, o.number⟩ s =
      ⟨if (s.point p).state = .stopping then .alreadyStopping else .ok, [], stopPoint none .stopped p s⟩ := by
  simp only [stopOrderRequest, dispense, numbered_numberOf, order, Option.any_some, decide_true, Bool.not_true,
    Bool.false_eq_true, if_false, if_true]

theorem stopOrderRequest_other {v : Via} {n : Nat} (dispense : (s.perms v.link).dispense = true)
    (other : ∀ o ∈ (s.point p).order, o.number ≠ n) : stopOrderRequest v ⟨numberOf p, n⟩ s = refuse .noOrder s := by
  have none : ((s.point p).order.any fun o => o.number = n) = false := by
    refine Bool.eq_false_iff.2 fun named => ?_
    obtain ⟨o, order, same⟩ := (Option.any_eq_true ..).1 named
    exact other o order (by simpa using same)
  simp only [stopOrderRequest, dispense, numbered_numberOf, none, Bool.not_true, Bool.false_eq_true, if_false]

/-- R26: the state with the nozzle of a point uncoupled. -/
def State.uncoupledAt (p : PointId) (s : State) : State :=
  { s with points := put s.points p { s.point p with receiver := .uncoupled, identity := none, lineSince := s.clock } }

theorem nozzleBreakEvent_coupled (fitted : (s.pointSet p).nozzleFitted = true) (coupled : (s.point p).receiver ≠ .uncoupled) :
    nozzleBreakEvent p s = stopPoint none .uncoupled p (s.uncoupledAt p) := by
  simp only [nozzleBreakEvent, fitted, if_true]
  exact if_pos coupled

theorem nozzleBreakEvent_loose (fitted : (s.pointSet p).nozzleFitted = true) (loose : (s.point p).receiver = .uncoupled) :
    nozzleBreakEvent p s = s.uncoupledAt p := by
  simp only [nozzleBreakEvent, fitted, if_true]
  exact if_neg (not_not.2 loose)

end

/-- Settles O34. -/
theorem stopEventsAtPoints : Obligations.StopEventsAtPoints := by
  refine ⟨fun p s ready => ?_, fun termination secondaries c => ⟨fun held => ?_, fun other fresh short => ?_, fun full => ?_,
    addCause_nodup c⟩⟩
  · intro into adds loose
    have ran {f : State → State} {t : State} (event : f s = t) (handed : t.stock.reports = [] := by exact ready.2) :
        Host.Outcome.next (takeEvent f s) = (.next t : Host.Outcome State Fault Refusal) := by
      rw [takeEvent_eq ready.1 (event ▸ handed), event]
    have asked {v : Via} {o : Order} {t : State} (zero : partNumber v = 0) (dispense : (s.perms v.link).dispense = true)
        (order : (s.point p).order = some o) (stop : stopPoint none .stopped p s = t) {status : Status}
        (answer : (if (s.point p).state = .stopping then .alreadyStopping else .ok) = status) (handed : t.stock.reports = []) :
        exec (.stopOrder v ⟨numberOf p, o.number⟩) s = .next (answered v 0x11 status [] t) := by
      subst stop answer
      exact congrArg Host.Outcome.next (request_answered (code := 0x11) ready rfl (stopOrderRequest_named dispense order)
        handed (.inr (hasPart_of_zero zero)))
    have timed (due : Nat) : (s.reach due).point p = s.point p := by rw [State.point, State.reach_points]; rfl
    have still (due : Nat) : (s.reach due).stock.reports = [] := ((reach_moves due s).same .reports).trans ready.2
    have broken : (s.uncoupledAt p).point p = { s.point p with receiver := .uncoupled, identity := none, lineSince := s.clock } :=
      look_put_self ..
    refine ⟨fun flows => ⟨ran (stopPoint_flows flows), fun v o zero dispense order => ?_, fun due running => ?_,
      fun due running => ?_, fun fitted coupled => ?_⟩, fun stops => ⟨ran (stopPoint_stopping stops),
      fun v o zero dispense order => ?_, fun fitted coupled => ?_⟩, fun free => ran (stopPoint_free free),
      fun fitted uncoupled => ran (nozzleBreakEvent_loose fitted uncoupled), fun v n dispense other => ?_⟩
    · exact asked zero dispense order (stopPoint_flows flows) (if_neg (by rcases flows with h | h <;> rw [h] <;> decide)) ready.2
    · refine ran (f := primeTimerEvent p) ?_ (still due)
      simp only [primeTimerEvent, running]
      exact stopPoint_flows ((timed due).symm ▸ flows)
    · refine ran (f := attendanceTimerEvent p) ?_ (still due)
      simp only [attendanceTimerEvent, running]
      exact stopPoint_flows ((timed due).symm ▸ flows)
    · exact ran (f := nozzleBreakEvent p) ((nozzleBreakEvent_coupled fitted coupled).trans
        (stopPoint_flows (s := s.uncoupledAt p) (broken.symm ▸ flows)))
    · exact asked zero dispense order (stopPoint_stopping stops) (if_pos stops) ready.2
    · exact ran (f := nozzleBreakEvent p) ((nozzleBreakEvent_coupled fitted coupled).trans
        (stopPoint_stopping (s := s.uncoupledAt p) (broken.symm ▸ stops)))
    · exact congrArg Host.Outcome.next (request_refused (code := 0x11) ready rfl (stopOrderRequest_other dispense other) rfl)
  · rw [addCause_eq, if_pos (.inl held)]
  · rw [addCause_eq, if_neg (by simp only [not_or]; exact ⟨⟨other, fresh⟩, by omega⟩)]
  · rw [addCause_eq, if_pos (.inr full)]

end Sys2Proof.Machine

/-! # What the stops of an event leave: points, queues and the journal

Whatever else an event stops after a point or an inlet has been stopped, it takes no order and no delivery up again,
takes no notice back, and writes no more records than it closes operations.  So what the first stop has made of a
point, the notice posted before it and the record written by it still stand at the end of the event. -/

namespace Sys2Proof.Machine

open Sys2Proof

/-! ## The relation -/

/-- What further stops leave of a point: one without an order stays as it is, and one in STOPPING takes secondaries. -/
structure PointUnit.Winds (u v : PointUnit) : Prop where
  free : u.state = .idle ∨ u.state = .disabled → v = u
  stopping : ∀ o, u.state = .stopping → u.order = some o →
    ∃ more, v = { u with order := some { o with secondaries := o.secondaries ++ more } }

theorem PointUnit.Winds.refl (u : PointUnit) : u.Winds u :=
  ⟨fun _ => rfl, fun o _ order => ⟨[], by rw [List.append_nil, ← order]⟩⟩

theorem PointUnit.Winds.trans {u v w : PointUnit} (h : u.Winds v) (h' : v.Winds w) : u.Winds w := by
  refine ⟨fun free => ?_, fun o stops order => ?_⟩
  · have same := h.free free
    subst same
    exact h'.free free
  · obtain ⟨more, eq⟩ := h.stopping o stops order
    obtain ⟨last, eq'⟩ := h'.stopping { o with secondaries := o.secondaries ++ more } (by rw [eq]; exact stops) (by rw [eq])
    exact ⟨more ++ last, by rw [eq', eq, List.append_assoc]⟩

/-- A point that waits may come to anything. -/
theorem PointUnit.Winds.of_other {u : PointUnit} (free : u.state ≠ .idle) (enabled : u.state ≠ .disabled)
    (stops : u.state ≠ .stopping) (v : PointUnit) : u.Winds v :=
  ⟨fun h => (h.elim free enabled).elim, fun _ h => (stops h).elim⟩

/-- R171: an event's records follow those held before it, and each is of an operation that it has closed. -/
def State.Journaled (s t : State) : Prop := ∃ new : List Record, t.journal.held <:+ s.journal.held ++ new ∧
  min (s.journal.held.length + new.length) Config.journalSlots ≤ t.journal.held.length ∧
  new.length + t.openOperations.length ≤ s.openOperations.length

theorem State.Journaled.of_same {s t : State} (journal : t.journal = s.journal)
    (opened : t.openOperations.length ≤ s.openOperations.length) : s.Journaled t :=
  ⟨[], by rw [journal, List.append_nil], by rw [journal]; exact Nat.min_le_left .., by simpa using opened⟩

theorem State.Journaled.trans {s t u : State} (h : s.Journaled t) (h' : t.Journaled u) : s.Journaled u := by
  obtain ⟨new, suffix, length, opened⟩ := h
  obtain ⟨new', suffix', length', opened'⟩ := h'
  refine ⟨new ++ new', suffix'.trans ?_, ?_, ?_⟩
  · rw [← List.append_assoc]
    obtain ⟨front, eq⟩ := suffix
    exact ⟨front, by rw [← List.append_assoc, eq]⟩
  · rw [List.length_append]
    omega
  · rw [List.length_append]
    omega

theorem openOperations_length_le (s : State) : s.openOperations.length ≤ 10 := by
  rw [openOperations_length]
  have points := List.countP_le_length (p := fun p => (s.point p).order.isSome) (l := allPoints)
  have inlets := List.countP_le_length (p := fun i => (s.inlet i).delivery.isSome) (l := allInlets)
  simp only [allPoints, allInlets, List.length_cons, List.length_nil] at points inlets ⊢
  omega

/-- R171: the newest record still stands once the event has closed what it closes. -/
theorem State.Journaled.mem {s t : State} (h : s.Journaled t) {r : Record} (last : s.journal.held.getLast? = some r) :
    r ∈ t.journal.held := by
  obtain ⟨new, suffix, length, opened⟩ := h
  obtain ⟨old, held⟩ := List.getLast?_eq_some_iff.1 last
  have few := openOperations_length_le s
  have tail : r :: new <:+ s.journal.held ++ new := ⟨old, by rw [held]; simp⟩
  refine (List.suffix_of_suffix_length_le tail suffix ?_).subset List.mem_cons_self
  have slots : Config.journalSlots = 512 := rfl
  rw [held, List.length_append, List.length_singleton] at length
  rw [List.length_cons]
  omega

/-- What the stops of an event leave. -/
structure State.Winds (s t : State) : Prop where
  points : ∀ p, (s.point p).Winds (t.point p)
  queues : ∀ l, (s.link l).queue <+: (t.link l).queue
  journal : s.Journaled t

theorem State.Winds.trans {s t u : State} (h : s.Winds t) (h' : t.Winds u) : s.Winds u :=
  ⟨fun p => (h.points p).trans (h'.points p), fun l => (h.queues l).trans (h'.queues l), h.journal.trans h'.journal⟩

theorem State.Winds.refl (s : State) : s.Winds s :=
  ⟨fun _ => .refl _, fun _ => List.prefix_rfl, .of_same rfl (Nat.le_refl _)⟩

theorem State.Winds.forEach {α : Type} {f : α → State → State} (h : ∀ x s, State.Winds s (f x s)) (xs : List α) (s : State) :
    s.Winds (forEach xs f s) := forEach_invariant xs f (fun x _ ht => ht.trans (h x _)) s (.refl s)

/-! ## The parts of a stop -/

/-- The notices that a part of an event posts, with no unit changed. -/
theorem State.Winds.of_noticed {s t : State} (noticed : s.Noticed t) (points : t.points = s.points) (inlets : t.inlets = s.inlets)
    (journal : t.journal = s.journal) : s.Winds t where
  points p := by rw [point_of_points points]; exact .refl _
  queues l := (noticed l).queue
  journal := .of_same journal (Nat.le_of_eq (openOperations_length_of_same points inlets))

/-- A part of an event that leaves units, notices and journal alone. -/
theorem State.Winds.of_moves {K : List Part} {H : Set Law} {s t : State} (h : Moves K H s t)
    (hK : ∀ x ∈ [Part.points, .inlets, .journal, .links], x ∉ K := by decide) : s.Winds t :=
  .of_noticed (.of_links (h.same .links (hK _ (by simp)))) (h.same .points (hK _ (by simp)))
    (h.same .inlets (hK _ (by simp))) (h.same .journal (hK _ (by simp)))

/-- A part of an event that works on the order of one point, which has not been stopped, and closes none. -/
theorem State.Winds.of_point {s t : State} {p : PointId} (open' : (s.point p).Winds (t.point p))
    (order : (t.point p).order.isSome = (s.point p).order.isSome)
    (other : ∀ q, p ≠ q → t.point q = s.point q) (deliveries : ∀ i, (t.inlet i).delivery.isSome = (s.inlet i).delivery.isSome)
    (noticed : s.Noticed t) (journal : t.journal = s.journal) : s.Winds t where
  points q := by
    by_cases same : p = q
    · exact same ▸ open'
    · rw [other q same]; exact .refl _
  queues l := (noticed l).queue
  journal := by
    refine .of_same journal (Nat.le_of_eq ?_)
    rw [openOperations_length, openOperations_length]
    refine congrArg₂ (· + ·) (List.countP_congr fun q _ => ?_) (List.countP_congr fun i _ => by rw [deliveries i])
    by_cases same : p = q
    · subst same; rw [order]
    · rw [other q same]

theorem journalWrite_journaled {s t : State} {record : Nat → Record} (journal : t.journal = (journalWrite record true s).journal)
    (closed : s.openOperations.length = t.openOperations.length + 1) : s.Journaled t := by
  refine ⟨[record s.journal.nextPosition], ?_, ?_, ?_⟩
  · rw [journal]
    change ringAfter .. <:+ _
    unfold ringAfter
    split
    · exact List.suffix_rfl
    · obtain ⟨front, eq⟩ := List.drop_suffix 1 s.journal.held
      exact ⟨front, by rw [← List.append_assoc, eq]⟩
  · rw [journal]
    change _ ≤ (ringAfter s.journal.held (record s.journal.nextPosition)).length
    unfold ringAfter
    split
    · simp
    · simp; omega
  · simp only [List.length_singleton]
    omega

/-! ## Notices of a posting (R71, R189) -/

theorem postToTank_noticed (t : TankId) (amount : Int) (s : State) : s.Noticed (postToTank t amount s) := by
  have alarm (x : TankId) (before : Int) (s : State) : s.Noticed (judgeLowAlarm x before s) := by
    unfold judgeLowAlarm
    dsimp only
    split
    · exact post_noticed _ _
    · exact .of_links rfl
  have check (x : TankId) (before : Tank) (s : State) : s.Noticed (checkIfMoved x before s) := by
    unfold checkIfMoved
    dsimp only
    split
    · exact chainCheck_noticed _ _ _
    · exact .of_links rfl
  exact State.Noticed.trans
    (t := judgeLowAlarm t (s.tank t).book (evaluateConditions t (s.updTank t fun x => { x with book := x.book + amount })))
    ((alarm _ _ _).once rfl) ((check _ _ _).once rfl)

theorem addTallies_links (t : TankId) (amount : Int) (s : State) : (addTallies t amount s).links = s.links :=
  (addTallies_moves t amount s).same .links

theorem takeResult_noticed (p : PointId) (r : WindowResult) (s : State) : s.Noticed (takeResult p r s) := by
  unfold takeResult
  rcases postOrderWindow_cases p r.net (s.updOrder p (addResult r)) with ⟨same, _⟩ | ⟨o, t, _, _, _, posts⟩
  · rw [same]; exact .of_links rfl
  · rw [posts]
    exact (postToTank_noticed t _ _).once (addTallies_links ..)

theorem endWindow_noticed (p : PointId) (reading : Option Int) (s : State) : s.Noticed (endWindow p reading s) := by
  unfold endWindow
  dsimp only
  split
  · exact .of_links rfl
  · exact (takeResult_noticed _ _ _).once rfl

theorem takeDeliveryResult_noticed (i : InletId) (r : WindowResult) (s : State) : s.Noticed (takeDeliveryResult i r s) := by
  unfold takeDeliveryResult postDeliveryWindow
  split
  · exact .of_links rfl
  · split
    · exact .of_links rfl
    · exact (postToTank_noticed _ _ _).trans (.of_links rfl)

theorem endInletWindow_noticed (i : InletId) (reading : Option Int) (s : State) : s.Noticed (endInletWindow i reading s) := by
  unfold endInletWindow
  dsimp only
  split
  · exact .of_links rfl
  · exact (takeDeliveryResult_noticed _ _ _).once rfl

/-! ## The stop of a point (R38 to R40) -/

theorem State.SameButTallies.isSome {s t : State} (h : s.SameButTallies t) (i : InletId) :
    (t.inlet i).delivery.isSome = (s.inlet i).delivery.isSome := by
  have := congrArg Option.isSome (h.delivery i)
  simpa only [Option.isSome_map] using this

theorem settledReportCheck_queue (l m : Link) (s : State) : (s.link m).queue <+: ((settledReportCheck l s).link m).queue := by
  unfold settledReportCheck
  split
  · split
    · exact List.prefix_rfl
    · unfold completeLong
      split
      · exact List.prefix_rfl
      · refine List.IsPrefix.trans ?_ (postTo_noticed l _ _ m).queue
        rw [link_updLink]
        split
        · next same => rw [same]
        · exact List.prefix_rfl
  · exact List.prefix_rfl

theorem settledReportsAfterClose_queue (m : Link) (s : State) :
    (s.link m).queue <+: ((settledReportsAfterClose s).link m).queue :=
  forEach_invariant (P := fun t => (s.link m).queue <+: (t.link m).queue) allLinks settledReportCheck
    (fun l t ht => ht.trans (settledReportCheck_queue l m t)) s List.prefix_rfl

/-- R44: the close of an order that has not been stopped before. -/
theorem finishClose_winds {p : PointId} {s : State}
    (waits : (s.point p).state = .identifying ∨ (s.point p).state = .awaitPump) : s.Winds (finishClose p s) := by
  cases order : (s.point p).order with
  | none => rw [finishClose_none order]; exact .refl s
  | some o =>
    refine ⟨fun q => ?_, fun l => ?_, journalWrite_journaled (finishClose_journal order)
      (openOperations_of_closed ((finishClose_moves p s).same .inlets) (by simp [order]) (finishClose_order p s)
        fun q other => by rw [finishClose_point_ne s (Ne.symm other)])⟩
    · by_cases same : p = q
      · subst same
        rcases waits with h | h <;> exact .of_other (by rw [h]; decide) (by rw [h]; decide) (by rw [h]; decide) _
      · rw [finishClose_point_ne s same]; exact .refl _
    · rw [finishClose, order]
      have released : s.Noticed (releasePump p (s.pointSet p).pump s) := .of_links ((releasePump_moves ..).same .links)
      have noticed := released.trans
        (recordOrder_noticed p o (o.termination.getD .stopped) (releasePump p (s.pointSet p).pump s))
      have closes (t : State) : (t.link l).queue <+: ((settledReportsAfterClose (t.updPoint p PointUnit.closed)).link l).queue :=
        link_updPoint p PointUnit.closed t l ▸ settledReportsAfterClose_queue l (t.updPoint p PointUnit.closed)
      exact (noticed l).queue.trans (closes _)

/-- R14: the end of the last window works on the meter and the order of its point. -/
theorem endWindow_point (p : PointId) (reading : Option Int) (s : State) : ∃ (f : Order → Order) (m : Meter),
    (∀ o, (f o).number = o.number ∧ (f o).termination = o.termination ∧ (f o).secondaries = o.secondaries) ∧
    (endWindow p reading s).point p = { s.point p with meter := m, order := (s.point p).order.map f } := by
  unfold endWindow
  dsimp only
  split
  · exact ⟨id, (s.point p).meter, fun _ => ⟨rfl, rfl, rfl⟩, by rw [Option.map_id]; rfl⟩
  · refine ⟨_, _, ?kept, by rw [takeResult_point, if_pos rfl, point_updPoint_self]⟩
    exact fun _ => ⟨rfl, rfl, rfl⟩

theorem closeAtOnce_winds {p : PointId} {s : State}
    (waits : (s.point p).state = .identifying ∨ (s.point p).state = .awaitPump) (ended : Option PointId) (c : Cause) :
    s.Winds (closeAtOnce ended p c s) := by
  have other (v : PointUnit) : (s.point p).Winds v := by
    rcases waits with h | h <;> exact .of_other (by rw [h]; decide) (by rw [h]; decide) (by rw [h]; decide) _
  have marked : s.Winds (s.updOrder p fun o => { o with termination := some c }) :=
    .of_point (p := p) (other _) (by simp) (fun q hq => by rw [point_updOrder, if_neg hq]) (fun _ => rfl) (.of_links rfl) rfl
  have still : ((s.updOrder p fun o => { o with termination := some c }).point p).state = (s.point p).state := by
    rw [point_updOrder_self]
  unfold closeAtOnce
  dsimp only
  split
  · exact marked.trans (finishClose_winds (still ▸ waits))
  · set t := s.updOrder p fun o => { o with termination := some c }
    obtain ⟨f, m, _, point⟩ := endWindow_point p (shortReading (.point p) t) t
    refine marked.trans (State.Winds.trans (.of_point (p := p) ?_ (by rw [point, Option.isSome_map])
      (fun q hq => endWindow_point_ne _ t hq) (endWindow_tallies p _ t).isSome (endWindow_noticed p _ t)
      ((endWindow_moves p _ t).same .journal)) (finishClose_winds ?_))
    · rw [← still] at waits
      rcases waits with h | h <;> exact .of_other (by rw [h]; decide) (by rw [h]; decide) (by rw [h]; decide) _
    · rw [point]
      exact still ▸ waits

theorem addCause_append (termination : Option Cause) (secondaries : List Cause) (c : Cause) :
    ∃ more, addCause termination secondaries c = secondaries ++ more := by
  rw [addCause_eq]
  split
  · exact ⟨[], (List.append_nil _).symm⟩
  · exact ⟨_, rfl⟩

/-- R38: the stop of a point, in every state. -/
theorem stopPoint_winds (ended : Option PointId) (c : Cause) (p : PointId) (s : State) : s.Winds (stopPoint ended c p s) := by
  have unit (u : PointUnit) (h : (s.point p).Winds u) (some : u.order.isSome = (s.point p).order.isSome) :
      s.Winds { s with points := put s.points p u } := by
    have point : State.point { s with points := put s.points p u } p = u := look_put_self ..
    exact .of_point (p := p) (point.symm ▸ h) (point.symm ▸ some) (fun q hq => look_put_ne _ _ hq) (fun _ => rfl) (.of_links rfl) rfl
  cases state : (s.point p).state with
  | disabled => rw [stopPoint_free (.inr state)]; exact .refl s
  | idle => rw [stopPoint_free (.inl state)]; exact .refl s
  | identifying => rw [stopPoint_waiting ended (.inl state)]; exact closeAtOnce_winds (.inl state) ended c
  | awaitPump => rw [stopPoint_waiting ended (.inr state)]; exact closeAtOnce_winds (.inr state) ended c
  | priming | flowing =>
    rw [stopPoint_flows (by simp [state])]
    exact unit _ (.of_other (by simp [state]) (by simp [state]) (by simp [state]) _) Option.isSome_map
  | stopping =>
    rw [stopPoint_stopping state]
    refine unit _ ⟨fun free => by simp [state] at free, fun o _ order => ?_⟩ Option.isSome_map
    obtain ⟨more, eq⟩ := addCause_append o.termination o.secondaries c
    exact ⟨more, by simp only [PointUnit.takesSecondary, order, Option.map_some, eq]⟩

theorem takeReport_winds (ended : Option PointId) (r : Exhaustion) (s : State) : s.Winds (takeReport ended r s) := by
  refine State.Winds.forEach (fun p s => ?_) allPoints s
  split
  · exact stopPoint_winds ended r.reason p s
  · exact .refl s

theorem handReportsUpTo_winds (ended : Option PointId) (n : Nat) (s : State) : s.Winds (handReportsUpTo ended n s) := by
  have quiet (reports : List Exhaustion) (s : State) : s.Winds { s with stock := { s.stock with reports := reports } } :=
    .of_noticed (.of_links rfl) rfl rfl rfl
  induction n generalizing s with
  | zero => exact quiet [] s
  | succ n ih =>
    unfold handReportsUpTo
    split
    · exact .refl s
    · exact (quiet _ s).trans ((takeReport_winds ended _ _).trans (ih _))

theorem handReports_winds (s : State) : s.Winds (handReports s) := handReportsUpTo_winds ..

/-! ## The stop of an inlet (R91, R95, R101) -/

/-- A part of an event that works on the inlets and closes no delivery. -/
theorem State.Winds.of_inlets {s t : State} (points : t.points = s.points)
    (deliveries : ∀ i, (t.inlet i).delivery.isSome = (s.inlet i).delivery.isSome) (noticed : s.Noticed t)
    (journal : t.journal = s.journal) : s.Winds t where
  points p := by rw [point_of_points points]; exact .refl _
  queues l := (noticed l).queue
  journal := .of_same journal (Nat.le_of_eq (by
    rw [openOperations_length, openOperations_length, point_of_points points]
    exact congrArg _ (List.countP_congr fun i _ => by rw [deliveries i])))

theorem closeDelivery_winds (i : InletId) (x : SettleOutcome) (s : State) : s.Winds (closeDelivery i x s) := by
  cases delivery : (s.inlet i).delivery with
  | none => rw [closeDelivery_none delivery]; exact .refl s
  | some d =>
    refine ⟨fun q => ?_, fun l => ?_, journalWrite_journaled (closeDelivery_journal delivery)
      (openOperations_of_inlet_closed ((closeDelivery_moves i x s).same .points) (by simp [delivery]) closeDelivery_delivery
        fun j other => by rw [closeDelivery_inlet_ne x s (Ne.symm other)])⟩
    · rw [point_of_points ((closeDelivery_moves i x s).same .points)]; exact .refl _
    · rw [closeDelivery_some delivery]
      have noticed := (clearReceiving_noticed i s).trans
        (recordDelivery_noticed i (letGo d) (d.termination.getD .stopped) x (clearReceiving i s))
      have closes (t : State) : (t.link l).queue <+: ((settledReportsAfterClose (t.updInlet i InletUnit.closed)).link l).queue :=
        link_updInlet i InletUnit.closed t l ▸ settledReportsAfterClose_queue l (t.updInlet i InletUnit.closed)
      exact (noticed l).queue.trans (closes _)

theorem endInletWindow_isSome (i j : InletId) (reading : Option Int) (s : State) :
    ((endInletWindow i reading s).inlet j).delivery.isSome = (s.inlet j).delivery.isSome := by
  by_cases same : i = j
  · subst same
    exact endInletWindow_delivery ..
  · rw [endInletWindow_inlet_ne _ _ same]

theorem updDelivery_isSome (i j : InletId) (f : Delivery → Delivery) (s : State) :
    ((s.updDelivery i f).inlet j).delivery.isSome = (s.inlet j).delivery.isSome := by
  rw [inlet_updDelivery]
  split
  · next same => subst same; exact Option.isSome_map
  · rfl

theorem updDelivery_winds (i : InletId) (f : Delivery → Delivery) (s : State) : s.Winds (s.updDelivery i f) :=
  .of_inlets rfl (fun j => updDelivery_isSome i j f s) (.of_links rfl) rfl

/-- R95: the stop of an inlet, in every state. -/
theorem stopInlet_winds (c : Cause) (i : InletId) (s : State) : s.Winds (stopInlet c i s) := by
  unfold stopInlet
  split
  · exact .refl s
  · exact .refl s
  · refine State.Winds.trans (.of_inlets ((endInletWindow_moves i _ s).same .points)
      (fun j => endInletWindow_isSome i j _ s) (endInletWindow_noticed i _ s) ((endInletWindow_moves i _ s).same .journal))
      ((updDelivery_winds i _ _).trans (closeDelivery_winds ..))
  · refine State.Winds.of_inlets rfl (fun j => ?_) (.of_links rfl) rfl
    rw [enterInletStopping, updDelivery_isSome, inlet_updInlet]
    split
    · next same => rw [same]
    · rfl
  · exact updDelivery_winds ..

end Sys2Proof.Machine

/-! # Deliveries stopped, coupled and uncoupled -/

namespace Sys2Proof.Machine

open Sys2Proof

/-! ## A delivery closed (R101) -/

section
variable {i : InletId} {s : State} {d : Delivery}

/-- R14: a window of an inlet that holds nothing, ended as the last, credits nothing. -/
theorem endInletWindow_nothing (h : (s.inlet i).meter.CountedNothing) (reading : Option Int) :
    ∃ r : WindowResult, r.gross = 0 ∧ r.net = 0 ∧ endInletWindow i reading s =
      s.updInlet i fun u => { u with meter := .idle, delivery := u.delivery.map (addDeliveryResult r) } := by
  obtain ⟨w, working⟩ := Option.isSome_iff_exists.1 h.1
  obtain ⟨gross, net⟩ := windowResult_nothing h w reading true
  refine ⟨_, gross, net, ?_⟩
  simp only [endInletWindow, working, takeDeliveryResult, net, postDeliveryWindow, if_true]
  simp only [State.updDelivery, State.updInlet, adjust_adjust]

/-- An inlet without a delivery keeps so whatever an event reports to the points. -/
theorem handReports_inlet (free : (s.inlet i).delivery = none) : (handReports s).inlet i = s.inlet i := by
  have same := (handReports_tallies s).inlet i
  have none : ((handReports s).inlet i).delivery = none := by
    have := congrArg InletUnit.delivery same
    simpa only [InletUnit.untallied, free, Option.map_none, Option.map_eq_none_iff] using this
  have whole (u : InletUnit) (h : u.delivery = Option.none) : u.untallied = u := by
    obtain ⟨⟩ := u
    subst h
    rfl
  rwa [whole _ none, whole _ free] at same

/-- R101: the inlet and the record of a closed delivery stand once the event's reports are handed. -/
theorem closeDelivery_handed (delivery : (s.inlet i).delivery = some d) (x : SettleOutcome) :
    (handReports (closeDelivery i x s)).inlet i = (s.inlet i).closed ∧
      .delivery (deliveryRecord i d (d.termination.getD .stopped) x s.seconds s.journal.nextPosition) ∈
        (handReports (closeDelivery i x s)).journal.held := by
  refine ⟨?_, (handReports_winds _).journal.mem ?_⟩
  · rw [handReports_inlet closeDelivery_delivery, closeDelivery_inlet delivery, if_pos rfl]
  · rw [closeDelivery_journal delivery]
    exact List.getLast?_concat ..

/-- R91, R97, R99: a delivery closed without reconciliation. -/
def State.DeliveryClosed (s : State) (i : InletId) (d : Delivery) (cause : Cause) (reason : Reconciliation) (t : State) : Prop :=
  (t.inlet i).state = .idle ∧ (t.inlet i).delivery = none ∧ (t.inlet i).valve = false ∧
  (t.inlet i).meter = .idle ∧
  ∃ r, .delivery r ∈ t.journal.held ∧ r.number = d.number ∧ r.position = s.journal.nextPosition ∧
    r.termination = cause ∧ r.secondaries = d.secondaries ∧ r.reconciliation = reason ∧ r.net = d.net ∧
    r.after = none ∧ r.variance = none ∧
    r.docketVariance = d.declared.map (fun x => decilitres d.net - x)

theorem cutSettle_closed (delivery : (s.inlet i).delivery = some d) :
    s.DeliveryClosed i d (d.termination.getD .stopped) .settleCut (handReports (cutSettle i s)) := by
  obtain ⟨inlet, record⟩ := closeDelivery_handed delivery (notReconciled .settleCut)
  exact ⟨by rw [cutSettle, inlet]; rfl, by rw [cutSettle, inlet]; rfl, by rw [cutSettle, inlet]; rfl, by rw [cutSettle, inlet]; rfl, _, record, rfl, rfl, rfl, rfl,
    rfl, rfl, rfl, rfl, rfl⟩

/-- R91: a delivery that waits for its hose and has counted nothing, closed at once. -/
theorem closeAwaiting_closed (delivery : (s.inlet i).delivery = some d) (nothing : (s.inlet i).meter.CountedNothing) (c : Cause) :
    s.DeliveryClosed i d c .notSettled (handReports (closeAwaiting i c s)) ∧
      ((handReports (closeAwaiting i c s)).inlet i).coupled = (s.inlet i).coupled := by
  obtain ⟨r, -, net, ended⟩ := endInletWindow_nothing nothing (shortReading (.inlet i) s)
  unfold closeAwaiting
  dsimp only
  rw [ended]
  set t := (s.updInlet i fun u => { u with meter := .idle, delivery := u.delivery.map (addDeliveryResult r) }).updDelivery i
    fun d => { d with termination := some c } with ht
  have unit : t.inlet i = { s.inlet i with
      meter := .idle, delivery := some { addDeliveryResult r d with termination := some c } } := by
    rw [ht, inlet_updDelivery_self, inlet_updInlet_self, delivery]
    rfl
  obtain ⟨inlet, record⟩ := closeDelivery_handed (s := t) (by rw [unit]) (notReconciled .notSettled)
  rw [unit] at inlet
  have same : d.net + r.net = d.net := by rw [net, Nat.add_zero]
  refine ⟨⟨by rw [inlet]; rfl, by rw [inlet]; rfl, by rw [inlet]; rfl, by rw [inlet]; rfl, _, record, rfl, rfl, rfl, rfl, rfl,
    same, rfl, rfl, ?_⟩, by rw [inlet]; rfl⟩
  simp only [deliveryRecord, docketVariance, addDeliveryResult, same]

end

/-! ## A stop, by the state of the inlet (R94 to R97) -/

section
variable {i : InletId} {s : State} {c : Cause} {d : Delivery}

theorem stopInlet_receiving (receives : (s.inlet i).state = .receiving) (delivery : (s.inlet i).delivery = some d) :
    stopInlet c i s = { s with inlets := put s.inlets i { s.inlet i with
      state := .stopping, valve := false, stopDue := some (s.clock + 5000), stoppingAt := s.clock
      stopRequestAt := none, delivery := some { d with termination := some c } } } := by
  simp only [stopInlet, receives, enterInletStopping, State.updDelivery, State.updInlet, adjust_adjust]
  simp only [adjust, show (look s.inlets i).delivery = some d from delivery, Option.map_some]
  rfl

theorem stopInlet_stops (stops : (s.inlet i).state = .stopping) (delivery : (s.inlet i).delivery = some d) :
    stopInlet c i s = { s with inlets := put s.inlets i { s.inlet i with
      delivery := some { d with secondaries := addCause d.termination d.secondaries c } } } := by
  have stopped : stopInlet c i s = addDeliverySecondary i c s := by simp only [stopInlet, stops]
  rw [stopped]
  simp only [addDeliverySecondary, State.updDelivery, State.updInlet]
  simp only [adjust, show (look s.inlets i).delivery = some d from delivery, Option.map_some]
  rfl

theorem stopDeliveryRequest_named {v : Via} (stock : (s.perms v.link).stock = true) (delivery : (s.inlet i).delivery = some d) :
    stopDeliveryRequest v ⟨numberOf i, d.number⟩ s = stopDeliveryTaken i s := by
  simp only [stopDeliveryRequest, stock, numbered_numberOf, delivery, Option.any_some, decide_true, Bool.not_true,
    Bool.false_eq_true, if_false, if_true]

end

/-- R91 to R93: a tank is at its high cut by its book or by its gauge. -/
theorem atHighCut_iff (t : TankId) (s : State) : (s.bookAtHighCut t || s.gaugeAtHighCut t) = true ↔
    microlitres (s.tankSet t).highCut ≤ (s.tank t).book ∨
      ∃ g ∈ (s.tank t).gauged, ((s.tankSet t).highCut : Int) ≤ g := by
  rw [Bool.or_eq_true, State.bookAtHighCut, State.gaugeAtHighCut, decide_eq_true_eq, Option.any_eq_true]
  simp only [decide_eq_true_eq, Option.mem_def]

section
variable {i : InletId} {s : State} {d : Delivery} (awaits : (s.inlet i).state = .awaitCoupling)
  (delivery : (s.inlet i).delivery = some d)
include awaits delivery

theorem couple_below (book : (s.tank d.tank).book < microlitres (s.tankSet d.tank).highCut)
    (gauge : ∀ g ∈ (s.tank d.tank).gauged, g < (s.tankSet d.tank).highCut) :
    couple i s = s.updInlet i fun u => { u with state := .receiving, valve := true } := by
  have level : ¬(s.bookAtHighCut d.tank || s.gaugeAtHighCut d.tank) = true := by
    rw [atHighCut_iff]
    exact fun reached => reached.elim (fun h => absurd h (Int.not_le.2 book)) fun ⟨g, hg, h⟩ => absurd h (Int.not_le.2 (gauge g hg))
  simp only [couple, awaits, delivery]
  exact if_neg level

theorem couple_reached (level : microlitres (s.tankSet d.tank).highCut ≤ (s.tank d.tank).book ∨
    ∃ g ∈ (s.tank d.tank).gauged, ((s.tankSet d.tank).highCut : Int) ≤ g) : couple i s = closeAwaiting i .highLevel s := by
  simp only [couple, awaits, delivery]
  exact if_pos ((atHighCut_iff d.tank s).2 level)

end

/-- A line's change that leaves no exhaustion report waiting. -/
theorem takeLine_eq {follow event : State → State} {s t : State} (run : s.Running) (h : event s = t)
    (handed : t.stock.reports = []) : takeLine follow event s = t := by
  rw [takeLine_running run, h, handReports_none handed]

/-- Settles O40. -/
theorem deliveryStopsAndCouples : Obligations.DeliveryStopsAndCouples := by
  intro i d s ready delivery u into adds closed
  have asked {v : Via} (stock : (s.perms v.link).stock = true) :
      requestAnswer (.stopDelivery v ⟨numberOf i, d.number⟩) s = stopDeliveryTaken i s := stopDeliveryRequest_named stock delivery
  refine ⟨fun v zero stock => ⟨fun receives => ?_, fun stops => ?_, fun settles free => ?_, fun awaits nothing => ?_⟩,
    fun v n stock other => ?_, fun coupled => ⟨fun receives => ?_, fun stops => ?_, fun rests => ?_⟩,
    fun loose awake awaits book gauge => ?_, fun loose awake awaits nothing level => ?_⟩
  · have taken : stopDeliveryTaken i s = done (into .stopped u.coupled (some s.clock)) := by
      simp only [stopDeliveryTaken, show (s.inlet i).state = .receiving from receives, stopInlet_receiving receives delivery, State.updInlet, adjust, put_put, look_put_self]
      rfl
    exact congrArg Host.Outcome.next (request_done (code := 0x19) ready rfl zero ((asked stock).trans taken) ready.2)
  · have taken : stopDeliveryTaken i s = ⟨.alreadyStopping, [], adds .stopped u.coupled⟩ := by
      have answer : stopDeliveryTaken i s = ⟨.alreadyStopping, [], stopInlet .stopped i s⟩ := by
        simp only [stopDeliveryTaken, show (s.inlet i).state = .stopping from stops]
      rw [answer, stopInlet_stops stops delivery]
    exact congrArg Host.Outcome.next (request_answered (code := 0x19) ready rfl ((asked stock).trans taken) ready.2
      (.inr (hasPart_of_zero zero)))
  · have taken : stopDeliveryTaken i s = done (cutSettle i s) := by simp only [stopDeliveryTaken, show (s.inlet i).state = .settling from settles]
    exact ⟨_, congrArg Host.Outcome.next (request_taken (code := 0x19) ready rfl zero ((asked stock).trans taken)),
      cutSettle_closed delivery⟩
  · have taken : stopDeliveryTaken i s = done (closeAwaiting i .stopped s) := by
      simp only [stopDeliveryTaken, show (s.inlet i).state = .awaitCoupling from awaits, stopInlet]
    exact ⟨_, congrArg Host.Outcome.next (request_taken (code := 0x19) ready rfl zero ((asked stock).trans taken)),
      (closeAwaiting_closed delivery nothing .stopped).1⟩
  · have refused : requestAnswer (.stopDelivery v ⟨numberOf i, n⟩) s = refuse .noDelivery s := by
      change stopDeliveryRequest v ⟨numberOf i, n⟩ s = _
      simp only [stopDeliveryRequest, stock, numbered_numberOf, delivery, Option.any_some, decide_eq_false (Ne.symm other),
        Bool.not_true, Bool.false_eq_true, if_false]
    exact congrArg Host.Outcome.next (request_refused (code := 0x19) ready rfl refused rfl)
  all_goals
    have changed (b : Bool) : (s.updInlet i fun u => { u with coupled := b }).inlet i = { u with coupled := b } :=
      inlet_updInlet_self ..
    have again (x : InletUnit) (b : Bool) : { s.updInlet i fun u => { u with coupled := b } with
        inlets := put (s.updInlet i fun u => { u with coupled := b }).inlets i x } = { s with inlets := put s.inlets i x } := by
      simp only [State.updInlet, adjust, put_put]
  · have event : inletCoupledInactiveEvent i s = into .uncoupled false none := by
      have stop : inletCoupledInactiveEvent i s = stopInlet .uncoupled i (s.updInlet i fun u => { u with coupled := false }) := by
        simp only [inletCoupledInactiveEvent, show (s.inlet i).coupled = true from coupled, if_true, changed,
          show u.state = .receiving from receives]
      rw [stop]
      rw [stopInlet_receiving (by rw [changed]; exact receives) (by rw [changed]; exact delivery), again, changed]
      rfl
    exact congrArg Host.Outcome.next (takeLine_eq ready.1 event ready.2)
  · have event : inletCoupledInactiveEvent i s = adds .uncoupled false := by
      have stop : inletCoupledInactiveEvent i s = stopInlet .uncoupled i (s.updInlet i fun u => { u with coupled := false }) := by
        simp only [inletCoupledInactiveEvent, show (s.inlet i).coupled = true from coupled, if_true, changed, stops]
      rw [stop]
      rw [stopInlet_stops (by rw [changed]; exact stops) (by rw [changed]; exact delivery), again, changed]
    exact congrArg Host.Outcome.next (takeLine_eq ready.1 event ready.2)
  · have event : inletCoupledInactiveEvent i s = s.updInlet i fun u => { u with coupled := false } := by
      simp only [inletCoupledInactiveEvent, show (s.inlet i).coupled = true from coupled, if_true, changed]
      rcases rests with rests | rests <;> simp only [rests]
    exact congrArg Host.Outcome.next (takeLine_eq ready.1 event ready.2)
  all_goals
    have event : inletCoupledActiveEvent i s = couple i (s.updInlet i fun u => { u with coupled := true }) := by
      simp only [inletCoupledActiveEvent, show (s.inlet i).coupled = false from loose, Bool.false_eq_true, if_false,
        wake_awake awake]
    have awaited : ((s.updInlet i fun u => { u with coupled := true }).inlet i).state = .awaitCoupling := by
      rw [changed]; exact awaits
    have opened : ((s.updInlet i fun u => { u with coupled := true }).inlet i).delivery = some d := by
      rw [changed]; exact delivery
  · have begun : couple i (s.updInlet i fun u => { u with coupled := true }) =
        { s with inlets := put s.inlets i { u with coupled := true, state := .receiving, valve := true } } := by
      rw [couple_below awaited opened book gauge]
      simp only [State.updInlet, adjust_adjust]
      rfl
    exact congrArg Host.Outcome.next (takeLine_eq ready.1 (event.trans begun) ready.2)
  · refine ⟨_, congrArg Host.Outcome.next (takeLine_running ready.1), ?_⟩
    rw [event, couple_reached awaited opened level]
    obtain ⟨shut, coupled⟩ := closeAwaiting_closed opened (by rw [changed]; exact nothing) .highLevel
    exact ⟨shut, coupled.trans (by rw [changed])⟩

end Sys2Proof.Machine

/-! # The bay modes and what a LOCK stops -/

namespace Sys2Proof.Machine

open Sys2Proof

/-! ## One round of a loop over the bay -/

/-- The round of one place among those of a loop: those before it and those after it are of other places. -/
theorem forEach_round {α : Type} {xs : List α} (distinct : xs.Nodup) {x : α} (mem : x ∈ xs) (f : α → State → State) :
    ∃ as bs : List α, x ∉ as ∧ x ∉ bs ∧ ∀ s, forEach xs f s = forEach bs f (f x (forEach as f s)) := by
  obtain ⟨as, bs, rfl⟩ := List.append_of_mem mem
  rw [List.nodup_append, List.nodup_cons] at distinct
  obtain ⟨_, ⟨later, _⟩, apart⟩ := distinct
  exact ⟨as, bs, fun before => apart x before x List.mem_cons_self rfl, later, fun s => forEach_append as (x :: bs) f s⟩

/-! ## A notice in a queue (R189, R190) -/

/-- R189: a link unit once a notice has been posted. -/
theorem link_post (n : Notice) (s : State) (l : Link) : (s.post n).link l =
    if subscribed (look s.store.links l).classes n then
      LinkUnit.enqueue (look s.store.links l).level ⟨n, s.seconds⟩ (s.link l)
    else s.link l := by
  set post : Link → State → State := fun l s => if subscribed (look s.store.links l).classes n then s.postTo l n else s with hpost
  have same (m : Link) (t : State) : SameButLinks t (post m t) := by
    rw [hpost]; dsimp only; split <;> rfl
  have other {m : Link} (ne : m ≠ l) (t : State) : (post m t).link l = t.link l := by
    rw [hpost]; dsimp only
    split
    · rw [State.postTo, link_updLink, if_neg ne]
    · rfl
  obtain ⟨as, bs, before, after, round⟩ := forEach_round (xs := allLinks) (by decide) (mem_allLinks l) post
  have kept (ms : List Link) (absent : l ∉ ms) (t : State) :
      SameButLinks t (forEach ms post t) ∧ (forEach ms post t).link l = t.link l :=
    forEach_induction (P := fun u => SameButLinks t u ∧ u.link l = t.link l)
      (fun m hm u ⟨hu, link⟩ => ⟨(same m u).trans (by rw [hu]), (other (ne_of_mem_of_not_mem hm absent) u).trans link⟩) ⟨rfl, rfl⟩
  change (forEach allLinks post s).link l = _
  rw [round, (kept bs after _).2]
  obtain ⟨first, link⟩ := kept as before s
  have store : (forEach as post s).store = s.store := by rw [first]
  have seconds : (forEach as post s).seconds = s.seconds := by rw [first]; rfl
  rw [hpost]
  dsimp only
  rw [← hpost, store]
  split
  · rw [State.postTo, link_updLink_self, store, seconds, link]
  · exact link

/-- R190: a notice stands in the queue of each link that subscribes to it and has room. -/
theorem post_queue (n : Notice) (s : State) (l : Link) (subscribes : subscribed (look s.store.links l).classes n = true)
    (room : (s.link l).queue.length < 16) : ((s.post n).link l).queue = (s.link l).queue ++ [⟨n, s.seconds⟩] := by
  rw [link_post, if_pos subscribes, LinkUnit.enqueue, if_pos (show _ < Config.maxNotices from room)]
  rfl

/-! ## Stops at a point and at an inlet, whatever its window holds (R38, R91, R95) -/

section
variable {p : PointId} {s : State} {o : Order}

/-- R32, R33, R44: the point and the newest record after a close at once. -/
theorem closeAtOnce_record (order : (s.point p).order = some o) (ended : Option PointId) (c : Cause) :
    (∃ r, (closeAtOnce ended p c s).journal.held.getLast? = some (.dispense r) ∧ r.number = o.number ∧ r.point = p ∧
      r.termination = c ∧ r.secondaries = o.secondaries) ∧
    ∃ u : PointUnit, (closeAtOnce ended p c s).point p = u.closed := by
  have closes {t : State} {o' : Order} (h : (t.point p).order = some o') (number : o'.number = o.number)
      (cause : o'.termination = some c) (secondaries : o'.secondaries = o.secondaries) :
      (∃ r, (finishClose p t).journal.held.getLast? = some (.dispense r) ∧ r.number = o.number ∧ r.point = p ∧
        r.termination = c ∧ r.secondaries = o.secondaries) ∧ ∃ u : PointUnit, (finishClose p t).point p = u.closed := by
    refine ⟨⟨_, by rw [finishClose_journal h]; exact List.getLast?_concat .., number, rfl, ?_, secondaries⟩, _,
      (finishClose_point h p).trans (if_pos rfl)⟩
    simp only [cause, Option.getD_some]
  have marked : ((s.updOrder p fun o => { o with termination := some c }).point p).order = some { o with termination := some c } := by
    rw [point_updOrder_self, order]; rfl
  unfold closeAtOnce
  dsimp only
  split
  · exact closes marked rfl rfl rfl
  · obtain ⟨f, m, kept, point⟩ := endWindow_point p
      (shortReading (.point p) (s.updOrder p fun o => { o with termination := some c }))
      (s.updOrder p fun o => { o with termination := some c })
    obtain ⟨number, cause, secondaries⟩ := kept { o with termination := some c }
    exact closes (by rw [point, marked]; rfl) number cause secondaries

/-- A point that has no order, or that is STOPPING with one. -/
def PointUnit.AtHalt (u : PointUnit) : Prop := (u.state = .idle ∨ u.state = .disabled) ∨ u.state = .stopping ∧ u.order.isSome

theorem PointUnit.AtHalt.state_eq {u v : PointUnit} (h : u.AtHalt) (winds : u.Winds v) : v.state = u.state := by
  rcases h with free | ⟨stops, some⟩
  · rw [winds.free free]
  · obtain ⟨o, order⟩ := Option.isSome_iff_exists.1 some
    obtain ⟨more, eq⟩ := winds.stopping o stops order
    rw [eq]

/-- R38: every stop leaves the point at a halt. -/
theorem stopPoint_atHalt (fits : (s.point p).fitsState) (ended : Option PointId) (c : Cause) :
    ((stopPoint ended c p s).point p).AtHalt := by
  have held (h : (s.point p).order.isSome = true) : (s.point p).state = .identifying ∨ (s.point p).state = .awaitPump →
      ((stopPoint ended c p s).point p).AtHalt := fun waits => by
    obtain ⟨o, order⟩ := Option.isSome_iff_exists.1 h
    obtain ⟨u, closed⟩ := (closeAtOnce_record order ended c).2
    rw [stopPoint_waiting ended waits, closed]
    exact .inl (.inl rfl)
  have unit {u : PointUnit} (h : stopPoint ended c p s = { s with points := put s.points p u }) :
      (stopPoint ended c p s).point p = u := by rw [h]; exact look_put_self ..
  unfold PointUnit.fitsState at fits
  cases state : (s.point p).state <;> rw [state] at fits
  case disabled => rw [stopPoint_free (.inr state)]; exact .inl (.inr state)
  case idle => rw [stopPoint_free (.inl state)]; exact .inl (.inl state)
  case identifying => exact held fits.1 (.inl state)
  case awaitPump => exact held fits.1 (.inr state)
  case priming => rw [unit (stopPoint_flows (.inl state))]; exact .inr ⟨rfl, Option.isSome_map.trans fits.1⟩
  case flowing => rw [unit (stopPoint_flows (.inr state))]; exact .inr ⟨rfl, Option.isSome_map.trans fits.1⟩
  case stopping => rw [unit (stopPoint_stopping state)]; exact .inr ⟨state, Option.isSome_map.trans fits.1⟩

end

section
variable {i : InletId} {s : State} {d : Delivery}

/-- R14: the end of an inlet's window as the last leaves the delivery its number, its declared tank and its causes. -/
theorem endInletWindow_inlet (i : InletId) (reading : Option Int) (s : State) : ∃ (f : Delivery → Delivery) (m : Meter),
    (∀ d, (f d).number = d.number ∧ (f d).secondaries = d.secondaries) ∧
    (endInletWindow i reading s).inlet i = { s.inlet i with meter := m, delivery := (s.inlet i).delivery.map f } := by
  unfold endInletWindow
  dsimp only
  split
  · exact ⟨id, (s.inlet i).meter, fun _ => ⟨rfl, rfl⟩, by rw [Option.map_id]; rfl⟩
  · refine ⟨_, _, ?kept, by rw [takeDeliveryResult_inlet, if_pos rfl, inlet_updInlet_self]⟩
    exact fun _ => ⟨rfl, rfl⟩

/-- R91, R101: the inlet and the newest record after a delivery that waits is closed. -/
theorem closeAwaiting_record (delivery : (s.inlet i).delivery = some d) (c : Cause) :
    (∃ r, (closeAwaiting i c s).journal.held.getLast? = some (.delivery r) ∧ r.number = d.number ∧ r.inlet = i ∧
      r.termination = c ∧ r.reconciliation = .notSettled) ∧
    ∃ u : InletUnit, (closeAwaiting i c s).inlet i = u.closed := by
  obtain ⟨f, m, kept, unit⟩ := endInletWindow_inlet i (shortReading (.inlet i) s) s
  obtain ⟨number, -⟩ := kept d
  unfold closeAwaiting
  dsimp only
  set t := (endInletWindow i (shortReading (.inlet i) s) s).updDelivery i fun d => { d with termination := some c } with ht
  have marked : (t.inlet i).delivery = some { f d with termination := some c } := by
    rw [ht, inlet_updDelivery_self, unit, delivery]; rfl
  exact ⟨⟨_, by rw [closeDelivery_journal marked]; exact List.getLast?_concat .., number, rfl, rfl, rfl⟩, _,
    (closeDelivery_inlet marked i).trans (if_pos rfl)⟩

end

/-- R72: what an inlet with a delivery keeps through the debits of its tank. -/
theorem InletUnit.debited {u v : InletUnit} (h : v.untallied = u.untallied) {d : Delivery} (delivery : u.delivery = some d) :
    ∃ tally, v = { u with delivery := some { d with tally := tally } } := by
  have debits : v.delivery.map Delivery.untallied = u.delivery.map Delivery.untallied := congrArg InletUnit.delivery h
  rw [delivery, Option.map_some, Option.map_eq_some_iff] at debits
  obtain ⟨x, held, same⟩ := debits
  have delivered : x = { d with tally := x.tally } := congrArg (fun y : Delivery => { y with tally := x.tally }) same
  refine ⟨x.tally, ?_⟩
  rw [← delivered, ← held]
  exact congrArg (fun u : InletUnit => { u with delivery := v.delivery }) h

theorem State.SameButTallies.some {s t : State} (h : s.SameButTallies t) {i : InletId} {d : Delivery}
    (delivery : (s.inlet i).delivery = Option.some d) :
    ∃ tally, t.inlet i = { s.inlet i with delivery := Option.some { d with tally := tally } } :=
  InletUnit.debited (h.inlet i) delivery

/-! ## The stops of a LOCK (R197) -/

/-- R197: the stop of one point among those of a LOCK. -/
theorem stopAll_point (p : PointId) (s : State) :
    ∃ u : State, u.point p = s.point p ∧ (stopPoint none .stopped p u).Winds (stopAll s) := by
  obtain ⟨as, bs, before, -, round⟩ := forEach_round (xs := allPoints) (by decide) (mem_allPoints p) (stopPoint none .stopped)
  refine ⟨forEach as (stopPoint none .stopped) s, ?_, ?_⟩
  · exact forEach_induction (P := fun u => u.point p = s.point p)
      (fun q hq u hu => (stopPoint_point_ne _ _ u (ne_of_mem_of_not_mem hq before)).trans hu) rfl
  · rw [stopAll, round]
    exact ((State.Winds.forEach (stopPoint_winds _ _) _ _).trans (.forEach (stopInlet_winds _) _ _)).trans (handReports_winds _)

/-- R197: the stop of one inlet among those of a LOCK. -/
theorem stopAll_inlet (i : InletId) (s : State) :
    ∃ a u b : State, s.SameButTallies a ∧ u.inlet i = a.inlet i ∧ (stopInlet .stopped i u).Winds (stopAll s) ∧
      b.inlet i = (stopInlet .stopped i u).inlet i ∧ b.SameButTallies (stopAll s) := by
  set a := forEach allPoints (stopPoint none .stopped) s with ha
  have points : s.SameButTallies a := .forEach _ _ (fun p s => stopPoint_tallies _ _ p s) s
  obtain ⟨as, bs, before, after, round⟩ := forEach_round (xs := allInlets) (by decide) (mem_allInlets i) (stopInlet .stopped)
  have kept (is : List InletId) (absent : i ∉ is) (u : State) : (forEach is (stopInlet .stopped) u).inlet i = u.inlet i :=
    forEach_induction (P := fun v => v.inlet i = u.inlet i)
      (fun j hj v hv => (stopInlet_inlet_ne _ v (ne_of_mem_of_not_mem hj absent)).trans hv) rfl
  have whole : stopAll s = handReports (forEach bs (stopInlet .stopped) (stopInlet .stopped i (forEach as (stopInlet .stopped) a))) := by
    rw [stopAll, ← ha, round]
  refine ⟨a, forEach as (stopInlet .stopped) a, forEach bs (stopInlet .stopped) _, points, kept as before a, ?_,
    kept bs after _, ?_⟩
  · rw [whole]
    exact (State.Winds.forEach (stopInlet_winds _) _ _).trans (handReports_winds _)
  · rw [whole]
    exact handReports_tallies _

section
variable {s : State} {i : InletId} {d : Delivery}

/-- R197: an inlet whose delivery a LOCK stops. -/
theorem stopAll_delivery (delivery : (s.inlet i).delivery = some d) : ∃ (u : State) (tally : Int),
    u.inlet i = { s.inlet i with delivery := some { d with tally := tally } } ∧
      (stopInlet .stopped i u).Winds (stopAll s) ∧
      ∀ d', ((stopInlet .stopped i u).inlet i).delivery = some d' → ∃ tally, (stopAll s).inlet i =
        { (stopInlet .stopped i u).inlet i with delivery := some { d' with tally := tally } } := by
  obtain ⟨a, u, b, points, unit, winds, stopped, rest⟩ := stopAll_inlet i s
  obtain ⟨tally, held⟩ := points.some delivery
  exact ⟨u, tally, unit.trans held, winds, fun d' h => by rw [← stopped] at h ⊢; exact rest.some h⟩

theorem stopAll_receiving (receives : (s.inlet i).state = .receiving) (delivery : (s.inlet i).delivery = some d) :
    ((stopAll s).inlet i).state = .stopping ∧ ((stopAll s).inlet i).valve = false ∧
      ((stopAll s).inlet i).delivery.bind Delivery.termination = some .stopped := by
  obtain ⟨u, tally, unit, -, held⟩ := stopAll_delivery delivery
  have stop := congrArg (fun v => State.inlet v i)
    (stopInlet_receiving (c := .stopped) (by rw [unit]; exact receives) (by rw [unit]))
  have stopped := stop.trans (look_put_self ..)
  obtain ⟨tally', eq⟩ := held _ (by rw [stopped])
  rw [eq, stopped]
  exact ⟨rfl, rfl, rfl⟩

theorem stopAll_stopping (stops : (s.inlet i).state = .stopping) (delivery : (s.inlet i).delivery = some d) :
    ∃ x, ((stopAll s).inlet i).delivery = some x ∧ x.number = d.number ∧ x.termination = d.termination ∧
      x.secondaries = addCause d.termination d.secondaries .stopped := by
  obtain ⟨u, tally, unit, -, held⟩ := stopAll_delivery delivery
  have stop := congrArg (fun v => State.inlet v i)
    (stopInlet_stops (c := .stopped) (by rw [unit]; exact stops) (by rw [unit]))
  have stopped := stop.trans (look_put_self ..)
  obtain ⟨tally', eq⟩ := held _ (by rw [stopped])
  rw [eq]
  exact ⟨_, rfl, rfl, rfl, rfl⟩

theorem stopAll_awaiting (awaits : (s.inlet i).state = .awaitCoupling) (delivery : (s.inlet i).delivery = some d) :
    ∃ r, .delivery r ∈ (stopAll s).journal.held ∧ r.number = d.number ∧ r.inlet = i ∧ r.termination = .stopped ∧
      r.reconciliation = .notSettled := by
  obtain ⟨u, tally, unit, winds, -⟩ := stopAll_delivery delivery
  have closes : stopInlet .stopped i u = closeAwaiting i .stopped u := by
    simp only [stopInlet, show (u.inlet i).state = .awaitCoupling by rw [unit]; exact awaits]
  obtain ⟨⟨r, last, record⟩, -⟩ := closeAwaiting_record (s := u) (by rw [unit]) .stopped
  exact ⟨r, winds.journal.mem (closes ▸ last), record⟩

theorem stopAll_settling (settles : (s.inlet i).state = .settling) (delivery : (s.inlet i).delivery = some d) :
    ∃ tally, (stopAll s).inlet i = { s.inlet i with delivery := some { d with tally := tally } } := by
  obtain ⟨u, tally, unit, -, held⟩ := stopAll_delivery delivery
  have still : stopInlet .stopped i u = u := by
    simp only [stopInlet, show (u.inlet i).state = .settling by rw [unit]; exact settles]
  rw [still, unit] at held
  exact held { d with tally := tally } rfl

/-- R197: no delivery goes on toward flow after a LOCK. -/
theorem stopAll_inlet_state (fits : (s.inlet i).fitsState) : ((stopAll s).inlet i).state = .idle ∨
    ((stopAll s).inlet i).state = .stopping ∨ ((stopAll s).inlet i).state = .settling := by
  obtain ⟨a, u, b, points, unit, -, stopped, rest⟩ := stopAll_inlet i s
  have started : (u.inlet i).state = (s.inlet i).state := by rw [unit]; exact points.state i
  have held : (u.inlet i).delivery.isSome = (s.inlet i).delivery.isSome := by rw [unit]; exact points.isSome i
  rw [rest.state i, stopped]
  unfold InletUnit.fitsState at fits
  cases state : (s.inlet i).state <;> rw [state] at fits started
  case idle => exact .inl (by simp only [stopInlet, started])
  case settling => exact .inr (.inr (by simp only [stopInlet, started]))
  all_goals obtain ⟨d, delivery⟩ := Option.isSome_iff_exists.1 (held.trans fits.1)
  case awaitCoupling =>
    obtain ⟨-, v, closed⟩ := closeAwaiting_record delivery .stopped
    simp only [stopInlet, started]
    exact .inl (by rw [closed]; rfl)
  case receiving =>
    have stop := congrArg (fun v => State.inlet v i) (stopInlet_receiving (c := .stopped) started delivery)
    exact .inr (.inl (congrArg InletUnit.state (stop.trans (look_put_self ..))))
  case stopping => exact .inr (.inl (stopInlet_stopping started))

end

section
variable {s : State} {p : PointId} {o : Order}

/-- R197: no order goes on toward flow after a LOCK. -/
theorem stopAll_point_state (fits : (s.point p).fitsState) : ((stopAll s).point p).state = .disabled ∨
    ((stopAll s).point p).state = .idle ∨ ((stopAll s).point p).state = .stopping := by
  obtain ⟨u, unit, winds⟩ := stopAll_point p s
  have halt := stopPoint_atHalt (s := u) (p := p) (by rw [unit]; exact fits) none .stopped
  rw [halt.state_eq (winds.points p)]
  rcases halt with (idle | disabled) | ⟨stops, -⟩
  · exact .inr (.inl idle)
  · exact .inl disabled
  · exact .inr (.inr stops)

theorem stopAll_flowing (flows : (s.point p).state = .priming ∨ (s.point p).state = .flowing)
    (order : (s.point p).order = some o) : ((stopAll s).point p).state = .stopping ∧ ((stopAll s).point p).valve = false ∧
      ((stopAll s).point p).order.bind Order.termination = some .stopped := by
  obtain ⟨u, unit, winds⟩ := stopAll_point p s
  have stop : (stopPoint none .stopped p u).point p = (u.point p).stopped u.clock .stopped := by
    rw [stopPoint_flows (by rw [unit]; exact flows)]
    exact look_put_self ..
  obtain ⟨more, eq⟩ := (winds.points p).stopping { o with termination := some .stopped } (by rw [stop]; rfl)
    (by rw [stop, PointUnit.stopped, unit, order]; rfl)
  rw [eq, stop]
  exact ⟨rfl, rfl, rfl⟩

theorem stopAll_stops (stops : (s.point p).state = .stopping) (order : (s.point p).order = some o) :
    ∃ x, ((stopAll s).point p).order = some x ∧ x.number = o.number ∧ x.termination = o.termination ∧
      addCause o.termination o.secondaries .stopped <+: x.secondaries := by
  obtain ⟨u, unit, winds⟩ := stopAll_point p s
  have stop : (stopPoint none .stopped p u).point p = (s.point p).takesSecondary .stopped := by
    rw [stopPoint_stopping (by rw [unit]; exact stops), ← unit]
    exact look_put_self ..
  obtain ⟨more, eq⟩ := (winds.points p).stopping { o with secondaries := addCause o.termination o.secondaries .stopped }
    (by rw [stop]; exact stops) (by rw [stop, PointUnit.takesSecondary, order]; rfl)
  exact ⟨_, congrArg PointUnit.order eq, rfl, rfl, _, rfl⟩

theorem stopAll_waiting (waits : (s.point p).state = .identifying ∨ (s.point p).state = .awaitPump)
    (order : (s.point p).order = some o) :
    ∃ r, .dispense r ∈ (stopAll s).journal.held ∧ r.number = o.number ∧ r.point = p ∧ r.termination = .stopped := by
  obtain ⟨u, unit, winds⟩ := stopAll_point p s
  obtain ⟨⟨r, last, number, point, cause, -⟩, -⟩ := closeAtOnce_record (s := u) (p := p) (by rw [unit]; exact order) none .stopped
  rw [← stopPoint_waiting none (by rw [unit]; exact waits)] at last
  exact ⟨r, winds.journal.mem last, number, point, cause⟩

end

theorem stopAll_queue (s : State) (l : Link) : (s.link l).queue <+: ((stopAll s).link l).queue := by
  have winds : s.Winds (stopAll s) := ((State.Winds.forEach (stopPoint_winds _ _) _ _).trans
    (.forEach (stopInlet_winds _) _ _)).trans (handReports_winds _)
  exact winds.queues l

theorem changeMode_post (new : Mode) (source : ModeSource) (s : State) :
    SameButLinks { s with bay := { s.bay with mode := new } } (changeMode new source s) := post_same ..

theorem stopAll_mode (s : State) : (stopAll s).bay.mode = s.bay.mode :=
  (stopAll_moves s).same .mode

theorem stopAll_reports (s : State) : (stopAll s).stock.reports = [] := by
  rw [stopAll]
  exact handReports_reports _

theorem changeMode_queue {new : Mode} {source : ModeSource} {s : State} {l : Link}
    (subscribes : (look s.store.links l).classes.bay = true) (room : (s.link l).queue.length < 16) :
    ((changeMode new source s).link l).queue = (s.link l).queue ++ [⟨.bayMode s.bay.mode new source, s.seconds⟩] :=
  post_queue _ { s with bay := { s.bay with mode := new } } l subscribes room

theorem changeMode_handed {new : Mode} {source : ModeSource} {s : State} (handed : s.stock.reports = []) :
    (changeMode new source s).stock.reports = [] := (congrArg (fun t => t.stock.reports) (changeMode_post new source s)).trans handed

/-- Settles O30. -/
theorem bayModes : Obligations.BayModes := by
  intro v s ready zero
  have refused {i : Instr} {status : Status} (runs : exec i s = .next (serveRequest v 0x51 i s))
      (h : requestAnswer i s = refuse status s) (awake : wakeBy i s = s := by rfl) :
      exec i s = .next (answered v 0x51 status [] s) :=
    runs.trans (congrArg Host.Outcome.next (request_answered (code := 0x51) ready awake h ready.2 (.inr (hasPart_of_zero zero))))
  have taken {i : Instr} {t : State} (runs : exec i s = .next (serveRequest v 0x51 i s)) (h : requestAnswer i s = done t)
      (handed : t.stock.reports = []) (awake : wakeBy i s = s := by rfl) : exec i s = .next (answered v 0x51 .ok [] t) :=
    runs.trans (congrArg Host.Outcome.next (request_done (code := 0x51) ready awake zero h handed))
  refine ⟨fun dispense => ?_, fun configure => ⟨fun unlocked => ?_, fun locked => ?_, fun locked => ?_, fun unlocked fits => ?_⟩,
    fun new source => ⟨rfl, changeMode_bay .., changeMode_post ..⟩⟩
  · refine ⟨fun mode => refused rfl ?_, fun mode => taken rfl ?_ (changeMode_handed ready.2), fun mode => refused rfl ?_,
      fun mode busy => refused rfl ?_, fun mode closed rests => taken rfl ?_ (changeMode_handed (s := standbyPumps s) ready.2),
      fun mode => refused rfl ?_, fun mode => refused rfl ?_⟩ <;>
      simp only [requestAnswer, setModeOpenRequest, setModeStandbyRequest, dispense, mode, Bool.not_true, Bool.false_eq_true,
        if_false]
    · rw [wake_standby mode]
    · exact if_pos (Bool.or_eq_true_iff.2 busy)
    · rw [closed, rests]
      rfl
  · refine refused rfl ?_
    change setModeUnlockRequest v s = _
    simp only [setModeUnlockRequest, configure, Bool.not_true, Bool.false_eq_true, if_false]
    cases mode : s.bay.mode
    case locked => exact absurd mode unlocked
    all_goals rfl
  · refine taken rfl ?_ (changeMode_handed ready.2)
    change setModeUnlockRequest v s = _
    simp only [setModeUnlockRequest, configure, locked, Bool.not_true, Bool.false_eq_true, if_false]
  · refine refused rfl ?_
    change setModeLockRequest v s = _
    simp only [setModeLockRequest, configure, locked, Bool.not_true, Bool.false_eq_true, if_false]
  · set t := changeMode .locked (.request v.link) s with ht
    have unlocks : requestAnswer (.setModeLock v) s = done (stopAll t) := by
      change setModeLockRequest v s = _
      simp only [setModeLockRequest, configure, Bool.not_true, Bool.false_eq_true, if_false]
      cases mode : s.bay.mode
      case locked => exact absurd mode unlocked
      all_goals rfl
    have moves : Moves [.mode, .links] ∅ s t := changeMode_moves ..
    have points : t.point = s.point := by
      exact point_of_points (moves.same .points)
    have inlets : t.inlet = s.inlet := by
      exact inlet_of_inlets (moves.same .inlets)
    obtain ⟨fitPoints, fitInlets⟩ := fits ready.1
    have ordered {p : PointId} (h : (s.point p).state = .priming ∨ (s.point p).state = .flowing) :
        (s.point p).order.isSome = true := by
      have fit := fitPoints p
      unfold PointUnit.fitsState at fit
      rcases h with h | h <;> rw [h] at fit <;> exact fit.1
    have delivered {i : InletId} (h : (s.inlet i).state = .receiving) : (s.inlet i).delivery.isSome = true := by
      have fit := fitInlets i
      unfold InletUnit.fitsState at fit
      rw [h] at fit
      exact fit.1
    have handed : handReports (stopAll t) = stopAll t := handReports_none (stopAll_reports _)
    refine ⟨stopAll t, ?_, ?_, ?_, ?_, ?_, ?_, ⟨?_, ?_⟩, ?_, ?_, ?_, ?_⟩
    · exact congrArg Host.Outcome.next ((request_taken (code := 0x51) ready rfl zero unlocks).trans
        (congrArg (answered v 0x51 .ok []) handed))
    · rw [stopAll_mode, ht, changeMode_bay]
    · exact fun p => stopAll_point_state (by rw [points]; exact fitPoints p)
    · exact fun i => stopAll_inlet_state (by rw [inlets]; exact fitInlets i)
    · intro p flows
      obtain ⟨o, order⟩ := Option.isSome_iff_exists.1 (ordered flows)
      rw [← points] at flows order
      exact stopAll_flowing flows order
    · intro i receives
      obtain ⟨d, delivery⟩ := Option.isSome_iff_exists.1 (delivered receives)
      rw [← inlets] at receives delivery
      exact stopAll_receiving receives delivery
    · intro p o stops order
      rw [← points] at stops order
      obtain ⟨x, held, number, cause, adds⟩ := stopAll_stops stops order
      rw [addCause_eq] at adds
      simp only [or_assoc] at adds
      exact ⟨x, held, number, cause, adds⟩
    · intro i d stops delivery
      rw [← inlets] at stops delivery
      obtain ⟨x, held, number, cause, adds⟩ := stopAll_stopping stops delivery
      rw [addCause_eq] at adds
      simp only [or_assoc] at adds
      exact ⟨x, held, number, cause, adds ▸ List.prefix_rfl⟩
    · rw [← points]
      exact fun p o waits order => stopAll_waiting waits order
    · rw [← inlets]
      exact fun i d awaits delivery => stopAll_awaiting awaits delivery
    · rw [← inlets]
      exact fun i d settles delivery => stopAll_settling settles delivery
    · intro l subscribes room
      obtain ⟨more, eq⟩ := stopAll_queue t l
      rw [← eq, ht, changeMode_queue subscribes room, List.append_assoc, List.getElem?_append_right (Nat.le_refl _), Nat.sub_self]
      rfl

end Sys2Proof.Machine

/-! # Causes at hand: the latch they set and its entry in the trip log -/

namespace Sys2Proof.Machine

open Sys2Proof

theorem Moves.shutdown {K : List Part} {H : Set Law} {s t : State} (h : Moves K H s t)
    (hK : ∀ x ∈ [Part.latches, .log, .shutdownRest], x ∉ K := by decide) : t.shutdown = s.shutdown := by
  obtain ⟨points, bunds, bay⟩ := h.same .latches (hK _ (by simp))
  obtain ⟨drip, overpress, sump, highhigh, estop, dripBypass, sumpBypass, nextTrip, resetKey⟩ := h.same .shutdownRest (hK _ (by simp))
  have log : t.shutdown.log = s.shutdown.log := h.same .log (hK _ (by simp))
  generalize t.shutdown = u at *
  generalize s.shutdown = v at *
  obtain ⟨⟩ := u
  obtain ⟨⟩ := v
  simp_all only

theorem latch_of_shutdown {s t : State} (h : t.shutdown = s.shutdown) : t.latch = s.latch := by
  funext x; cases x <;> simp only [State.latch, h]

theorem unstopped_of_units {s t : State} (points : t.points = s.points) (inlets : t.inlets = s.inlets) : t.unstopped = s.unstopped := by
  simp only [State.unstopped, point_of_points points, inlet_of_inlets inlets]

/-! ## The inputs and the bypasses of a state -/

/-- Two states in which the line inputs and the bypasses are the same. -/
structure State.SameInputs (s t : State) : Prop where
  debounced : t.debounced = s.debounced
  bypass : t.bypass = s.bypass
  estop : t.shutdown.estop = s.shutdown.estop

namespace State.SameInputs

variable {s t u : State}

theorem trans (h : s.SameInputs t) (h' : t.SameInputs u) : s.SameInputs u :=
  ⟨h'.debounced.trans h.debounced, h'.bypass.trans h.bypass, h'.estop.trans h.estop⟩

theorem of_shutdown (h : t.shutdown = s.shutdown) : s.SameInputs t :=
  ⟨by funext x; cases x <;> simp only [State.debounced, h], by funext x; cases x <;> simp only [State.bypass, h], by rw [h]⟩

theorem of_moves {K : List Part} {H : Set Law} (h : Moves K H s t) (hK : Part.shutdownRest ∉ K := by decide) : s.SameInputs t := by
  obtain ⟨drip, overpress, sump, highhigh, estop, dripBypass, sumpBypass, -⟩ := h.same .shutdownRest hK
  exact ⟨by funext x; cases x <;> simp only [State.debounced, drip, overpress, sump, highhigh],
    by funext x; cases x <;> simp only [State.bypass, dripBypass, sumpBypass], estop⟩

/-- R152: whether an input counts as clear stands in the inputs and the bypasses alone. -/
theorem countsClear (h : s.SameInputs t) : t.countsClear = s.countsClear := by
  funext x
  cases x with
  | estop => simp only [State.countsClear, h.estop]
  | debounced x => cases x <;> simp only [State.countsClear, h.debounced, State.isBypassed, h.bypass]

theorem isBypassed (h : s.SameInputs t) (x : DebouncedInput) : t.isBypassed x = s.isBypassed x := by
  simp only [State.isBypassed, h.bypass]

end State.SameInputs

/-! ## A latch examined (R152) -/

/-- R152: a latch after its examination. -/
def Latch.examined (clear : Bool) (l : Latch) : Latch :=
  if l.state = .tripped ∧ clear = true then { l with state := .clearable } else l

theorem examine_latch (x y : LatchId) (s : State) :
    (examine x s).latch y = if x = y then (s.latch x).examined (s.allClear x) else s.latch y := by
  unfold examine Latch.examined
  dsimp only
  split
  · rw [latch_of_shutdown ((post_moves ..).shutdown), latch_setLatch]
  · split
    · next same => rw [same]
    · rfl

/-! ## A cause handed (R150, R151, R160, R164) -/

theorem handedOn_moves (h : Handing) (leaves : Bool) (s : State) :
    Moves (.links :: .stockRest :: orderParts) ∅ s (handedOn h leaves s) :=
  ((post_moves ..).andThen (whileTripping_moves (handOn_moves h leaves))).mono (by simp)

/-- R145, R150, R151: the latch that a cause is handed to, as it takes the cause. -/
def takenLatch (h : Handing) (s : State) : Latch :=
  if (s.latch h.latch).state = .normal then trippedLatch h s else furtherLatch h (s.latch h.latch)

theorem latchTaken_latch (h : Handing) (s : State) (y : LatchId) :
    (latchTaken h s).latch y = if h.latch = y then takenLatch h s else s.latch y := by
  unfold latchTaken takenLatch
  split
  · exact tripLatch_latch ..
  · exact latch_setLatch ..

theorem latchTaken_inputs (h : Handing) (s : State) : s.SameInputs (latchTaken h s) := by
  unfold latchTaken
  split <;> refine ⟨?_, ?_, ?_⟩
  case isTrue.refine_1 | isFalse.refine_1 =>
    funext x; cases x <;> simp [State.debounced, tripLatch, furtherCause, changeEntry]
  case isTrue.refine_2 | isFalse.refine_2 =>
    funext x; cases x <;> simp [State.bypass, tripLatch, furtherCause, changeEntry]
  case isTrue.refine_3 | isFalse.refine_3 => simp [tripLatch, furtherCause, changeEntry]

/-- The state in which a cause has been handed on: its latch has taken it, and its hand-on has done what it does. -/
def causeHandedOn (h : Handing) (s : State) : State :=
  handedOn h (decide ((s.latch h.latch).state = .normal)) (latchTaken h s)

theorem causeHandedOn_shutdown (h : Handing) (s : State) : (causeHandedOn h s).shutdown = (latchTaken h s).shutdown :=
  (handedOn_moves h _ _).shutdown

/-- R160: a cause handed, with the operations that it stopped. -/
theorem handCause_stopped (h : Handing) (s : State) : handCause h s = examine h.latch (changeEntry (takenLatch h s).trip
    (fun e => { e with stopped := e.stopped + (s.unstopped - (handCause h s).unstopped + h.already) }) (causeHandedOn h s)) := by
  have number : ((latchTaken h s).latch h.latch).trip = (takenLatch h s).trip := by rw [latchTaken_latch, if_pos rfl]
  have taken := latchTaken_moves h s
  have before (n : Notice) : ((latchTaken h s).post n).unstopped = s.unstopped :=
    (unstopped_of_units (State.post_points ..) (State.post_inlets ..)).trans (unstopped_of_units (taken.same .points) (taken.same .inlets))
  have closing (number : Option Nat) (f : TripEntry → TripEntry) (t : State) : (examine h.latch (changeEntry number f t)).unstopped = t.unstopped :=
    have moves := (changeEntry_moves number f t).andThen (examine_moves h.latch _)
    unstopped_of_units (moves.same .points) (moves.same .inlets)
  have counted : handCause h s = examine h.latch (changeEntry ((latchTaken h s).latch h.latch).trip
      (fun e => { e with stopped := e.stopped + (((latchTaken h s).post (.trip h.latch (((latchTaken h s).latch h.latch).trip.getD 0)
        h.cause (decide ((s.latch h.latch).state = .normal)) ((latchTaken h s).stateAfter h))).unstopped -
        (causeHandedOn h s).unstopped + h.already) }) (causeHandedOn h s)) := rfl
  rw [before, number] at counted
  have after : (handCause h s).unstopped = (causeHandedOn h s).unstopped := by rw [counted, closing]
  rw [after]
  exact counted

/-- R145, R151: the inputs of a latch that has taken a cause. -/
theorem takenLatch_contributing (h : Handing) (s : State) : (takenLatch h s).contributing =
    if (s.latch h.latch).state = .normal then h.input.toList
    else if ∀ x ∈ h.input, x ∈ (s.latch h.latch).contributing then (s.latch h.latch).contributing
    else (s.latch h.latch).contributing ++ h.input.toList := by
  unfold takenLatch
  split
  · rfl
  · change addInput h.input (s.latch h.latch).contributing = _
    cases input : h.input with
    | none => simp [addInput]
    | some x => simp only [addInput, List.contains_iff_mem, Option.mem_some_iff, forall_eq', Option.toList_some]

/-- R151: the causes of a set latch that takes a further one. -/
theorem addTripCause_eq (c : TripCause) (causes : List TripCause) : addTripCause c causes =
    if c ∈ causes ∨ 4 ≤ causes.length then causes else causes ++ [c] := by
  unfold addTripCause
  simp only [List.contains_iff_mem]
  by_cases held : c ∈ causes
  · rw [if_pos held, if_pos (.inl held)]
  · by_cases short : causes.length < Config.maxLatchCauses
    · rw [if_neg held, if_pos short, if_neg (show ¬(c ∈ causes ∨ 4 ≤ causes.length) from not_or.2 ⟨held, Nat.not_le.2 short⟩)]
    · rw [if_neg held, if_neg short, if_pos (show c ∈ causes ∨ 4 ≤ causes.length from .inr (Nat.not_lt.1 short))]

/-- R152: the latch that a cause is handed to, once the event has examined it. -/
theorem handCause_latch (h : Handing) (s : State) (y : LatchId) : (handCause h s).latch y =
    if h.latch = y then (takenLatch h s).examined ((takenLatch h s).contributing.all s.countsClear) else s.latch y := by
  have latch (number : Option Nat) (f : TripEntry → TripEntry) (t : State) : (changeEntry number f t).latch = t.latch := rfl
  have taken := latch_of_shutdown (causeHandedOn_shutdown h s)
  have clear : (causeHandedOn h s).countsClear = s.countsClear :=
    ((latchTaken_inputs h s).trans (.of_shutdown (causeHandedOn_shutdown h s))).countsClear
  rw [handCause_stopped, examine_latch, latch, taken, latchTaken_latch, latchTaken_latch, if_pos rfl]
  split
  · congr 1
    simp only [State.allClear, latch, taken, latchTaken_latch, if_true]
    exact congrArg _ clear
  · rfl

/-- R160, R164: the trip log once a cause has been handed. -/
theorem handCause_log (h : Handing) (s : State) : (handCause h s).shutdown.log =
    (latchTaken h s).shutdown.log.map fun e => if (takenLatch h s).trip = some e.number then
      { e with stopped := e.stopped + (s.unstopped - (handCause h s).unstopped + h.already) } else e := by
  conv_lhs => rw [handCause_stopped]
  have examined (t : State) : (examine h.latch t).shutdown.log = t.shutdown.log := (examine_moves ..).same .log
  rw [examined]
  simp only [changeEntry, State.setLog, causeHandedOn_shutdown]

theorem handCause_nextTrip (h : Handing) (s : State) : (handCause h s).shutdown.nextTrip =
    if (s.latch h.latch).state = .normal then nextCount s.shutdown.nextTrip else s.shutdown.nextTrip := by
  obtain ⟨-, -, -, -, -, -, -, nextTrip, -⟩ := (examine_moves h.latch (changeEntry (takenLatch h s).trip
    (fun e => { e with stopped := e.stopped + (s.unstopped - (handCause h s).unstopped + h.already) }) (causeHandedOn h s))).same
      .shutdownRest
  rw [handCause_stopped, nextTrip]
  change (causeHandedOn h s).shutdown.nextTrip = _
  rw [causeHandedOn_shutdown, latchTaken]
  split
  · rfl
  · simp [furtherCause, changeEntry]

/-- Settles O49. -/
theorem causeTripsLatch : Obligations.CauseTripsLatch := by
  intro h s l t inputs log stopped
  have contributing : (takenLatch h s).contributing = inputs := takenLatch_contributing h s
  have taken : t.latch h.latch = (takenLatch h s).examined (inputs.all s.countsClear) := by
    rw [← contributing]
    exact (handCause_latch h s h.latch).trans (if_pos rfl)
  have logged : t.shutdown.log = (latchTaken h s).shutdown.log.map fun e => if (takenLatch h s).trip = some e.number then
      { e with stopped := e.stopped + stopped } else e := handCause_log h s
  have counts := handCause_nextTrip h s
  have tripped : (takenLatch h s).state = .tripped := by unfold takenLatch; split <;> rfl
  have examined (l : Latch) (b : Bool) : (l.examined b).contributing = l.contributing ∧ (l.examined b).causes = l.causes ∧
      (l.examined b).trip = l.trip ∧ (l.examined b).time = l.time := by
    unfold Latch.examined; split <;> exact ⟨rfl, rfl, rfl, rfl⟩
  obtain ⟨sameInputs, causes, trip, time⟩ := examined (takenLatch h s) (inputs.all s.countsClear)
  refine ⟨by rw [taken, sameInputs, contributing], ?_, fun y other => (handCause_latch h s y).trans (if_neg (Ne.symm other)), ?_, ?_⟩
  · rw [taken, Latch.examined, tripped]
    simp only [true_and, List.all_eq_true]
    split
    · rfl
    · exact tripped
  · intro normal
    have latch : takenLatch h s = trippedLatch h s := if_pos normal
    have whole : latchTaken h s = tripLatch h s := if_pos normal
    rw [taken, causes, trip, time, logged, latch, whole]
    refine ⟨rfl, rfl, rfl, counts.trans (if_pos normal), fun fresh => ?_⟩
    have newer : (tripLatch h s).shutdown.log = (if log.length < 32 then log else log.drop 1) ++
        [⟨s.shutdown.nextTrip, s.seconds, h.latch, [h.cause], 0, none, none⟩] := rfl
    have old : ∀ e ∈ (if log.length < 32 then log else log.drop 1), (trippedLatch h s).trip ≠ some e.number := by
      intro e he same
      refine fresh e ?_ (Option.some.inj same).symm
      split at he
      · exact he
      · exact List.mem_of_mem_drop he
    rw [newer, List.map_append, List.map_congr_left fun e he => if_neg (old e he), List.map_id', List.map_singleton]
    have itself : (trippedLatch h s).trip = some s.shutdown.nextTrip := rfl
    simp only [itself, if_true, Nat.zero_add]
  · intro set
    have latch : takenLatch h s = furtherLatch h l := if_neg set
    have whole : latchTaken h s = furtherCause h s := if_neg set
    rw [taken, causes, trip, time, logged, latch, whole]
    refine ⟨addTripCause_eq .., rfl, rfl, counts.trans (if_neg set), ?_⟩
    have entry : (furtherCause h s).shutdown.log = log.map fun e =>
        if l.trip = some e.number then { e with causes := (furtherLatch h l).causes } else e := by
      simp only [furtherCause, changeEntry, State.setLog, State.setLatch_log]
      rfl
    rw [entry, List.map_map]
    refine List.map_congr_left fun e _ => ?_
    change (if l.trip = some _ then _ else _) = _
    dsimp only
    split
    · rfl
    · rfl

end Sys2Proof.Machine

/-! # Line inputs and bypasses -/

namespace Sys2Proof.Machine

open Sys2Proof

/-! ## Writes of inputs and of bypasses -/

theorem handCause_inputs (h : Handing) (s : State) : s.SameInputs (handCause h s) := by
  rw [handCause_stopped]
  exact ((latchTaken_inputs h s).trans (.of_shutdown (causeHandedOn_shutdown h s))).trans
    (.of_moves ((changeEntry_moves ..).andThen (examine_moves ..)))

theorem debounced_updDebounced (x y : DebouncedInput) (f : Input → Input) (s : State) :
    (s.updDebounced x f).debounced y = if x = y then f (s.debounced x) else s.debounced y := by
  cases x <;> cases y <;> simp [State.debounced, State.updDebounced, look_adjust]

theorem updDebounced_congr {x : DebouncedInput} {f g : Input → Input} {s : State} (h : f (s.debounced x) = g (s.debounced x)) :
    s.updDebounced x f = s.updDebounced x g := by
  cases x <;> simp only [State.debounced] at h <;> simp only [State.updDebounced, adjust, h]

theorem bypass_updDebounced (x : DebouncedInput) (f : Input → Input) (s : State) : (s.updDebounced x f).bypass = s.bypass := by
  funext b; cases b <;> simp [State.bypass]

theorem latch_updDebounced (x : DebouncedInput) (f : Input → Input) (s : State) : (s.updDebounced x f).latch = s.latch := by
  funext y; cases y <;> simp [State.latch]

theorem bypass_setBypass (x y : BypassId) (b : Option Bypass) (s : State) :
    (s.setBypass x b).bypass y = if x = y then b else s.bypass y := by
  cases x <;> cases y <;> simp [State.bypass, State.setBypass, look_put]

theorem debounced_setBypass (x : BypassId) (b : Option Bypass) (s : State) : (s.setBypass x b).debounced = s.debounced := by
  funext y; cases x <;> cases y <;> rfl

theorem latch_setBypass (x : BypassId) (b : Option Bypass) (s : State) : (s.setBypass x b).latch = s.latch := by
  funext y; cases x <;> cases y <;> rfl

/-! ## The latches that hold an input, examined (R152) -/

theorem mem_allLatches (x : LatchId) : x ∈ allLatches := by
  cases x with
  | point p => revert p; decide
  | bund b => revert b; decide
  | bay => decide

theorem examineHolding_latch (x : LineInput) (y : LatchId) (s : State) : (examineHolding x s).latch y =
    if x ∈ (s.latch y).contributing then (s.latch y).examined (s.allClear y) else s.latch y := by
  set held := allLatches.filter fun l => (s.latch l).contributing.contains x with hheld
  have distinct : held.Nodup := List.Nodup.filter _ (by decide)
  have mem : y ∈ held ↔ x ∈ (s.latch y).contributing := by
    rw [hheld, List.mem_filter, List.contains_iff_mem]
    exact and_iff_right (mem_allLatches y)
  have kept (ys : List LatchId) (absent : y ∉ ys) (t : State) :
      (forEach ys examine t).latch y = t.latch y ∧ t.SameInputs (forEach ys examine t) :=
    forEach_induction (P := fun u => u.latch y = t.latch y ∧ t.SameInputs u)
      (fun l hl u ⟨latch, inputs⟩ => ⟨((examine_latch l y u).trans (if_neg (ne_of_mem_of_not_mem hl absent))).trans latch,
        inputs.trans (.of_moves (examine_moves ..))⟩) ⟨rfl, .of_shutdown rfl⟩
  change (forEach held examine s).latch y = _
  split
  · next holds =>
    obtain ⟨as, bs, before, after, round⟩ := forEach_round distinct (mem.2 holds) examine
    obtain ⟨latch, inputs⟩ := kept as before s
    rw [round, (kept bs after _).1, examine_latch, if_pos rfl, latch]
    simp only [State.allClear, latch, inputs.countsClear]
  · next free => exact (kept held (fun h => free (mem.1 h)) s).1

/-! ## A cause of a line input (R148, R151) -/

/-- R148, R151, R152: an input that does not count as clear leaves the latch it is handed to TRIPPED, with the input held. -/
theorem handCause_input {h : Handing} {s : State} {x : LineInput} (input : h.input = some x) (active : s.countsClear x = false) :
    ((handCause h s).latch h.latch).state = .tripped ∧ x ∈ ((handCause h s).latch h.latch).contributing ∧
      ((s.latch h.latch).state = .normal → ((handCause h s).latch h.latch).causes = [h.cause]) := by
  obtain ⟨inputs, state, -, normal, -⟩ := causeTripsLatch h s
  have holds : x ∈ ((handCause h s).latch h.latch).contributing := by
    rw [inputs, input]
    split
    · exact List.mem_singleton_self x
    · split
      · next held => exact held x rfl
      · exact List.mem_append_right _ (List.mem_singleton_self x)
  refine ⟨state.trans (if_neg fun clear => ?_), holds, fun free => (normal free).1⟩
  rw [inputs] at holds
  exact absurd (clear x holds) (by rw [active]; exact Bool.false_ne_true)

/-- R148: an input that takes effect hands its cause to the latch of its scope. -/
theorem takesEffect_hands {x : DebouncedInput} {s : State} (free : s.isBypassed x = false) : ∃ (h : Handing) (u : State),
    takesEffect x s = handCause h u ∧ h.latch = s.latchOf x ∧ h.cause = causeOf x ∧ h.input = some (.debounced x) ∧
      u.shutdown = s.shutdown := by
  simp only [takesEffect, free, Bool.false_eq_true, if_false]
  cases x with
  | highhigh t => exact ⟨_, _, rfl, rfl, rfl, rfl, (whileTripping_moves (handHighHigh_moves t)).shutdown⟩
  | drip p => exact ⟨_, _, rfl, rfl, rfl, rfl, rfl⟩
  | overpress p => exact ⟨_, _, rfl, rfl, rfl, rfl, rfl⟩
  | sump b => exact ⟨_, _, rfl, rfl, rfl, rfl, rfl⟩

theorem latchOf_of_store {s t : State} (h : t.store = s.store) : t.latchOf = s.latchOf := by
  funext x; cases x <;> simp only [State.latchOf, State.tankSet, h]

theorem handReports_shutdown (s : State) : (handReports s).shutdown = s.shutdown := (handReports_moves s).shutdown

/-- R148: what an input that takes effect leaves of the latch of its scope. -/
theorem takesEffect_latch {x : DebouncedInput} {s : State} (free : s.isBypassed x = false)
    (active : (s.debounced x).settled = .active) :
    s.SameInputs (takesEffect x s) ∧ ((takesEffect x s).latch (s.latchOf x)).state = .tripped ∧
      .debounced x ∈ ((takesEffect x s).latch (s.latchOf x)).contributing ∧
      ((s.latch (s.latchOf x)).state = .normal → ((takesEffect x s).latch (s.latchOf x)).causes = [causeOf x]) := by
  obtain ⟨h, u, hands, latch, cause, input, shutdown⟩ := takesEffect_hands free
  have inputs : s.SameInputs u := .of_shutdown shutdown
  have counts : u.countsClear (.debounced x) = false := by
    rw [inputs.countsClear]
    simp only [State.countsClear, active, free]
    rfl
  have effect := handCause_input input counts
  rw [latch_of_shutdown shutdown, latch, cause] at effect
  rw [hands]
  exact ⟨inputs.trans (handCause_inputs h u), effect⟩

/-! ## The pumps while ESTOP stops every operation (R59) -/

/-- R59: a stop with no pump claimed leaves the pumps as they are. -/
theorem stopPoint_pumps {s : State} (free : ∀ m, (s.pump m).claims = []) (ended : Option PointId) (c : Cause) (p : PointId) :
    (stopPoint ended c p s).pumps = s.pumps := by
  have closes {t : State} (pumps : t.pumps = s.pumps) : (finishClose p t).pumps = s.pumps := by
    cases order : (t.point p).order with
    | none => rw [finishClose_none order, pumps]
    | some o =>
      have unclaimed (m : PumpId) : releasePump p m t = t := by
        have claims : (t.pump m).claims = [] := by rw [State.pump, pumps]; exact free m
        simp only [releasePump, claims, List.contains_nil, Bool.false_eq_true, if_false]
      rw [finishClose_pumps order, unclaimed, pumps]
  have atOnce : (closeAtOnce ended p c s).pumps = s.pumps := by
    unfold closeAtOnce
    dsimp only
    split
    · exact closes rfl
    · exact closes ((endWindow_moves p _ _).same .pumps)
  unfold stopPoint
  split <;> first | exact atOnce | rfl

theorem handReports_pumps {s : State} (free : ∀ m, (s.pump m).claims = []) : (handReports s).pumps = s.pumps := by
  have upTo (n : Nat) : ∀ t : State, t.pumps = s.pumps → (handReportsUpTo none n t).pumps = s.pumps := by
    induction n with
    | zero => exact fun t pumps => pumps
    | succ n ih =>
      intro t pumps
      unfold handReportsUpTo
      split
      · exact pumps
      · refine ih _ (forEach_invariant (P := fun u => u.pumps = s.pumps) _ _ (fun p u hu => ?_) _ pumps)
        split
        · exact (stopPoint_pumps (fun m => by rw [State.pump, hu]; exact free m) ..).trans hu
        · exact hu
  exact upTo 16 s rfl

/-- R155: a hand-on that finds no pump claimed leaves the pumps as its stock unit's part and the bay trip do. -/
theorem handOn_pumps {h : Handing} {leaves : Bool} {s : State} (free : ∀ m, ((handOnStock h leaves s).pump m).claims = []) :
    (handOn h leaves s).pumps = (handOnStock h leaves s).pumps := by
  have inlets (is : List InletId) (t : State) : (forEach is (stopInlet .trip) t).pumps = t.pumps :=
    (Moves.forEach is (stopInlet .trip) (fun i _ s => stopInlet_moves .trip i s) t).same .pumps
  have points (ps : List PointId) {t : State} (free : ∀ m, (t.pump m).claims = []) : (forEach ps (stopPoint none .trip) t).pumps = t.pumps :=
    forEach_invariant (P := fun u => u.pumps = t.pumps) ps _
      (fun p u hu => (stopPoint_pumps (fun m => by rw [State.pump, hu]; exact free m) ..).trans hu) t rfl
  have freed {t : State} (pumps : t.pumps = (handOnStock h leaves s).pumps) (m : PumpId) : (t.pump m).claims = [] := by
    rw [State.pump, pumps]; exact free m
  have first := inlets ((handOnStock h leaves s).inletsTripped h) (handOnStock h leaves s)
  have second := (points ((pointsOf h.latch).filter fun p => h.exemptPoint ≠ some p) (freed first)).trans first
  rw [handOn_eq, handReports_pumps (freed second), second]

/-- R59: the BAY latch that leaves NORMAL takes every pump OFF, with no claim and an empty queue. -/
theorem handCause_bay {c : TripCause} {input : Option LineInput} {s : State} (normal : (s.latch .bay).state = .normal) :
    (∀ m, ((handCause (handing .bay c input) s).pump m).state = .off ∧ ((handCause (handing .bay c input) s).pump m).run = false ∧
      ((handCause (handing .bay c input) s).pump m).claims = []) ∧
    (handCause (handing .bay c input) s).pumps.queue = [] := by
  set h := handing .bay c input
  have leaves : decide ((s.latch h.latch).state = .normal) = true := decide_eq_true normal
  have last : (handCause h s).pumps = (causeHandedOn h s).pumps := by
    rw [handCause_stopped]
    exact ((changeEntry_moves ..).andThen (examine_moves ..)).same .pumps
  have tripping (f : State → State) (u : State) : ∃ v, (whileTripping f u).pumps = (f v).pumps := ⟨_, rfl⟩
  have stock (v : State) : handOnStock h true v = bayTripPumps (checkProducts .bay v) := rfl
  obtain ⟨v, handed⟩ := tripping (handOn h true) ((latchTaken h s).post
    (.trip h.latch (((latchTaken h s).latch h.latch).trip.getD 0) h.cause true ((latchTaken h s).stateAfter h)))
  set t := checkProducts .bay v
  have pumps : (handCause h s).pumps = (bayTripPumps t).pumps := by
    rw [last, causeHandedOn, leaves, handedOn, handed, handOn_pumps fun m => ?_, stock]
    rw [stock]
    exact congrArg PumpUnit.claims (look_mapTable ..)
  have unit (m : PumpId) : (handCause h s).pump m = { (t.pump m).off with claims := [] } := by
    rw [State.pump, pumps]
    exact look_mapTable ..
  exact ⟨fun m => by rw [unit]; exact ⟨rfl, rfl, rfl⟩, by rw [pumps]; rfl⟩

/-- R152: the latches, once an input that now counts as clear has had those that hold it examined. -/
theorem examineHolding_cleared {x : LineInput} {s t : State} (latch : t.latch = s.latch)
    (counts : ∀ z, t.countsClear z = true ↔ z = x ∨ s.countsClear z = true) (y : LatchId) :
    (examineHolding x t).latch y =
      if (s.latch y).state = .tripped ∧ x ∈ (s.latch y).contributing ∧
          ∀ z ∈ (s.latch y).contributing, z = x ∨ s.countsClear z = true then
        { s.latch y with state := .clearable }
      else s.latch y := by
  have clear : t.allClear y = true ↔ ∀ z ∈ (s.latch y).contributing, z = x ∨ s.countsClear z = true := by
    simp only [State.allClear, latch, List.all_eq_true, counts]
  rw [examineHolding_latch, latch, Latch.examined]
  by_cases held : x ∈ (s.latch y).contributing
  · simp only [held, true_and, if_true, clear]
  · simp only [held, false_and, and_false, if_false]

/-- R146, R148, R152: a debounce timer that runs out, by the input and its bypass. -/
theorem settleInput_same {x : DebouncedInput} {s : State} (h : (s.debounced x).settled = settledAt (s.debounced x).level) :
    settleInput x s = s.updDebounced x fun i => { i with settled := settledAt (s.debounced x).level, due := none } := if_pos h

theorem settleInput_active {x : DebouncedInput} {s : State} (h : (s.debounced x).settled ≠ .active)
    (level : (s.debounced x).level = true) : settleInput x s =
      takesEffect x (s.updDebounced x fun i => { i with settled := .active, due := none }) := by
  simp only [settleInput, level, settledAt, if_true, if_neg h]

theorem settleInput_clear {x : DebouncedInput} {s : State} (h : (s.debounced x).settled ≠ .clear)
    (level : (s.debounced x).level = false) : settleInput x s =
      examineHolding (.debounced x) (s.updDebounced x fun i => { i with settled := .clear, due := none }) := by
  have never : Settled.clear ≠ .active := nofun
  simp only [settleInput, level, settledAt, Bool.false_eq_true, if_false, if_neg h, if_neg never]

theorem isBypassed_updDebounced (x y : DebouncedInput) (f : Input → Input) (s : State) :
    (s.updDebounced x f).isBypassed y = s.isBypassed y := by
  simp only [State.isBypassed, bypass_updDebounced]

/-- R152: an input that has settled CLEAR counts as clear, and the others as before. -/
theorem countsClear_settled {x : DebouncedInput} {f : Input → Input} {s : State} (clear : (f (s.debounced x)).settled = .clear)
    (z : LineInput) : (s.updDebounced x f).countsClear z = true ↔ z = .debounced x ∨ s.countsClear z = true := by
  cases z with
  | estop => simp [State.countsClear]
  | debounced y =>
    simp only [State.countsClear, debounced_updDebounced, isBypassed_updDebounced, LineInput.debounced.injEq]
    by_cases same : x = y
    · subst same
      simp [clear]
    · rw [if_neg same]
      exact (or_iff_right (Ne.symm same)).symm

/-- R146, R148, R59: ESTOP that becomes active. -/
theorem estopEvent_rises {s : State} (low : s.shutdown.estop.level = false) :
    estopEvent true s = handCause (handing .bay .estop (some .estop)) (s.setEstop true) := by
  simp only [estopEvent, low, Bool.false_eq_true, if_false, if_true]

theorem estopEvent_falls {s : State} (high : s.shutdown.estop.level = true) :
    estopEvent false s = examineHolding .estop (s.setEstop false) := by
  simp only [estopEvent, high, Bool.true_eq_false, Bool.false_eq_true, if_false]

theorem estopEvent_high {s : State} (low : s.shutdown.estop.level = false) :
    ((estopEvent true s).latch .bay).state = .tripped ∧ .estop ∈ ((estopEvent true s).latch .bay).contributing ∧
      (estopEvent true s).shutdown.estop = ⟨true, .active, none⟩ ∧
      ((s.latch .bay).state = .normal →
        (∀ m, ((estopEvent true s).pump m).state = .off ∧ ((estopEvent true s).pump m).run = false ∧
          ((estopEvent true s).pump m).claims = []) ∧ (estopEvent true s).pumps.queue = []) := by
  have active : (s.setEstop true).countsClear .estop = false := rfl
  obtain ⟨tripped, holds, -⟩ := handCause_input (h := handing .bay .estop (some .estop)) (s := s.setEstop true) rfl active
  rw [estopEvent_rises low]
  exact ⟨tripped, holds, (handCause_inputs (handing .bay .estop (some .estop)) (s.setEstop true)).estop, fun normal => handCause_bay normal⟩

/-- Settles O50. -/
theorem lineInputs : Obligations.LineInputs := by
  intro s ready
  refine ⟨fun x level change => ?_, fun x level same => ?_, fun x due running => ?_, fun level same => ?_, fun low => ?_,
    fun high => ?_⟩
  · exact congrArg Host.Outcome.next (takeLine_eq ready.1 (if_neg change) (by rw [State.updDebounced_stock]; exact ready.2))
  · exact congrArg Host.Outcome.next (takeLine_eq ready.1 (if_pos same) ready.2)
  · intro i r
    have event : debounceEvent x s = settleInput x (s.reach due) := by simp only [debounceEvent, running]
    have ran {t : State} (h : settleInput x (s.reach due) = t) : exec (.debounceExpiry x) s = .next (handReports t) :=
      congrArg Host.Outcome.next ((takeEvent_running ready.1).trans (by rw [event, h]))
    have kept : s.SameInputs (s.reach due) := .of_shutdown (State.reach_shutdown ..)
    have line : (s.reach due).debounced x = i := by rw [kept.debounced]
    have handed : r.stock.reports = [] := by
      rw [State.updDebounced_stock, State.reach_stock]
      exact ready.2
    have whole {b : Bool} (level : i.level = b) :
        r = (s.reach due).updDebounced x fun i => { i with settled := settledAt b, due := none } :=
      updDebounced_congr (s := s.reach due) (by rw [line]; subst level; rfl)
    have latches : r.latch = s.latch := (latch_updDebounced ..).trans (latch_of_shutdown (State.reach_shutdown ..))
    have settles : r.debounced x = { i with settled := if i.level then .active else .clear, due := none } := by
      rw [debounced_updDebounced_self, line]
    have bypass : r.isBypassed x = s.isBypassed x := (isBypassed_updDebounced ..).trans (kept.isBypassed x)
    refine ⟨fun same => ?_, fun calm level bypassed => ?_, fun calm level free => ?_, fun set level => ?_⟩
    · rw [ran ((settleInput_same (by rw [line]; exact same)).trans (whole (by rw [line])).symm), handReports_none handed]
    · have effect : takesEffect x r = r := if_pos (bypass.trans bypassed)
      rw [ran ((settleInput_active (by rw [line]; exact calm) (by rw [line]; exact level)).trans ((congrArg _ (whole level).symm).trans effect)),
        handReports_none handed]
    · have active : (r.debounced x).settled = .active := by rw [settles, level]; rfl
      obtain ⟨inputs, tripped, holds, causes⟩ := takesEffect_latch (bypass.trans free) active
      refine ⟨_, ran ((settleInput_active (by rw [line]; exact calm) (by rw [line]; exact level)).trans (congrArg _ (whole level).symm)), ?_⟩
      have scope : r.latchOf x = s.latchOf x := congrFun (latchOf_of_store ((State.updDebounced_store ..).trans (State.reach_store ..))) x
      have last := handReports_shutdown (takesEffect x r)
      have after := inputs.trans (.of_shutdown last)
      rw [latch_of_shutdown last, after.debounced]
      rw [scope] at tripped holds causes
      exact ⟨active, by rw [settles], tripped, holds, by rw [latches] at causes; exact causes⟩
    · have examined := examineHolding_moves (.debounced x) r
      set e := examineHolding (.debounced x) r with he
      have last : handReports e = e := handReports_none ((examined.same .reports).trans handed)
      refine ⟨e, (ran ((settleInput_clear (by rw [line]; exact set) (by rw [line]; exact level)).trans (congrArg _ (whole level).symm))).trans
        (congrArg Host.Outcome.next last), ?_⟩
      have inputs : r.SameInputs e := .of_moves examined
      have clear : (r.debounced x).settled = .clear := by rw [settles, level]; rfl
      refine ⟨by rw [inputs.debounced, clear], ?_, ?_, fun y => ?_⟩
      · exact (examined.same .points).trans ((State.updDebounced_points ..).trans (State.reach_points ..))
      · exact (examined.same .inlets).trans ((State.updDebounced_inlets ..).trans (State.reach_inlets ..))
      · exact examineHolding_cleared latches (fun z => by
          rw [countsClear_settled (by rw [line, level]; rfl), kept.countsClear]) y
  · exact congrArg Host.Outcome.next (takeLine_eq ready.1 (if_pos same) ready.2)
  · obtain ⟨tripped, holds, inputs, off⟩ := estopEvent_high low
    refine ⟨_, congrArg Host.Outcome.next (takeLine_running ready.1), ?_⟩
    rw [latch_of_shutdown (handReports_shutdown _), handReports_shutdown]
    refine ⟨inputs, tripped, holds, fun normal => ?_⟩
    obtain ⟨off, queue⟩ := off normal
    have pumps := handReports_pumps fun m => (off m).2.2
    simp only [State.pump, pumps]
    exact ⟨off, queue⟩
  · have event := estopEvent_falls high
    have examined := examineHolding_moves .estop (s.setEstop false)
    have inputs : (s.setEstop false).SameInputs _ := .of_moves examined
    refine ⟨_, congrArg Host.Outcome.next (takeLine_eq ready.1 event ((examined.same .reports).trans ready.2)), inputs.estop, ?_,
      examined.same .points, examined.same .inlets⟩
    rw [examineHolding_latch, Latch.examined]
    split
    · split <;> rfl
    · rfl

end Sys2Proof.Machine

/-! # Bypasses: by their codes and at their expiry -/

namespace Sys2Proof.Machine

open Sys2Proof

theorem handCause_reports (h : Handing) (s : State) : (handCause h s).stock.reports = [] := by
  have handed (f : State → State) (t : State) (nothing : ∀ u, (f u).stock.reports = []) : (whileTripping f t).stock.reports = [] :=
    nothing _
  have closing (number : Option Nat) (f : TripEntry → TripEntry) (t : State) :
      (examine h.latch (changeEntry number f t)).stock.reports = t.stock.reports :=
    ((changeEntry_moves number f t).andThen (examine_moves h.latch _)).same .reports
  rw [handCause_stopped, closing, causeHandedOn, handedOn]
  exact handed _ _ fun u => by rw [handOn_eq]; exact handReports_reports _

/-- R150, R151: a latch that has been handed a cause is set. -/
theorem handCause_isSet (h : Handing) (s : State) : ((handCause h s).latch h.latch).state ≠ .normal := by
  obtain ⟨-, state, -⟩ := causeTripsLatch h s
  have either (P : Prop) [Decidable P] : (if P then LatchState.clearable else .tripped) ≠ .normal := by split <;> decide
  rw [state]
  exact either _

/-- R151: a set latch keeps the causes it has. -/
theorem handCause_keeps {h : Handing} {s : State} (set : (s.latch h.latch).state ≠ .normal) {c : TripCause}
    (mem : c ∈ (s.latch h.latch).causes) : c ∈ ((handCause h s).latch h.latch).causes := by
  obtain ⟨-, -, -, -, further⟩ := causeTripsLatch h s
  rw [(further set).1]
  split
  · exact mem
  · exact List.mem_append_left _ mem

theorem handInput_keeps {x : DebouncedInput} {s : State} (set : (s.latch (s.latchOf x)).state ≠ .normal) {c : TripCause}
    (mem : c ∈ (s.latch (s.latchOf x)).causes) : c ∈ ((handInput x s).latch (s.latchOf x)).causes :=
  handCause_keeps (h := handing (s.latchOf x) (causeOf x) (some (.debounced x))) set mem

/-! ## A bypass written (R161, R162) -/

theorem bypassOf_eq_some {x : BypassId} {y : DebouncedInput} : bypassOf y = some x ↔ y = bypassInput x := by
  cases x <;> cases y <;> simp [bypassOf, bypassInput, eq_comm]

theorem isBypassed_bypassInput (x : BypassId) (s : State) : s.isBypassed (bypassInput x) = (s.bypass x).isSome := by
  simp only [State.isBypassed, bypassOf_eq_some.2 rfl]

/-- R152, R161: an input whose bypass is turned ON counts as clear, and the others as before. -/
theorem countsClear_bypassed (x : BypassId) (b : Bypass) (s : State) (z : LineInput) :
    (s.setBypass x (some b)).countsClear z = true ↔ z = .debounced (bypassInput x) ∨ s.countsClear z = true := by
  cases z with
  | estop =>
    have same : (s.setBypass x (some b)).shutdown.estop = s.shutdown.estop := by cases x <;> rfl
    simp only [State.countsClear, same, reduceCtorEq, false_or]
  | debounced y =>
    simp only [State.countsClear, debounced_setBypass, LineInput.debounced.injEq]
    by_cases same : y = bypassInput x
    · subst same
      simp [isBypassed_bypassInput]
    · rw [or_iff_right same]
      have bypassed : (s.setBypass x (some b)).isBypassed y = s.isBypassed y := by
        unfold State.isBypassed
        cases held : bypassOf y with
        | none => rfl
        | some z =>
          have other : x ≠ z := fun e => same (bypassOf_eq_some.1 (e ▸ held))
          simp only [bypass_setBypass, if_neg other]
      rw [bypassed]

/-- R163: an ACTIVE input whose bypass has ended hands its cause. -/
theorem handInput_ended {x : BypassId} {s : State} (free : s.bypass x = none) (active : (s.debounced (bypassInput x)).settled = .active) :
    s.SameInputs (handInput (bypassInput x) s) ∧
      ((handInput (bypassInput x) s).latch (s.latchOf (bypassInput x))).state = .tripped ∧
      .debounced (bypassInput x) ∈ ((handInput (bypassInput x) s).latch (s.latchOf (bypassInput x))).contributing := by
  have counts : s.countsClear (.debounced (bypassInput x)) = false := by
    simp only [State.countsClear, active, isBypassed_bypassInput, free]
    rfl
  obtain ⟨tripped, holds, -⟩ := handCause_input (h := handing (s.latchOf (bypassInput x)) (causeOf (bypassInput x))
    (some (.debounced (bypassInput x)))) rfl counts
  exact ⟨handCause_inputs .., tripped, holds⟩

theorem bypassOff_quiet {x : BypassId} {s : State}
    (h : (s.bypass x).isSome = false ∨ (s.debounced (bypassInput x)).settled ≠ .active) : bypassOff x s = s.setBypass x none := by
  unfold bypassOff
  dsimp only
  split
  · next on => exact if_neg (by rw [debounced_setBypass]; exact h.resolve_left (by rw [on]; decide))
  · rfl

theorem bypassOff_active {x : BypassId} {s : State} (on : (s.bypass x).isSome = true)
    (active : (s.debounced (bypassInput x)).settled = .active) : bypassOff x s = handInput (bypassInput x) (s.setBypass x none) := by
  unfold bypassOff
  dsimp only
  rw [if_pos on]
  exact if_pos (by rw [debounced_setBypass]; exact active)

theorem handCause_store (h : Handing) (s : State) : (handCause h s).store = s.store := by
  rw [handCause_stopped]
  have closing := ((changeEntry_moves (takenLatch h s).trip (fun e => { e with
    stopped := e.stopped + (s.unstopped - (handCause h s).unstopped + h.already) }) (causeHandedOn h s)).andThen
      (examine_moves h.latch _)).store
  exact closing.trans ((handedOn_moves ..).store.trans (latchTaken_moves h s).store)

/-- R162: a bad code hands BAD_BYPASS_CODE, and then what the end of the bypass hands. -/
theorem badBypassCode_hands (x : BypassId) (s : State) : ∃ h : Handing, h.latch = s.latchOf (bypassInput x) ∧
    h.cause = .badBypassCode ∧
    badBypassCode x s = if (s.bypass x).isSome ∧ (s.debounced (bypassInput x)).settled = .active then
        handInput (bypassInput x) (handCause h (s.setBypass x none))
      else handCause h (s.setBypass x none) := by
  have scope : (s.setBypass x none).latchOf = s.latchOf := latchOf_of_store (State.setBypass_store ..)
  refine ⟨{ handing ((s.setBypass x none).latchOf (bypassInput x)) .badBypassCode none with
      finalState := if (s.bypass x).isSome ∧ (s.debounced (bypassInput x)).settled = .active then some .tripped else none },
    congrFun scope _, rfl, ?_⟩
  unfold badBypassCode
  dsimp only
  simp only [Bool.and_eq_true, decide_eq_true_eq]

/-- R162: what a bad code leaves of the bypass and of the latch. -/
theorem badBypassCode_leaves (x : BypassId) (s : State) :
    (badBypassCode x s).stock.reports = [] ∧ (badBypassCode x s).bypass x = none ∧
      ((badBypassCode x s).latch (s.latchOf (bypassInput x))).state ≠ .normal ∧
      ((s.latch (s.latchOf (bypassInput x))).state = .normal →
        .badBypassCode ∈ ((badBypassCode x s).latch (s.latchOf (bypassInput x))).causes) ∧
      ((s.bypass x).isSome = true → (s.debounced (bypassInput x)).settled = .active →
        ((badBypassCode x s).latch (s.latchOf (bypassInput x))).state = .tripped ∧
          .debounced (bypassInput x) ∈ ((badBypassCode x s).latch (s.latchOf (bypassInput x))).contributing) := by
  obtain ⟨h, latch, cause, hands⟩ := badBypassCode_hands x s
  rw [hands, ← latch]
  have inputs := handCause_inputs h (s.setBypass x none)
  have free : (handCause h (s.setBypass x none)).bypass x = none := by rw [inputs.bypass, bypass_setBypass_self]
  have set := handCause_isSet h (s.setBypass x none)
  have held (normal : (s.latch h.latch).state = .normal) :
      .badBypassCode ∈ ((handCause h (s.setBypass x none)).latch h.latch).causes := by
    obtain ⟨-, -, -, first, -⟩ := causeTripsLatch h (s.setBypass x none)
    rw [(first (by rw [latch_setBypass]; exact normal)).1, cause]
    exact List.mem_singleton_self _
  have scope : (handCause h (s.setBypass x none)).latchOf (bypassInput x) = h.latch := by
    rw [latch, latchOf_of_store ((handCause_store ..).trans (State.setBypass_store ..))]
  split
  · next follows =>
    obtain ⟨ended, tripped, holds⟩ := handInput_ended free (by rw [inputs.debounced, debounced_setBypass]; exact follows.2)
    rw [scope] at tripped holds
    refine ⟨handCause_reports .., by rw [ended.bypass, free], by rw [tripped]; exact nofun, fun normal => ?_, fun _ _ => ⟨tripped, holds⟩⟩
    have kept := handInput_keeps (x := bypassInput x) (s := handCause h (s.setBypass x none)) (c := .badBypassCode)
    rw [scope] at kept
    exact kept set (held normal)
  · next alone => exact ⟨handCause_reports .., free, set, held, fun on active => absurd ⟨on, active⟩ alone⟩

theorem readBypass_iff (input : Coded BypassName) (x : BypassId) : readBypass input = some x ↔
    input = some (match x with
      | .drip p => .drip (numberOf p)
      | .sump b => .sump (numberOf b)) := by
  cases input with
  | none => simp [readBypass]
  | some name => cases name <;> cases x <;> simp [readBypass, numbered_eq_some]

/-- Settles O51. -/
theorem bypasses : Obligations.Bypasses := by
  refine ⟨readBypass_iff, fun v f s ready zero configure bad => ?_, fun v input x s ready zero configure read => ?_⟩
  · have refused : requestAnswer (.setBypass v f) s = refuse .range s := by
      change setBypassRequest v f s = _
      have far : 65535 < f.code → f.code ≠ 0x5AC3 ∧ f.code ≠ 0xA53C ∧ ¬f.code ≤ 65535 := by omega
      simp only [setBypassRequest, configure, Bool.not_true, Bool.false_eq_true, if_false]
      cases read : readBypass f.input with
      | none => rfl
      | some x =>
        obtain ⟨notOn, notOff, large⟩ := far (bad.resolve_left (by rw [read]; exact Option.some_ne_none x))
        simp only [notOn, notOff, large, if_false]
    exact congrArg Host.Outcome.next (request_refused (code := 0x42) ready rfl refused rfl)
  · intro i latch
    have asked (code minutes : Nat) : requestAnswer (.setBypass v ⟨input, code, minutes⟩) s =
        if code = 0x5AC3 then
          if 1 ≤ minutes ∧ minutes ≤ 480 then done (bypassOn x minutes v.link s) else refuse .range s
        else if code = 0xA53C then done (bypassOff x s)
        else if code ≤ 65535 then ⟨.badCode, [], badBypassCode x s⟩
        else refuse .range s := by
      change setBypassRequest v ⟨input, code, minutes⟩ s = _
      simp only [setBypassRequest, configure, read, Bool.not_true, Bool.false_eq_true, if_false]
    have taken {code minutes : Nat} {t : State} (h : requestAnswer (.setBypass v ⟨input, code, minutes⟩) s = done t)
        (handed : t.stock.reports = []) : exec (.setBypass v ⟨input, code, minutes⟩) s = .next (answered v 0x42 .ok [] t) :=
      congrArg Host.Outcome.next (request_done (code := 0x42) ready rfl zero h handed)
    set off := s.setBypass x none with hoff
    have offHanded : off.stock.reports = [] := by rw [hoff, State.setBypass_stock]; exact ready.2
    have free : off.bypass x = none := bypass_setBypass_self ..
    have lines : off.debounced = s.debounced := debounced_setBypass ..
    have scope : off.latchOf = s.latchOf := latchOf_of_store (State.setBypass_store ..)
    have ended (active : i.settled = .active) : off.SameInputs (handInput (bypassInput x) off) ∧
        ((handInput (bypassInput x) off).latch latch).state = .tripped ∧
        .debounced (bypassInput x) ∈ ((handInput (bypassInput x) off).latch latch).contributing := by
      have := handInput_ended free (by rw [lines]; exact active)
      rwa [scope] at this
    refine ⟨fun minutes least most => ?_, fun minutes beyond => ?_, fun minutes rests => ?_, fun minutes on active => ?_,
      fun code minutes notOn notOff word => ?_, fun b on => ⟨fun calm => ?_, fun active => ?_⟩⟩
    · set t := s.setBypass x (some ⟨s.seconds + minutes * 60, v.link⟩) with ht
      have examined := examineHolding_moves (.debounced (bypassInput x)) t
      have answer := (asked 0x5AC3 minutes).trans ((if_pos rfl).trans (if_pos ⟨least, most⟩))
      refine ⟨_, taken answer ((examined.same .reports).trans ?_), ?_, ?_, ?_, fun y => ?_⟩
      · rw [ht, State.setBypass_stock]; exact ready.2
      · have inputs : t.SameInputs (bypassOn x minutes v.link s) := .of_moves examined
        rw [inputs.bypass, ht, bypass_setBypass_self]
      · exact (examined.same .points).trans (State.setBypass_points ..)
      · exact (examined.same .inlets).trans (State.setBypass_inlets ..)
      · rw [bypassOn, examineHolding_cleared (latch_setBypass ..) (countsClear_bypassed x _ s) y]
        split <;> exact ⟨rfl, rfl⟩
    · have answer := (asked 0x5AC3 minutes).trans ((if_pos rfl).trans (if_neg (by omega)))
      exact congrArg Host.Outcome.next (request_refused (code := 0x42) ready rfl answer rfl)
    · have answer := (asked 0xA53C minutes).trans ((if_neg (by decide)).trans (if_pos rfl))
      exact taken (answer.trans (congrArg done (bypassOff_quiet rests))) offHanded
    · have answer := (asked 0xA53C minutes).trans ((if_neg (by decide)).trans (if_pos rfl))
      obtain ⟨inputs, tripped, holds⟩ := ended active
      exact ⟨_, taken (answer.trans (congrArg done (bypassOff_active on active))) (handCause_reports ..), by rw [inputs.bypass, free], tripped, holds⟩
    · have answer := (asked code minutes).trans ((if_neg notOn).trans ((if_neg notOff).trans (if_pos word)))
      obtain ⟨handed, gone, set, bad, follows⟩ := badBypassCode_leaves x s
      refine ⟨_, congrArg Host.Outcome.next (request_answered (code := 0x42) ready rfl answer handed (.inr (hasPart_of_zero zero))),
        gone, ?_, bad, follows⟩
      simpa only [State.isSet, decide_eq_true_eq] using set
    all_goals
      have kept : s.SameInputs (s.reach (b.expiry * 1000)) := .of_shutdown (State.reach_shutdown ..)
      have event : bypassExpiryEvent x s = bypassOff x (s.reach (b.expiry * 1000)) := by simp only [bypassExpiryEvent, on]
      have ran {t : State} (h : bypassOff x (s.reach (b.expiry * 1000)) = t) (handed : t.stock.reports = []) :
          exec (.bypassExpiry x) s = .next t :=
        congrArg Host.Outcome.next ((takeEvent_running ready.1).trans (by rw [event, h, handReports_none handed]))
      have bypassed : ((s.reach (b.expiry * 1000)).bypass x).isSome = true := by rw [kept.bypass, on]; rfl
    · refine ran (bypassOff_quiet (.inr ?_)) ?_
      · rw [kept.debounced]; exact calm
      · rw [State.setBypass_stock, State.reach_stock]; exact ready.2
    · have active' : ((s.reach (b.expiry * 1000)).debounced (bypassInput x)).settled = .active := by rw [kept.debounced]; exact active
      have gone : ((s.reach (b.expiry * 1000)).setBypass x none).bypass x = none := bypass_setBypass_self ..
      obtain ⟨inputs, tripped, holds⟩ := handInput_ended gone (by rw [debounced_setBypass]; exact active')
      rw [latchOf_of_store ((State.setBypass_store ..).trans (State.reach_store ..))] at tripped holds
      exact ⟨_, ran (bypassOff_active bypassed active') (handCause_reports ..), by rw [inputs.bypass, gone], tripped, holds⟩

end Sys2Proof.Machine

/-! # Orders that close at once -/

namespace Sys2Proof.Machine

open Sys2Proof

/-! ## The close of an order seen from the state before its event -/

/-- What the part of an event before the close of the order of a point leaves alone. -/
structure State.BeforeClose (p : PointId) (s u : State) : Prop where
  journal : u.journal = s.journal
  clock : u.clock = s.clock
  points : ∀ q, q ≠ p → u.point q = s.point q
  stock : u.stock = s.stock
  inlets : u.inlets = s.inlets
  store : u.store = s.store

theorem State.BeforeClose.orderClosed {p : PointId} {o : Order} {c : Cause} {s u v : State} (h : s.BeforeClose p u)
    (closed : u.OrderClosed p o c v) : s.OrderClosed p o c v := by
  have seconds : u.seconds = s.seconds := by simp only [State.seconds, h.clock]
  have sets : u.pointSet p = s.pointSet p := by simp only [State.pointSet, h.store]
  unfold State.OrderClosed at closed ⊢
  rw [h.journal, h.stock, h.inlets, h.store, seconds, sets] at closed
  obtain ⟨record, next, uncollected, count, state, order, valve, meter, claims, others, rest⟩ := closed
  exact ⟨record, next, uncollected, count, state, order, valve, meter, claims,
    fun q other => (others q other).trans (h.points q other), rest⟩

/-- The rest of an event leaves a closed order's record, its point, its pump and the other units alone. -/
theorem State.OrderClosed.of_same {p : PointId} {o : Order} {c : Cause} {s t v : State} (h : s.OrderClosed p o c t)
    (journal : v.journal = t.journal) (points : v.points = t.points) (pumps : v.pumps = t.pumps) (stock : v.stock = t.stock)
    (inlets : v.inlets = t.inlets) (store : v.store = t.store) : s.OrderClosed p o c v := by
  have pump (m : PumpId) : v.pump m = t.pump m := by simp only [State.pump, pumps]
  unfold State.OrderClosed
  rw [journal, stock, inlets, store, point_of_points points, pump]
  exact h

/-! ## A point's latch tripped (R155) -/

/-- R155: the latch of a point hands a cause on to its point alone. -/
theorem handOn_point {p : PointId} {c : TripCause} {input : Option LineInput} (leaves : Bool) (s : State) :
    handOn (handing (.point p) c input) leaves s = handReports (stopPoint none .trip p s) := by
  have stock : handOnStock (handing (.point p) c input) leaves s = s := by
    have other : (LatchId.point p = .bay) = False := eq_false nofun
    have none : s.productsOf (.point p) = [] := by simp [State.productsOf, State.tanksOf]
    simp only [handOnStock, handing, other, decide_false, Bool.and_false, Bool.false_eq_true, if_false, checkProducts, none]
    rfl
  have inlets : s.inletsTripped (handing (.point p) c input) = [] := by
    simp only [State.inletsTripped, State.inletsOf, State.tanksOf, handing]
    simp
  rw [handOn_eq, stock, inlets]
  simp [pointsOf, handing, forEach]

section
variable {p : PointId} {s : State} {o : Order}

theorem stopPoint_closed_unit (waits : (s.point p).state = .identifying ∨ (s.point p).state = .awaitPump)
    (order : (s.point p).order = some o) (h : (s.point p).meter.CountedNothing) (c : Cause) :
    (stopPoint none c p s).point p = (s.point p).closed := by
  obtain ⟨r, -, -, closed⟩ := closeAtOnce_nothing order h c
  rw [stopPoint_waiting none waits, closed, finishClose_point (by rw [point_updPoint_self]), if_pos rfl, point_updPoint_self]
  rfl

/-- R32, R33: the close of a waiting order, in an event that has changed nothing that the close depends on. -/
theorem closes_handed {u : State} (before : s.BeforeClose p u) (idle : s.stock.reports = []) {c : Cause}
    (closed : u.OrderClosed p o c (stopPoint none c p u)) :
    handReports (stopPoint none c p u) = stopPoint none c p u ∧ s.OrderClosed p o c (stopPoint none c p u) := by
  have whole := before.orderClosed closed
  obtain ⟨-, -, -, -, -, -, -, -, -, -, stock, -⟩ := id whole
  exact ⟨handReports_none (by rw [stock]; exact idle), whole⟩

/-- R70: the mark of an event in which a latch takes a cause. -/
def State.marked (b : Bool) (s : State) : State := { s with stock := { s.stock with tripping := b } }

theorem State.OrderClosed.unmarked {c : Cause} {y : State} (h : (s.marked true).OrderClosed p o c y) (calm : s.stock.tripping = false) :
    s.OrderClosed p o c (y.marked false) := by
  obtain ⟨record, next, uncollected, count, state, order, valve, meter, claims, others, stock, rest⟩ := h
  refine ⟨record, next, uncollected, count, state, order, valve, meter, claims, others, ?_, rest⟩
  change { y.stock with tripping := false } = s.stock
  rw [stock, ← calm]
  rfl

theorem whileTripping_marked (f : State → State) (s : State) : whileTripping f s = (f (s.marked true)).marked false := rfl

/-- R148, R155: a line input that trips the latch of a point closes the order that waits there. -/
theorem handCause_closes {u : State} {cause : TripCause} {input : Option LineInput} (before : s.BeforeClose p u)
    (same : u.point p = s.point p) (calm : s.stock.tripping = false) (idle : s.stock.reports = [])
    (waits : (s.point p).state = .identifying ∨ (s.point p).state = .awaitPump) (order : (s.point p).order = some o)
    (h : (s.point p).meter.CountedNothing) :
    s.OrderClosed p o .trip (handCause (handing (.point p) cause input) u) := by
  set w := handing (.point p) cause input with hw
  obtain ⟨n, sent⟩ : ∃ n, causeHandedOn w u = whileTripping (handOn w (decide ((u.latch w.latch).state = .normal))) ((latchTaken w u).post n) :=
    ⟨_, rfl⟩
  have told : Moves [.latches, .log, .shutdownRest, .links] _ u ((latchTaken w u).post n) :=
    ((latchTaken_moves w u).andThen ((post_moves n _).weaken _)).mono (by decide)
  set x := ((latchTaken w u).post n).marked true with hx
  have unit : x.point = u.point := point_of_points (told.same .points)
  have marked : (s.marked true).BeforeClose p x :=
    { journal := (told.same .journal).trans before.journal
      clock := (told.same .clock).trans before.clock
      points := fun q other => (congrFun unit q).trans (before.points q other)
      stock := by rw [hx, State.marked, told.stock, before.stock]; rfl
      inlets := (told.same .inlets).trans before.inlets
      store := told.store.trans before.store }
  rw [← same, ← unit] at waits order h
  obtain ⟨ended, closed⟩ := closes_handed marked idle (stopPoint_orderClosed waits order h .trip)
  have whole : causeHandedOn w u = (stopPoint none .trip p x).marked false := by
    rw [sent, whileTripping_marked, hw, handOn_point, ← hx, ended]
  have last := (changeEntry_moves (takenLatch w u).trip (fun e => { e with
    stopped := e.stopped + (u.unstopped - (handCause w u).unstopped + w.already) }) (causeHandedOn w u)).andThen
      (examine_moves w.latch _)
  rw [← handCause_stopped, whole] at last
  exact (closed.unmarked calm).of_same (last.same .journal) (last.same .points) (last.same .pumps) last.stock (last.same .inlets) last.store

/-- R148: the debounce timer of a line at a point, when its input becomes ACTIVE. -/
theorem debounceEvent_hands {x : DebouncedInput} {due : Nat} (scope : x = .drip p ∨ x = .overpress p)
    (running : (s.debounced x).due = some due) (calm : (s.debounced x).settled ≠ .active) (level : (s.debounced x).level = true)
    (free : s.isBypassed x = false) : debounceEvent x s = handCause (handing (.point p) (causeOf x) (some (.debounced x)))
      ((s.reach due).updDebounced x fun i => { i with settled := .active, due := none }) := by
  have kept : s.SameInputs (s.reach due) := .of_shutdown (State.reach_shutdown ..)
  have event : debounceEvent x s = settleInput x (s.reach due) := by simp only [debounceEvent, running]
  have bypassed : ((s.reach due).updDebounced x fun i => { i with settled := .active, due := none }).isBypassed x = false := by
    rw [isBypassed_updDebounced, kept.isBypassed, free]
  rw [event, settleInput_active (by rw [kept.debounced]; exact calm) (by rw [kept.debounced]; exact level)]
  rcases scope with rfl | rfl <;> exact if_neg (by rw [bypassed]; exact Bool.false_ne_true)

end

theorem marked_winds (b : Bool) (s : State) : s.Winds (s.marked b) := .of_noticed (.of_links rfl) rfl rfl rfl

theorem examine_noticed (x : LatchId) (s : State) : s.Noticed (examine x s) := by
  unfold examine
  dsimp only
  split
  · exact (post_noticed _ _).once (State.setLatch_links ..)
  · exact .of_links rfl

theorem examine_winds (x : LatchId) (s : State) : s.Winds (examine x s) :=
  have examined := examine_moves x s
  .of_noticed (examine_noticed x s) (examined.same .points) (examined.same .inlets) (examined.same .journal)

/-- R155: the stop of one point among those that the BAY latch stops. -/
theorem handOn_bay_point (p : PointId) (c : TripCause) (input : Option LineInput) (leaves : Bool) (s : State) :
    ∃ v : State, v.point p = s.point p ∧
      (stopPoint none .trip p v).Winds (handOn (handing .bay c input) leaves s) := by
  set w := handing .bay c input with hw
  have distinct : ((pointsOf w.latch).filter fun q => w.exemptPoint ≠ some q).Nodup := List.Nodup.filter _ (show allPoints.Nodup by decide)
  have mem : p ∈ (pointsOf w.latch).filter fun q => w.exemptPoint ≠ some q :=
    List.mem_filter.2 ⟨mem_allPoints p, decide_eq_true (Option.some_ne_none p).symm⟩
  obtain ⟨as, bs, before, -, round⟩ := forEach_round distinct mem (stopPoint none .trip)
  set x := forEach ((handOnStock w leaves s).inletsTripped w) (stopInlet .trip) (handOnStock w leaves s) with hx
  have points : x.points = s.points :=
    ((Moves.forEach _ _ (fun i _ s => stopInlet_moves .trip i s) (handOnStock w leaves s)).same .points).trans
      ((handOnStock_moves w leaves s).same .points)
  refine ⟨forEach as (stopPoint none .trip) x, ?_, ?_⟩
  · exact forEach_induction (P := fun u => u.point p = s.point p)
      (fun q hq u hu => (stopPoint_point_ne _ _ u (ne_of_mem_of_not_mem hq before)).trans hu) (congrFun (point_of_points points) p)
  · rw [handOn_eq, ← hx, round]
    exact (State.Winds.forEach (stopPoint_winds _ _) _ _).trans (handReports_winds _)

/-- R148, R155: ESTOP closes the order that waits at a point. -/
theorem estopEvent_closes {p : PointId} {o : Order} {s : State} (low : s.shutdown.estop.level = false)
    (waits : (s.point p).state = .identifying ∨ (s.point p).state = .awaitPump) (order : (s.point p).order = some o)
    (h : (s.point p).meter.CountedNothing) :
    ∃ v : State, v.point p = s.point p ∧ v.OrderClosed p o .trip (stopPoint none .trip p v) ∧
      (stopPoint none .trip p v).Winds (estopEvent true s) := by
  set w := handing .bay .estop (some .estop) with hw
  set u := s.setEstop true with hu
  obtain ⟨n, sent⟩ : ∃ n, causeHandedOn w u =
      whileTripping (handOn w (decide ((u.latch w.latch).state = .normal))) ((latchTaken w u).post n) := ⟨_, rfl⟩
  have told : Moves [.latches, .log, .shutdownRest, .links] _ u ((latchTaken w u).post n) :=
    ((latchTaken_moves w u).andThen ((post_moves n _).weaken _)).mono (by decide)
  set x := ((latchTaken w u).post n).marked true with hx
  have unit : x.point = s.point := point_of_points (told.same .points)
  obtain ⟨v, same, winds⟩ := handOn_bay_point p .estop (some .estop) (decide ((u.latch w.latch).state = .normal)) x
  rw [unit] at same
  rw [← same] at waits order h
  refine ⟨v, same, stopPoint_orderClosed waits order h .trip, winds.trans ?_⟩
  have last := (changeEntry_moves (takenLatch w u).trip (fun e => { e with
    stopped := e.stopped + (u.unstopped - (handCause w u).unstopped + w.already) }) (causeHandedOn w u))
  have handed : (handOn w (decide ((u.latch w.latch).state = .normal)) x).Winds (causeHandedOn w u) := by
    rw [sent, whileTripping_marked, ← hx]
    exact marked_winds ..
  rw [estopEvent_rises low, handCause_stopped]
  exact (handed.trans (.of_moves last)).trans (examine_winds _ _)

/-- Settles O35. -/
theorem ordersCloseAtOnce : Obligations.OrdersCloseAtOnce := by
  intro p o s ready calm order nothing
  have idle : s.stock.reports = [] := ready.2
  have same : s.BeforeClose p s := ⟨rfl, rfl, fun _ _ => rfl, rfl, rfl, rfl⟩
  refine ⟨fun waits => ⟨?_, fun v zero dispense => ?_, fun fitted coupled => ?_, fun x due scope running calmed level free => ?_,
    fun low => ?_⟩, fun waits unnamed kind due running => ?_⟩
  · obtain ⟨ended, closed⟩ := closes_handed same idle (stopPoint_orderClosed waits order nothing .stopped)
    exact ⟨_, congrArg Host.Outcome.next ((takeEvent_running (f := stopBtnEvent p) ready.1).trans ended), closed⟩
  · obtain ⟨ended, closed⟩ := closes_handed same idle (stopPoint_orderClosed waits order nothing .stopped)
    have status : (if (s.point p).state = .stopping then Status.alreadyStopping else .ok) = .ok :=
      if_neg (by rcases waits with h | h <;> rw [h] <;> decide)
    have answer : requestAnswer (.stopOrder v ⟨numberOf p, o.number⟩) s = done (stopPoint none .stopped p s) :=
      (stopOrderRequest_named dispense order).trans (by rw [status]; rfl)
    exact ⟨_, congrArg Host.Outcome.next ((request_taken (code := 0x11) ready rfl zero answer).trans
      (congrArg (answered v 0x11 .ok []) ended)), closed⟩
  · have broken : (s.uncoupledAt p).point p = { s.point p with receiver := .uncoupled, identity := none, lineSince := s.clock } :=
      look_put_self ..
    have before : s.BeforeClose p (s.uncoupledAt p) :=
      ⟨rfl, rfl, fun q other => look_put_ne _ _ (Ne.symm other), rfl, rfl, rfl⟩
    have waits' : ((s.uncoupledAt p).point p).state = .identifying ∨ ((s.uncoupledAt p).point p).state = .awaitPump := by
      rw [broken]; exact waits
    have order' : ((s.uncoupledAt p).point p).order = some o := by rw [broken]; exact order
    have nothing' : ((s.uncoupledAt p).point p).meter.CountedNothing := by rw [broken]; exact nothing
    obtain ⟨ended, closed⟩ := closes_handed before idle (stopPoint_orderClosed waits' order' nothing' .uncoupled)
    refine ⟨_, congrArg Host.Outcome.next ((takeEvent_running (f := nozzleBreakEvent p) ready.1).trans
      ((congrArg handReports (nozzleBreakEvent_coupled fitted coupled)).trans ended)), closed, ?_⟩
    rw [stopPoint_closed_unit waits' order' nothing', broken]
    exact ⟨rfl, rfl, rfl⟩
  · set r := (s.reach due).updDebounced x fun i => { i with settled := .active, due := none } with hr
    have kept : s.SameInputs (s.reach due) := .of_shutdown (State.reach_shutdown ..)
    have moved := updDebounced_moves x (fun i => { i with settled := .active, due := none }) (s.reach due)
    have before : (s.reach due).BeforeClose p r := ⟨moved.same .journal, moved.same .clock,
      fun q _ => congrFun (point_of_points (moved.same .points)) q, moved.stock, moved.same .inlets, moved.store⟩
    have unit : (s.reach due).point p = s.point p := congrFun (point_of_points (State.reach_points ..)) p
    have closed := handCause_closes (cause := causeOf x) (input := some (.debounced x)) before
      (congrFun (point_of_points (moved.same .points)) p) (by rw [State.reach_stock]; exact calm) (by rw [State.reach_stock]; exact idle)
      (by rw [unit]; exact waits) (by rw [unit]; exact order) (by rw [unit]; exact nothing)
    have counts : r.countsClear (.debounced x) = false := by
      have bypassed : r.isBypassed x = false := by rw [hr, isBypassed_updDebounced, kept.isBypassed, free]
      simp only [State.countsClear, bypassed, Bool.or_false]
      rw [hr, debounced_updDebounced_self]
      rfl
    obtain ⟨tripped, -, -⟩ := handCause_input (h := handing (.point p) (causeOf x) (some (.debounced x))) rfl counts
    exact ⟨_, congrArg Host.Outcome.next ((takeEvent_running ready.1).trans ((congrArg handReports
      (debounceEvent_hands scope running calmed level free)).trans (handReports_none (handCause_reports ..)))), closed, tripped⟩
  · obtain ⟨v, same, closed, winds⟩ := estopEvent_closes low waits order nothing
    have whole := winds.trans (handReports_winds (estopEvent true s))
    obtain ⟨⟨r, last, number, -, point, -, -, -, -, -, cause, secondaries, gross, net, -, entries, -⟩, -, -, -, idleThen, -⟩ := closed
    have unit : (stopPoint none .trip p v).point p = (s.point p).closed := by
      rw [stopPoint_closed_unit (by rw [same]; exact waits) (by rw [same]; exact order) (by rw [same]; exact nothing), same]
    have final : (handReports (estopEvent true s)).point p = (s.point p).closed :=
      ((whole.points p).free (.inl idleThen)).trans unit
    refine ⟨_, congrArg Host.Outcome.next (takeLine_running ready.1), by rw [final]; rfl, by rw [final]; rfl, by rw [final]; rfl,
      by rw [final]; rfl, r, whole.journal.mem last, number, point, cause, secondaries, gross, net, entries⟩
  · have event : identTimerEvent p s = closeAtOnce none p .noIdent ((s.reach due).updPoint p fun u => { u with identDue := none }) := by
      simp only [identTimerEvent, running, order, unnamed, kind, Option.isSome_none, Bool.false_eq_true, if_false]
    set u := (s.reach due).updPoint p fun u => { u with identDue := none } with hu
    have unit : u.point p = { s.point p with identDue := none } := by
      rw [hu, point_updPoint_self, State.point, State.reach_points]
      rfl
    have before : (s.reach due).BeforeClose p u :=
      ⟨rfl, rfl, fun q other => (point_updPoint ..).trans (if_neg (Ne.symm other)), rfl, rfl, rfl⟩
    have stop : stopPoint none .noIdent p u = closeAtOnce none p .noIdent u :=
      stopPoint_waiting none (.inl (by rw [unit]; exact waits)) .noIdent
    obtain ⟨ended, closed⟩ := closes_handed before (by rw [State.reach_stock]; exact idle)
      (stopPoint_orderClosed (.inl (by rw [unit]; exact waits)) (by rw [unit]; exact order) (by rw [unit]; exact nothing) .noIdent)
    rw [stop] at ended closed
    exact ⟨_, congrArg Host.Outcome.next ((takeEvent_running ready.1).trans ((congrArg handReports event).trans ended)), closed⟩

end Sys2Proof.Machine

/-! # The settle of a delivery -/

namespace Sys2Proof.Machine

open Sys2Proof

section
variable {i : InletId} {s : State} {d : Delivery} {due : Nat}

/-- R98: a settle timer that runs out, by what it does with the delivery at its instant. -/
theorem settleTimerEvent_fault (running : (s.inlet i).settleDue = some due) (delivery : (s.inlet i).delivery = some d)
    (gauge : (s.tank d.tank).gauge = .fault) :
    settleTimerEvent i s = closeDelivery i (notReconciled .gaugeFault) (s.reach due) := by
  have same : ((s.reach due).tank d.tank).gauge = .fault := by rw [State.tank, State.reach_stock]; exact gauge
  simp only [settleTimerEvent, running, delivery, same]

theorem settleTimerEvent_reads (running : (s.inlet i).settleDue = some due) (delivery : (s.inlet i).delivery = some d)
    (reads : (s.tank d.tank).gauge = .good ∨ (s.tank d.tank).gauge = .held) : settleTimerEvent i s =
      if (s.tank d.tank).gauge = .good ∧ (s.tank d.tank).stable = true then reconcile i d.tank false (s.reach due)
      else if d.extensions < 8 then extendSettle i (s.reach due)
      else reconcile i d.tank true (s.reach due) := by
  have same : (s.reach due).tank d.tank = s.tank d.tank := by rw [State.tank, State.reach_stock]; rfl
  rcases reads with h | h <;> simp only [settleTimerEvent, running, delivery, same, h] <;> rfl

/-- R101: the record and the state that the close of a settled delivery leaves. -/
theorem closeDelivery_settles (delivery : (s.inlet i).delivery = some d) (free : d.holdsFlag = false) (x : SettleOutcome) :
    (closeDelivery i x s).journal.held.getLast? =
        some (.delivery (deliveryRecord i d (d.termination.getD .stopped) x s.seconds s.journal.nextPosition)) ∧
      (closeDelivery i x s).inlet i = (s.inlet i).closed ∧
      (closeDelivery i x s).journal.openCount = s.journal.openCount - 1 ∧ (closeDelivery i x s).stock = s.stock ∧
      (closeDelivery i x s).points = s.points := by
  refine ⟨?_, (closeDelivery_inlet delivery i).trans (if_pos rfl), ?_, closeDelivery_stock delivery free x,
    (closeDelivery_moves ..).same .points⟩
  · rw [closeDelivery_journal delivery]; exact List.getLast?_concat ..
  · rw [closeDelivery_journal delivery]; rfl

end

/-- Settles O57. -/
theorem settleTimer : Obligations.SettleTimer := by
  refine ⟨fun i s ready rests => ?_, fun i d due s ready running delivery free => ?_⟩
  · have still : settleTimerEvent i s = s := by simp only [settleTimerEvent, rests]
    exact congrArg Host.Outcome.next ((takeEvent_eq ready.1 (by rw [still]; exact ready.2)).trans still)
  · intro now tank settled reads
    have idle : now.stock.reports = [] := by rw [State.reach_stock]; exact ready.2
    have inlet : now.inlet i = s.inlet i := congrFun (inlet_of_inlets (State.reach_inlets ..)) i
    have opened : (now.inlet i).delivery = some d := by rw [inlet]; exact delivery
    have ran {t : State} (event : settleTimerEvent i s = t) (handed : t.stock.reports = []) : exec (.settleTimerExpiry i) s = .next t :=
      congrArg Host.Outcome.next ((takeEvent_eq ready.1 (by rw [event]; exact handed)).trans event)
    have closes {x : SettleOutcome} (event : settleTimerEvent i s = closeDelivery i x now) :
        ∃ t, exec (.settleTimerExpiry i) s = .next t ∧ t.journal.held.getLast? =
            some (.delivery (deliveryRecord i d (d.termination.getD .stopped) x now.seconds now.journal.nextPosition)) ∧
          (t.inlet i).state = .idle ∧ (t.inlet i).delivery = none ∧ (t.inlet i).settleDue = none ∧
          t.journal.openCount = s.journal.openCount - 1 ∧ t.stock = s.stock ∧ t.points = s.points := by
      obtain ⟨last, unit, count, stock, points⟩ := closeDelivery_settles opened free x
      refine ⟨_, ran event (by rw [stock]; exact idle), last, by rw [unit]; rfl, by rw [unit]; rfl, by rw [unit]; rfl,
        count.trans (by rw [State.reach_journal]), stock.trans (State.reach_stock ..), points.trans (State.reach_points ..)⟩
    refine ⟨fun reading unstable more => ?_, fun ends => ?_⟩
    · have event := settleTimerEvent_reads running delivery reading
      rw [if_neg unstable, if_pos more] at event
      have extended : extendSettle i now = { now with inlets := put s.inlets i { s.inlet i with
          settleDue := some (now.clock + (s.inletSet i).settleStep * 60000)
          delivery := some { d with extensions := d.extensions + 1 } } } := by
        have due : now.after ((now.inletSet i).settleStep * 60) = now.clock + (s.inletSet i).settleStep * 60000 := by
          rw [State.after, State.inletSet, State.reach_store, ← State.inletSet]
          omega
        have unit : look now.inlets i = s.inlet i := inlet
        simp only [extendSettle, State.updDelivery, State.updInlet, adjust_adjust]
        simp only [adjust, unit, delivery, Option.map_some, due]
        rw [State.reach_inlets]
      rw [extended] at event
      exact ran event idle
    · by_cases fault : tank.gauge = .fault
      · obtain ⟨t, run, last, rest⟩ := closes (settleTimerEvent_fault running delivery fault)
        have blind : ¬reads := by rintro (h | h) <;> rw [h] at fault <;> cases fault
        refine ⟨t, _, run, last, rfl, rfl, rfl, rfl, rfl, (if_pos fault).symm, fun h => absurd (.inl h.1) blind,
          fun h => absurd h blind, fun h => absurd h blind, fun _ => ⟨rfl, rfl, rfl⟩, rest⟩
      · have reading : reads := ends.elim (fun h => .inl h.1) fun h => h.elim (fun h => h.1) fun h => absurd h fault
        obtain ⟨unsettled, event, judged⟩ : ∃ unsettled, settleTimerEvent i s = closeDelivery i ⟨.done, tank.gauged, unsettled⟩ now ∧
            (settled ↔ unsettled = false) := by
          have gauged : (now.tank d.tank).gauged = tank.gauged := by rw [State.tank, State.reach_stock]; rfl
          have event := settleTimerEvent_reads running delivery reading
          by_cases h : settled
          · exact ⟨false, by rw [event, if_pos h, reconcile, gauged], iff_of_true h rfl⟩
          · have full : ¬d.extensions < 8 := by
              rcases ends with done | ⟨_, most⟩ | lost
              · exact absurd done h
              · omega
              · exact absurd lost fault
            exact ⟨true, by rw [event, if_neg h, if_neg full, reconcile, gauged], iff_of_false h nofun⟩
        obtain ⟨t, run, last, rest⟩ := closes event
        refine ⟨t, _, run, last, rfl, rfl, rfl, rfl, rfl, (if_neg fault).symm, fun h => judged.1 h,
          fun _ h => Bool.eq_true_of_not_eq_false fun e => h (judged.2 e), fun _ => ⟨rfl, rfl, fun a b before after => ?_⟩,
          fun h => absurd h fault, rest⟩
        simp only [deliveryRecord, deliveryVariance, before, after, if_true]

end Sys2Proof.Machine

/-! # The events of the pump manager -/

namespace Sys2Proof.Machine

open Sys2Proof

/-! ## The head of the start queue (R53) -/

section
variable {s : State} {m n : PumpId} {rest : List PumpId}

theorem anyStarting_iff : s.anyStarting = true ↔ ∃ k, (s.pump k).state = .starting := by
  have every (k : PumpId) : k ∈ allPumps := by revert k; decide
  simp [State.anyStarting, every]

theorem startHead_empty (empty : s.pumps.queue = []) : startHead s = s := by simp only [startHead, empty]

theorem startHead_withheld (withheld : (∃ k, (s.pump k).state = .starting) ∨ s.pumps.supplyReady = false ∨ s.isSet .bay = true) :
    startHead s = s := by
  unfold startHead
  split
  · rfl
  · refine if_neg fun ⟨idle, supply, free⟩ => ?_
    rcases withheld with starting | low | set
    · rw [anyStarting_iff.2 starting] at idle; cases idle
    · rw [low] at supply; cases supply
    · rw [set] at free; cases free

/-- R53: the head of the queue starts. -/
theorem startHead_starts (queue : s.pumps.queue = n :: rest) (idle : ∀ k, (s.pump k).state ≠ .starting)
    (supply : s.pumps.supplyReady = true) (free : s.isSet .bay = false) : startHead s = { s with pumps :=
      { s.pumps with
        units := put s.pumps.units n { s.pump n with
          state := .starting, startDue := some (s.clock + (s.pumpSet n).startTime * 1000), holdDue := none, run := true }
        queue := rest } } := by
  have calm : s.anyStarting = false := Bool.eq_false_iff.2 fun h => (anyStarting_iff.1 h).elim fun k hk => idle k hk
  simp only [startHead, queue]
  rw [if_pos ⟨calm, supply, free⟩]
  rfl

/-- R53: a pump that does not stand in the queue is not started. -/
theorem startHead_out (out : m ∉ s.pumps.queue) :
    (startHead s).pump m = s.pump m ∧ m ∉ (startHead s).pumps.queue := by
  unfold startHead
  split
  · next empty => exact ⟨rfl, out⟩
  · next n rest queue =>
    rw [queue, List.mem_cons, not_or] at out
    split
    · exact ⟨(pump_updPump ..).trans (if_neg (Ne.symm out.1)), out.2⟩
    · exact ⟨rfl, by rw [queue]; exact List.not_mem_cons_of_ne_of_not_mem out.1 out.2⟩

end

/-- R53: a pump behind the head of the queue stays there as it is. -/
theorem startHead_later {s : State} {m n : PumpId} {rest : List PumpId} (queue : s.pumps.queue = n :: rest) (other : n ≠ m)
    (later : m ∈ rest) : (startHead s).pump m = s.pump m ∧ m ∈ (startHead s).pumps.queue := by
  simp only [startHead, queue]
  split
  · exact ⟨(pump_updPump ..).trans (if_neg other), later⟩
  · exact ⟨rfl, by rw [queue]; exact List.mem_cons_of_mem n later⟩

theorem startHead_faultLine (m : PumpId) (s : State) : ((startHead s).pump m).faultLine = (s.pump m).faultLine := by
  unfold startHead
  split
  · rfl
  · split
    · rw [pump_updPump]
      split
      · next same => rw [← same]; rfl
      · rfl
    · rfl

/-! ## A pump without claims through the stops of an event (R51, R56) -/

/-- A pump in some condition that does not stand in the start queue. -/
def State.Leaves (m : PumpId) (u : PumpUnit) (s : State) : Prop := s.pump m = u ∧ m ∉ s.pumps.queue

section
variable {s : State} {m : PumpId} {u : PumpUnit}

theorem State.Leaves.of_pumps {t : State} (h : s.Leaves m u) (pumps : t.pumps = s.pumps) : t.Leaves m u := by
  unfold State.Leaves State.pump
  rw [pumps]
  exact h

theorem State.Leaves.startHead (h : s.Leaves m u) : (startHead s).Leaves m u := by
  obtain ⟨unit, out⟩ := h
  obtain ⟨same, still⟩ := startHead_out out
  exact ⟨same.trans unit, still⟩

theorem State.Leaves.updPump (h : s.Leaves m u) {n : PumpId} (other : n ≠ m) (f : PumpUnit → PumpUnit) : (s.updPump n f).Leaves m u :=
  ⟨((pump_updPump ..).trans (if_neg other)).trans h.1, h.2⟩

/-- R51: a release of a pump without claims changes nothing, and one of another pump nothing of it. -/
theorem State.Leaves.releasePump (h : s.Leaves m u) (free : u.claims = []) (p : PointId) (n : PumpId) :
    (releasePump p n s).Leaves m u := by
  by_cases same : n = m
  · subst same
    have claims : (s.pump n).claims = [] := by rw [h.1]; exact free
    have unclaimed : Machine.releasePump p n s = s := by
      simp only [Machine.releasePump, claims, List.contains_nil, Bool.false_eq_true, if_false]
    rw [unclaimed]
    exact h
  · unfold Machine.releasePump
    dsimp only
    split
    · have released := h.updPump same fun u => { u with claims := (s.pump n).claims.filter (· ≠ p) }
      split
      · split
        · exact State.Leaves.startHead ⟨(released.updPump same PumpUnit.off).1, fun mem => h.2 (List.mem_of_mem_filter mem)⟩
        · exact released.updPump same _
        · exact released
        · exact released
        · exact released
        · exact released
      · exact released
    · exact h

theorem State.Leaves.stopPoint (h : s.Leaves m u) (free : u.claims = []) (ended : Option PointId) (c : Cause) (p : PointId) :
    (stopPoint ended c p s).Leaves m u := by
  have closes {t : State} (ht : t.Leaves m u) : (finishClose p t).Leaves m u := by
    cases order : (t.point p).order with
    | none => rw [finishClose_none order]; exact ht
    | some o => exact (ht.releasePump free p (t.pointSet p).pump).of_pumps (finishClose_pumps order)
  have atOnce : (closeAtOnce ended p c s).Leaves m u := by
    unfold closeAtOnce
    dsimp only
    split
    · exact closes (h.of_pumps rfl)
    · exact closes (h.of_pumps ((endWindow_moves p _ _).same .pumps))
  unfold Machine.stopPoint
  split <;> first | exact atOnce | exact h.of_pumps rfl

theorem State.Leaves.handReports (h : s.Leaves m u) (free : u.claims = []) : (handReports s).Leaves m u := by
  have upTo (n : Nat) : ∀ t : State, t.Leaves m u → (handReportsUpTo none n t).Leaves m u := by
    induction n with
    | zero => exact fun t ht => ht.of_pumps rfl
    | succ n ih =>
      intro t ht
      unfold handReportsUpTo
      split
      · exact ht
      · refine ih _ (forEach_invariant (P := fun v => v.Leaves m u) _ _ (fun p v hv => ?_) _ (ht.of_pumps rfl))
        split
        · exact hv.stopPoint free ..
        · exact hv
  exact upTo 16 s h

end

/-! ## A start that completes (R33, R54) -/

/-- R33: the point that waits for its pump once the pump is reported running. -/
def PointUnit.primed (u : PointUnit) (set : PointSettings) (now : Nat) : PointUnit :=
  { u with
    state := .priming, valve := true, primeDue := some (now + set.primeTime * 1000)
    attendDue := (attendanceSeconds set.attendance).map fun seconds => now + seconds * 1000 }

theorem reportRunning_point (p q : PointId) (s : State) : (reportRunning p s).point q =
    if p = q ∧ (s.point p).state = .awaitPump then (s.point p).primed (s.pointSet p) s.clock else s.point q := by
  unfold reportRunning
  by_cases waits : (s.point p).state = .awaitPump
  · rw [if_pos waits, enterPriming, point_updPoint]
    simp only [waits, and_true]
    rfl
  · rw [if_neg waits, if_neg fun h => waits h.2]

/-- R54: the points of a list, each reported to. -/
theorem reports_point {ps : List PointId} (distinct : ps.Nodup) (p : PointId) (s : State) : (forEach ps reportRunning s).point p =
    if p ∈ ps ∧ (s.point p).state = .awaitPump then (s.point p).primed (s.pointSet p) s.clock else s.point p := by
  have kept (qs : List PointId) (absent : p ∉ qs) (t : State) :
      (forEach qs reportRunning t).point p = t.point p ∧ (forEach qs reportRunning t).store = t.store ∧
        (forEach qs reportRunning t).clock = t.clock :=
    forEach_induction (P := fun u => u.point p = t.point p ∧ u.store = t.store ∧ u.clock = t.clock)
      (fun q hq u ⟨point, store, clock⟩ => by
        have moves := reportRunning_moves q u
        exact ⟨((reportRunning_point q p u).trans (if_neg fun (h : q = p ∧ _) => absent (h.1 ▸ hq))).trans point, moves.store.trans store,
          (moves.same .clock).trans clock⟩) ⟨rfl, rfl, rfl⟩
  by_cases mem : p ∈ ps
  · obtain ⟨as, bs, before, after, round⟩ := forEach_round distinct mem reportRunning
    obtain ⟨point, store, clock⟩ := kept as before s
    have sets : (forEach as reportRunning s).pointSet p = s.pointSet p := by simp only [State.pointSet, store]
    rw [round, (kept bs after _).1, reportRunning_point, point, sets]
    simp only [true_and, mem, clock]
  · rw [(kept ps mem s).1, if_neg fun h => mem h.1]

theorem mem_sortedClaims {p : PointId} {claims : List PointId} : p ∈ sortedClaims claims ↔ p ∈ claims := by
  simp [sortedClaims, mem_allPoints]

/-- R54: the pumps once a start has been completed and reported. -/
theorem startTimerEvent_due {s : State} {m : PumpId} {due : Nat} (running : (s.pump m).startDue = some due) :
    startTimerEvent m s = forEach (sortedClaims (s.pump m).claims) reportRunning (completeStart m (s.reach due)) := by
  have same : (s.reach due).pump m = s.pump m := by rw [State.pump, State.reach_pumps]; rfl
  simp only [startTimerEvent, running, same]

/-- R51, R54: the pump whose start is complete, apart from the start of the next. -/
def PumpUnit.completed (u : PumpUnit) (hold now : Nat) : PumpUnit :=
  if u.claims = [] then (if hold = 0 then u.off else u.holding (now + hold * 1000)) else u.running

theorem completeStart_eq (m : PumpId) (s : State) : completeStart m s =
    startHead (s.updPump m fun u => u.completed (s.pumpSet m).holdTime s.clock) := by
  have unit (f g : PumpUnit → PumpUnit) (h : f (s.pump m) = g (s.pump m)) : s.updPump m f = s.updPump m g := by
    simp only [State.updPump, adjust, show f (look s.pumps.units m) = g (look s.pumps.units m) from h]
  unfold completeStart holdOrOff
  by_cases free : (s.pump m).claims = []
  · rw [if_pos (List.isEmpty_iff.2 free)]
    refine congrArg startHead (unit _ _ ?_)
    rw [PumpUnit.completed, if_pos free]
    split <;> rfl
  · rw [if_neg fun h => free (List.isEmpty_iff.1 h)]
    exact congrArg startHead (unit _ _ (by rw [PumpUnit.completed, if_neg free]))

theorem completed_idle (u : PumpUnit) (hold now : Nat) :
    (u.completed hold now).startDue = none ∧ (u.completed hold now).state ≠ .starting := by
  unfold PumpUnit.completed
  split
  · split <;> exact ⟨rfl, nofun⟩
  · exact ⟨rfl, nofun⟩

/-- R56: PUMP_FAULT becomes active at a pump in use. -/
theorem pumpFaultActiveEvent_used {s : State} {m : PumpId} (low : (s.pump m).faultLine = false) (notOff : (s.pump m).state ≠ .off)
    (notFaulted : (s.pump m).state ≠ .faulted) : pumpFaultActiveEvent m s =
      forEach (sortedClaims (s.pump m).claims) (stopPoint none .pumpFault)
        (startHead ((s.updPump m fun u => { u.faulted with faultLine := true, claims := [] }).setQueue
          (s.pumps.queue.filter (· ≠ m)))) := by
  have state : ((s.updPump m fun u => { u with faultLine := true }).pump m).state = (s.pump m).state := by rw [pump_updPump_self]
  have faults : faultPump m (s.updPump m fun u => { u with faultLine := true }) =
      startHead ((s.updPump m fun u => { u.faulted with faultLine := true, claims := [] }).setQueue (s.pumps.queue.filter (· ≠ m))) := by
    have twice : (s.updPump m fun u => { u with faultLine := true }).updPump m (fun u => { u.faulted with claims := [] }) =
        s.updPump m fun u => { u.faulted with faultLine := true, claims := [] } := by
      simp only [State.updPump, adjust_adjust]
      rfl
    unfold faultPump
    rw [state]
    cases h : (s.pump m).state
    case off => exact absurd h notOff
    case faulted => exact absurd h notFaulted
    all_goals exact congrArg (fun t => startHead (State.setQueue (s.pumps.queue.filter (· ≠ m)) t)) twice
  unfold pumpFaultActiveEvent
  dsimp only
  rw [if_neg (by rw [low]; exact Bool.false_ne_true), faults]
  cases h : (s.pump m).state
  case off => exact absurd h notOff
  case faulted => exact absurd h notFaulted
  all_goals rfl

/-- R56, R57: PUMP_FAULT at a pump that is not in use. -/
theorem pumpFaultActiveEvent_unused {s : State} {m : PumpId} (low : (s.pump m).faultLine = false)
    (off : (s.pump m).state = .off ∨ (s.pump m).state = .faulted) :
    pumpFaultActiveEvent m s = s.updPump m fun u => { u with faultLine := true } := by
  have state : ((s.updPump m fun u => { u with faultLine := true }).pump m).state = (s.pump m).state := by rw [pump_updPump_self]
  unfold pumpFaultActiveEvent
  dsimp only
  rw [if_neg (by rw [low]; exact Bool.false_ne_true)]
  rcases off with h | h <;> simp only [h, faultPump, state] <;> rfl

theorem pumpFaultInactiveEvent_high {s : State} {m : PumpId} (high : (s.pump m).faultLine = true) :
    ((s.pump m).state ≠ .faulted → pumpFaultInactiveEvent m s = s.updPump m fun u => { u with faultLine := false }) ∧
      ((s.pump m).state = .faulted → (s.pump m).claims = [] → pumpFaultInactiveEvent m s =
        s.updPump m fun u => { u.off with faultLine := false }) ∧
      ((s.pump m).state = .faulted → (s.pump m).claims ≠ [] → pumpFaultInactiveEvent m s =
        startHead ((s.updPump m fun u => { u.off with faultLine := false, state := .queued }).setQueue (s.pumps.queue ++ [m]))) := by
  have twice (f : PumpUnit → PumpUnit) : (s.updPump m fun u => { u with faultLine := false }).updPump m f =
      s.updPump m fun u => f { u with faultLine := false } := by
    simp only [State.updPump, adjust_adjust]
  unfold pumpFaultInactiveEvent
  dsimp only
  rw [if_pos high]
  refine ⟨fun sound => ?_, fun faulted free => ?_, fun faulted claimed => ?_⟩
  · cases h : (s.pump m).state
    case faulted => exact absurd h sound
    all_goals rfl
  · simp only [faulted, free, List.isEmpty_nil, if_true, twice]
    rfl
  · have some : (s.pump m).claims.isEmpty = false := by simpa using claimed
    simp only [faulted, some, Bool.false_eq_true, if_false, enqueuePump, twice]
    rfl

/-- Settles O58. -/
theorem pumpEvents : Obligations.PumpEvents := by
  intro m s ready u starts
  have timed {f : State → State} {t : State} (event : f s = t) (handed : t.stock.reports = []) : takeEvent f s = t :=
    (takeEvent_eq ready.1 (by rw [event]; exact handed)).trans event
  have line {follow event : State → State} {t : State} (h : event s = t) (handed : t.stock.reports = []) :
      takeLine follow event s = t := takeLine_eq ready.1 h handed
  refine ⟨fun rests => ?_, fun rests => ?_, fun due running out => ?_, fun due running => ?_, fun high => ?_, fun low off => ?_,
    fun low notOff notFaulted fits => ?_, fun low => ?_, fun high sound => ?_, fun high faulted free => ?_,
    fun high faulted claimed out => ?_, ?_, fun ready' => ?_, fun low => ⟨fun empty => ?_, fun n rest queue => ⟨fun withheld => ?_,
      fun idle free => ?_⟩⟩⟩
  · exact congrArg Host.Outcome.next (timed (f := startTimerEvent m) (by simp only [startTimerEvent, show (s.pump m).startDue = none from rests]) ready.2)
  · exact congrArg Host.Outcome.next (timed (f := holdTimerEvent m) (by simp only [holdTimerEvent, show (s.pump m).holdDue = none from rests]) ready.2)
  · intro now
    have same : now.pump m = u := by rw [State.pump, State.reach_pumps]; rfl
    have sets (k : PumpId) : now.pumpSet k = s.pumpSet k := by rw [State.pumpSet, State.reach_store]; rfl
    set w := now.updPump m fun u => u.completed (now.pumpSet m).holdTime now.clock with hw
    set v := startHead w with hv
    set t := forEach (sortedClaims u.claims) reportRunning v with ht
    have event : startTimerEvent m s = t := (startTimerEvent_due running).trans (by rw [completeStart_eq])
    have reported : Moves [.points] ∅ v t := .forEach _ _ (fun p _ s => reportRunning_moves p s) _
    have pumped : Moves [.pumps] ∅ now v := by
      have := completeStart_moves m now
      rwa [completeStart_eq] at this
    have handed : t.stock.reports = [] := (reported.same .reports).trans ((pumped.same .reports).trans
      (((reach_moves due s).same .reports).trans ready.2))
    have unit (k : PumpId) : t.pump k = v.pump k := by rw [State.pump, reported.same .pumps]; rfl
    have outW : m ∉ w.pumps.queue := by rw [hw, State.updPump_queue, State.reach_pumps]; exact out
    have own : t.pump m = u.completed (s.pumpSet m).holdTime now.clock := by
      rw [unit, (startHead_out outW).1, hw, pump_updPump_self, same, sets]
    have points : v.points = s.points := (pumped.same .points).trans (State.reach_points ..)
    have clock : v.clock = now.clock := pumped.same .clock
    refine ⟨t, congrArg Host.Outcome.next (timed (f := startTimerEvent m) event handed), by rw [own]; exact (completed_idle ..).1,
      fun free => ?_, fun claimed => ?_, fun n rest queue withheld idle => ?_⟩
    · have none : t = v := by
        have nobody : sortedClaims u.claims = [] := by rw [free]; rfl
        rw [ht, nobody]
        rfl
      rw [own, PumpUnit.completed, if_pos free, none]
      refine ⟨?_, ?_, points⟩ <;> split <;> rfl
    · rw [own, PumpUnit.completed, if_neg claimed]
      refine ⟨rfl, rfl, fun p => ?_⟩
      have point := reports_point (ps := sortedClaims u.claims) (List.Nodup.filter _ (by decide)) p v
      have sets : v.pointSet p = s.pointSet p := by rw [State.pointSet, pumped.store, State.reach_store]; rfl
      rw [congrFun (point_of_points points) p, sets, clock] at point
      simp only [mem_sortedClaims] at point
      split
      · next waits =>
        rw [if_pos waits] at point
        rw [ht, point]
        exact ⟨rfl, rfl, rfl⟩
      · next stays =>
        rw [if_neg stays] at point
        exact point
    · have queueW : w.pumps.queue = n :: rest := by rw [hw, State.updPump_queue, State.reach_pumps]; exact queue
      have other : m ≠ n := fun e => out (by rw [queue, e]; exact List.mem_cons_self)
      have idleW (k : PumpId) : (w.pump k).state ≠ .starting := by
        rw [hw, pump_updPump]
        split
        · exact (completed_idle ..).2
        · next ne =>
          rw [State.pump, State.reach_pumps]
          exact idle k (Ne.symm ne)
      have freeW : w.isSet .bay = false := by
        rw [hw, State.isSet, latch_of_shutdown (t := w) (s := s) (State.reach_shutdown ..)]
        exact withheld.2
      have started := startHead_starts queueW idleW (by rw [hw, State.updPump_supplyReady, State.reach_pumps]; exact withheld.1) freeW
      have next : w.pump n = s.pump n := by
        rw [hw, pump_updPump, if_neg other, State.pump, State.reach_pumps]
        rfl
      have due : w.pumpSet n = s.pumpSet n := sets n
      have whole : v.pump n = { s.pump n with
          state := .starting, startDue := some (now.clock + (s.pumpSet n).startTime * 1000), holdDue := none, run := true } := by
        rw [hv, started, ← next, ← due]
        exact look_put_self ..
      have queued : t.pumps.queue = rest := by rw [reported.same .pumps, hv, started]
      rw [unit, whole]
      exact ⟨rfl, rfl, queued, rfl⟩
  · refine congrArg Host.Outcome.next (timed (f := holdTimerEvent m) (by simp only [holdTimerEvent, show (s.pump m).holdDue = some due from running]; rfl) ?_)
    exact (reach_moves due s).same .reports |>.trans ready.2
  · exact congrArg Host.Outcome.next (line (event := pumpFaultActiveEvent m) (if_pos high) ready.2)
  · exact congrArg Host.Outcome.next (line (pumpFaultActiveEvent_unused low off) ready.2)
  · set down : PumpUnit := { u.faulted with faultLine := true, claims := [] } with hdown
    set x := (s.updPump m fun u => { u.faulted with faultLine := true, claims := [] }).setQueue (s.pumps.queue.filter (· ≠ m)) with hx
    set v := startHead x with hv
    have event := pumpFaultActiveEvent_used low notOff notFaulted
    have leaves : v.Leaves m down := State.Leaves.startHead (s := x) ⟨pump_updPump_self (s := s) .., by simp [hx, State.setQueue]⟩
    have stopped : (forEach (sortedClaims u.claims) (stopPoint none .pumpFault) v).Leaves m down :=
      forEach_invariant (P := fun t => t.Leaves m down) _ _ (fun p t h => h.stopPoint rfl ..) v leaves
    obtain ⟨unit, out⟩ := stopped.handReports rfl
    refine ⟨_, congrArg Host.Outcome.next ((takeLine_running ready.1).trans (congrArg handReports event)), by rw [unit]; rfl,
      by rw [unit]; rfl, by rw [unit], by rw [unit], out, fun p claims => ?_⟩
    have points : v.point = s.point := point_of_points ((startHead_moves x).same .points)
    obtain ⟨as, bs, before, -, round⟩ := forEach_round (xs := sortedClaims u.claims) (List.Nodup.filter _ (by decide))
      (mem_sortedClaims.2 claims) (stopPoint none .pumpFault)
    set y := forEach as (stopPoint none .pumpFault) v with hy
    have same : y.point p = s.point p := forEach_induction (P := fun t => t.point p = s.point p)
      (fun q hq t ht => (stopPoint_point_ne _ _ t (ne_of_mem_of_not_mem hq before)).trans ht) (congrFun points p)
    have winds : (stopPoint none .pumpFault p y).Winds (handReports (forEach (sortedClaims u.claims) (stopPoint none .pumpFault) v)) := by
      rw [round]
      exact (State.Winds.forEach (stopPoint_winds _ _) _ _).trans (handReports_winds _)
    have fit := (fits ready.1).1 p
    unfold PointUnit.fitsState at fit
    refine ⟨fun waits => ?_, fun flows => ?_⟩
    · obtain ⟨o, order⟩ := Option.isSome_iff_exists.1 (show (s.point p).order.isSome = true by
        rcases waits with h | h <;> rw [h] at fit <;> exact fit.1)
      obtain ⟨shut, closed⟩ := (closeAtOnce_record (s := y) (p := p) (by rw [same]; exact order) none .pumpFault).2
      rw [← stopPoint_waiting none (by rw [same]; exact waits)] at closed
      have final := (winds.points p).free (.inl (by rw [closed]; rfl))
      rw [final, closed]
      exact ⟨rfl, rfl⟩
    · obtain ⟨o, order⟩ := Option.isSome_iff_exists.1 (show (s.point p).order.isSome = true by
        rcases flows with h | h <;> rw [h] at fit <;> exact fit.1)
      have stop : (stopPoint none .pumpFault p y).point p = (y.point p).stopped y.clock .pumpFault := by
        rw [stopPoint_flows (by rw [same]; exact flows)]
        exact look_put_self ..
      obtain ⟨more, eq⟩ := (winds.points p).stopping { o with termination := some .pumpFault } (by rw [stop]; rfl)
        (by rw [stop, PointUnit.stopped, same, order]; rfl)
      rw [eq, stop]
      exact ⟨rfl, rfl, rfl⟩
  · exact congrArg Host.Outcome.next (line (event := pumpFaultInactiveEvent m) (if_neg (by rw [low]; exact Bool.false_ne_true)) ready.2)
  · exact congrArg Host.Outcome.next (line ((pumpFaultInactiveEvent_high high).1 sound) ready.2)
  · exact congrArg Host.Outcome.next (line ((pumpFaultInactiveEvent_high high).2.1 faulted free) ready.2)
  · set x := (s.updPump m fun u => { u.off with faultLine := false, state := .queued }).setQueue (s.pumps.queue ++ [m]) with hx
    have event := (pumpFaultInactiveEvent_high high).2.2 faulted claimed
    have moves := startHead_moves x
    have own : x.pump m = { u.off with faultLine := false, state := .queued } := pump_updPump_self (s := s) ..
    have others {k : PumpId} (other : m ≠ k) : x.pump k = s.pump k := (pump_updPump (s := s) ..).trans (if_neg other)
    have starting {k : PumpId} (h : (s.pump k).state = .starting) : (x.pump k).state = .starting := by
      have other : m ≠ k := fun e => by rw [← e, faulted] at h; cases h
      rw [others other, h]
    refine ⟨startHead x, congrArg Host.Outcome.next (line event (moves.same .reports |>.trans ready.2)), ?_, ?_, moves.same .points,
      fun empty first idle => ?_, fun withheld => ?_⟩
    · rw [startHead_faultLine, own]
    · rw [startHead_claims, own]; rfl
    · have queue : x.pumps.queue = [m] := by
        change s.pumps.queue ++ [m] = [m]
        rw [empty, List.nil_append]
      have idleX (k : PumpId) : (x.pump k).state ≠ .starting := by
        by_cases other : m = k
        · rw [← other, own]; nofun
        · rw [others other]; exact idle k
      rw [startHead_starts queue idleX first.1 first.2]
      exact congrArg PumpUnit.state (look_put_self ..)
    · cases queue : s.pumps.queue with
      | nil =>
        have held : startHead x = x := by
          refine startHead_withheld ?_
          rcases withheld with some | closed | busy
          · exact absurd queue some
          · refine .inr ?_
            by_cases supply : s.pumps.supplyReady = true
            · exact .inr (Bool.eq_true_of_not_eq_false fun free => closed ⟨supply, free⟩)
            · exact .inl (Bool.eq_false_iff.2 supply)
          · exact .inl (busy.imp fun k h => starting h)
        rw [held, own]
        exact ⟨rfl, rfl, List.mem_append_right _ (List.mem_singleton_self m)⟩
      | cons n rest =>
        have other : n ≠ m := fun e => out (by rw [queue, e]; exact List.mem_cons_self)
        obtain ⟨unit, stands⟩ := startHead_later (s := x) (queue := show x.pumps.queue = n :: (rest ++ [m]) by
          change s.pumps.queue ++ [m] = _
          rw [queue, List.cons_append]) other (List.mem_append_right _ (List.mem_singleton_self m))
        rw [unit, own]
        exact ⟨rfl, rfl, stands⟩
  · exact congrArg Host.Outcome.next (takeLine_running ready.1 |>.trans (handReports_none ready.2))
  · exact congrArg Host.Outcome.next (line (event := supplyReadyActiveEvent) (if_pos ready') ready.2)
  all_goals
    have event : supplyReadyActiveEvent s = startHead (s.setSupplyReady true) := if_neg (by rw [low]; exact Bool.false_ne_true)
  · exact congrArg Host.Outcome.next (line (event.trans (startHead_empty empty)) ready.2)
  · exact congrArg Host.Outcome.next (line (event.trans (startHead_withheld (withheld.imp_right .inr))) ready.2)
  · exact congrArg Host.Outcome.next (line (event.trans (startHead_starts queue idle rfl free)) ready.2)

end Sys2Proof.Machine

/-! # The stop timers of points and inlets -/

namespace Sys2Proof.Machine

open Sys2Proof

/-! ## The last window of a stop (R14, R41) -/

/-- R14: the point whose window ends as the last. -/
theorem endWindow_metering {p : PointId} {w : Working} {s : State} (working : (s.point p).meter.working = some w) (reading : Option Int) :
    ∃ f : Order → Order, (∀ o, (f o).number = o.number ∧ (f o).termination = o.termination ∧ (f o).secondaries = o.secondaries ∧
      (f o).gross = o.gross + (windowResult (s.point p).meter w reading true).gross ∧
      (f o).net = o.net + (windowResult (s.point p).meter w reading true).net) ∧
    (endWindow p reading s).point p = { s.point p with meter := .idle, order := (s.point p).order.map f } := by
  simp only [endWindow, working]
  refine ⟨_, ?kept, by rw [takeResult_point, if_pos rfl, point_updPoint_self]⟩
  exact fun _ => ⟨rfl, rfl, rfl, rfl, rfl⟩

section
variable {p : PointId} {s : State} {o : Order} {w : Working}

/-- R41, R44: the record and the point that the end of a stop leaves. -/
theorem pointStopExpires_closes (stops : (s.point p).state = .stopping) (order : (s.point p).order = some o)
    (working : (s.point p).meter.working = some w) (reading : Option Int) (leak : Bool) :
    ∃ (x : DispenseRecord) (more : List Cause), (pointStopExpires p reading leak s).journal.held.getLast? = some (.dispense x) ∧
      x.number = o.number ∧ x.point = p ∧ x.termination = o.termination.getD .stopped ∧
      x.gross = o.gross + (windowResult (s.point p).meter w reading true).gross ∧
      x.net = o.net + (windowResult (s.point p).meter w reading true).net ∧ x.closeTime = s.seconds ∧
      x.secondaries = (if leak then addCause o.termination o.secondaries .valveLeak else o.secondaries) ++ more ∧
      (pointStopExpires p reading leak s).point p = (s.point p).closed ∧ (pointStopExpires p reading leak s).stock.reports = [] := by
  set added : List Cause := if leak then addCause o.termination o.secondaries .valveLeak else o.secondaries with hadded
  set s₁ := if leak then addSecondary p .valveLeak s else s with hs₁
  have unit : s₁.point p = { s.point p with order := some { o with secondaries := added } } := by
    rw [hs₁, hadded]
    cases leak with
    | false => simp only [Bool.false_eq_true, if_false]; rw [← order]
    | true => simp only [if_true, addSecondary, point_updOrder_self, order, Option.map_some]
  have clock : s₁.clock = s.clock := by rw [hs₁]; split <;> rfl
  have metered : (s₁.point p).meter.working = some w := by rw [unit]; exact working
  obtain ⟨f, kept, ended⟩ := endWindow_metering metered reading
  obtain ⟨number, cause, secondaries, gross, net⟩ := kept { o with secondaries := added }
  set e := endWindow p reading s₁ with he
  have winds := (handReports_winds e).points p
  obtain ⟨more, reported⟩ := winds.stopping (f { o with secondaries := added }) (by rw [ended, unit]; exact stops)
    (by rw [ended, unit]; rfl)
  rw [ended, unit] at reported
  have order' : ((handReports e).point p).order = some { f { o with secondaries := added } with
      secondaries := (f { o with secondaries := added }).secondaries ++ more } := by rw [reported]
  have whole : pointStopExpires p reading leak s = finishClose p (handReports e) := rfl
  have now : (handReports e).seconds = s.seconds := by
    have : (handReports e).clock = s.clock :=
      ((handReports_moves e).same .clock).trans (((endWindow_moves p reading s₁).same .clock).trans clock)
    simp only [State.seconds, this]
  rw [whole]
  refine ⟨_, more, by rw [finishClose_journal order']; exact List.getLast?_concat .., number, rfl, ?_, ?_, ?_, now, ?_, ?_,
    ((finishClose_moves ..).same .reports).trans (handReports_reports e)⟩
  · rw [cause]
  · rw [gross, unit]
  · rw [net, unit]
  · rw [secondaries]
  · rw [finishClose_point order', if_pos rfl, reported]
    rfl

end

/-! ## The hand-on of a cause within its event (R155) -/

theorem marked_moves (b : Bool) (s : State) : Moves [.stockRest] ∅ s (s.marked b) := tripping_moves b s

/-- R150, R155: what a cause does before its hand-on, and what after it. -/
theorem handCause_around (h : Handing) (s : State) : ∃ x : State,
    Moves [.latches, .log, .shutdownRest, .links, .stockRest] (tripLaws ∪ drawLaws) s x ∧
      Moves [.latches, .log, .links, .stockRest] ∅ (handOn h (decide ((s.latch h.latch).state = .normal)) x) (handCause h s) := by
  obtain ⟨n, sent⟩ : ∃ n, causeHandedOn h s =
      whileTripping (handOn h (decide ((s.latch h.latch).state = .normal))) ((latchTaken h s).post n) := ⟨_, rfl⟩
  refine ⟨((latchTaken h s).post n).marked true, ?_, ?_⟩
  · exact ((latchTaken_moves h s).andThen (((post_moves n _).andThen (marked_moves true _)).weaken _)).mono (by decide)
  · have unmarked := marked_moves false (handOn h (decide ((s.latch h.latch).state = .normal)) (((latchTaken h s).post n).marked true))
    rw [← whileTripping_marked, ← sent] at unmarked
    have counted := changeEntry_moves (takenLatch h s).trip (fun e => { e with
      stopped := e.stopped + (s.unstopped - (handCause h s).unstopped + h.already) }) (causeHandedOn h s)
    have examined := examine_moves h.latch (changeEntry (takenLatch h s).trip (fun e => { e with
      stopped := e.stopped + (s.unstopped - (handCause h s).unstopped + h.already) }) (causeHandedOn h s))
    rw [← handCause_stopped] at examined
    exact (unmarked.andThen (counted.andThen examined)).mono (by decide)

/-- R155: a cause handed to the latch of a point that has no order is handed on to nothing. -/
theorem handCause_point_idle {p : PointId} {c : TripCause} {n : Nat} {s : State} (idle : (s.point p).state = .idle)
    (handed : s.stock.reports = []) :
    (handCause { handing (.point p) c none with already := n } s).journal = s.journal ∧
      (handCause { handing (.point p) c none with already := n } s).point p = s.point p := by
  obtain ⟨x, before, after⟩ := handCause_around { handing (.point p) c none with already := n } s
  have points : x.point = s.point := point_of_points (before.same .points)
  have nothing (leaves : Bool) : handOn { handing (.point p) c none with already := n } leaves x = x := by
    refine (handOn_point (p := p) (c := c) (input := none) leaves x).trans ?_
    rw [stopPoint_free (.inl (by rw [points]; exact idle))]
    exact handReports_none ((before.same .reports).trans handed)
  rw [nothing] at after
  exact ⟨(after.same .journal).trans (before.same .journal), (congrFun (point_of_points (after.same .points)) p).trans (congrFun points p)⟩

theorem pulsedLately_iff (now : Nat) (m : Meter) : pulsedLately now m = true ↔ ∃ x ∈ m.lastPulse, now < x + 1000 := by
  unfold pulsedLately
  cases m.lastPulse <;> simp only [Option.mem_def, reduceCtorEq, Bool.false_eq_true, false_and, exists_false, decide_eq_true_eq, Option.some.injEq, exists_eq_left']
  rfl

theorem stopTimerEvent_due {p : PointId} {due : Nat} {s : State} (running : (s.point p).stopDue = some due) (reading : Option Int) :
    stopTimerEvent p reading s =
      if ∃ x ∈ (s.point p).meter.lastPulse, (s.reach due).clock < x + 1000 then
        findingEvent (pointStopExpires p reading true) (.point p) .valveLeak (s.reach due)
      else pointStopExpires p reading false (s.reach due) := by
  have same : (s.reach due).point p = s.point p := congrFun (point_of_points (State.reach_points ..)) p
  simp only [stopTimerEvent, running, same, pulsedLately_iff]

theorem inletStopTimerEvent_due {i : InletId} {due : Nat} {d : Delivery} {s : State} (running : (s.inlet i).stopDue = some due)
    (delivery : (s.inlet i).delivery = some d) (reading : Option Int) :
    inletStopTimerEvent i reading s =
      if ∃ x ∈ (s.inlet i).meter.lastPulse, (s.reach due).clock < x + 1000 then
        findingEvent (fun s => handReports (inletStopExpires i reading true s)) (.bund (s.tankSet d.tank).bund) .valveLeak (s.reach due)
      else handReports (inletStopExpires i reading false (s.reach due)) := by
  have same : (s.reach due).inlet i = s.inlet i := congrFun (inlet_of_inlets (State.reach_inlets ..)) i
  have sets : (s.reach due).tankSet = s.tankSet := by funext t; rw [State.tankSet, State.reach_store]; rfl
  simp only [inletStopTimerEvent, running, delivery, same, sets, pulsedLately_iff]

/-- R149: an event whose finding hands a cause. -/
theorem findingEvent_eq (f : State → State) (x : LatchId) (c : TripCause) (s : State) : ∃ n, findingEvent f x c s =
    handCause { handing x c none with already := n } ((f (s.marked true)).marked false) := ⟨_, rfl⟩

theorem handCause_first {h : Handing} {s : State} (normal : (s.latch h.latch).state = .normal) :
    ((handCause h s).latch h.latch).causes = [h.cause] := by
  obtain ⟨-, -, -, first, -⟩ := causeTripsLatch h s
  exact (first normal).1

/-- R42: a cause that is new to an operation and has room joins its secondaries. -/
theorem mem_addCause {termination : Option Cause} {secondaries : List Cause} {c : Cause} (other : termination ≠ some c)
    (room : secondaries.length < 3) : c ∈ addCause termination secondaries c := by
  rw [addCause_eq]
  split
  · next held =>
    rcases held with (same | mem) | full
    · exact absurd same other
    · exact mem
    · omega
  · exact List.mem_append_right _ (List.mem_singleton_self c)

/-- R14: the inlet whose window ends as the last. -/
theorem endInletWindow_metering {i : InletId} {w : Working} {s : State} (working : (s.inlet i).meter.working = some w)
    (reading : Option Int) : (endInletWindow i reading s).inlet i = { s.inlet i with
      meter := .idle, delivery := (s.inlet i).delivery.map (addDeliveryResult (windowResult (s.inlet i).meter w reading true)) } := by
  simp only [endInletWindow, working]
  rw [takeDeliveryResult_inlet, if_pos rfl, inlet_updInlet_self]

/-- R96, R98: the delivery at the end of its stop, with its last window. -/
def Delivery.settling (d : Delivery) (r : WindowResult) (leak : Bool) : Delivery :=
  { addDeliveryResult r d with
    secondaries := if leak then addCause d.termination d.secondaries .valveLeak else d.secondaries
    extensions := 0, holdsFlag := false }

/-- R96, R98: the inlet whose stop has ended, with its delivery and the end of its settle. -/
def InletUnit.settling (u : InletUnit) (d : Delivery) (due : Nat) : InletUnit :=
  { u with state := .settling, valve := false, meter := .idle, stopDue := none, settleDue := some due, delivery := some d }

/-- R96, R98: the inlet that the end of a stop leaves. -/
theorem inletStopExpires_inlet {i : InletId} {s : State} {d : Delivery} {w : Working} (delivery : (s.inlet i).delivery = some d)
    (working : (s.inlet i).meter.working = some w) (reading : Option Int) (leak : Bool) :
    (inletStopExpires i reading leak s).inlet i = (s.inlet i).settling
      (d.settling (windowResult (s.inlet i).meter w reading true) leak) (s.clock + (s.inletSet i).settleTime * 60000) := by
  set s₁ := if leak then addDeliverySecondary i .valveLeak s else s with hs₁
  have unit : s₁.inlet i = { s.inlet i with delivery := some { d with
      secondaries := if leak then addCause d.termination d.secondaries .valveLeak else d.secondaries } } := by
    rw [hs₁]
    cases leak with
    | false => simp only [Bool.false_eq_true, if_false]; rw [← delivery]
    | true => simp only [if_true, addDeliverySecondary, inlet_updDelivery_self, delivery, Option.map_some]
  have early : Moves [.inlets] ∅ s s₁ := by
    rw [hs₁]
    split
    · exact updDelivery_moves i _ (fun _ => rfl) fun _ h => h
    · exact .refl ..
  have ended := endInletWindow_metering (s := s₁) (by rw [unit]; exact working) reading
  set e := endInletWindow i reading s₁ with he
  have moved : Moves _ _ s₁ e := endInletWindow_moves i reading s₁
  have due : e.after ((e.inletSet i).settleTime * 60) = s.clock + (s.inletSet i).settleTime * 60000 := by
    have clock : e.clock = s.clock := (moved.same .clock).trans (early.same .clock)
    have sets : e.inletSet i = s.inletSet i := by rw [State.inletSet, State.inletSet, moved.store, early.store]
    rw [State.after, clock, sets]
    omega
  unfold inletStopExpires enterSettling
  dsimp only
  rw [← hs₁, ← he, clearReceiving_inlet, if_pos rfl, inlet_updDelivery_self, inlet_updInlet_self, ended, unit, due]
  rfl

/-- R155: an inlet in SETTLING goes on through a hand-on. -/
theorem handOn_settling {i : InletId} {s : State} (settles : (s.inlet i).state = .settling) (h : Handing) (leaves : Bool) :
    ((handOn h leaves s).inlet i).untallied = (s.inlet i).untallied := by
  have stock : (handOnStock h leaves s).inlet i = s.inlet i :=
    congrFun (inlet_of_inlets ((handOnStock_moves h leaves s).same .inlets)) i
  set x := forEach ((handOnStock h leaves s).inletsTripped h) (stopInlet .trip) (handOnStock h leaves s) with hx
  have inlets : x.inlet i = s.inlet i := by
    refine forEach_invariant (P := fun u => u.inlet i = s.inlet i) _ _ (fun j u hu => ?_) _ stock
    by_cases same : j = i
    · subst same
      have still : stopInlet .trip j u = u := by simp only [stopInlet, show (u.inlet j).state = .settling by rw [hu]; exact settles]
      rw [still, hu]
    · rw [stopInlet_inlet_ne .trip u same, hu]
  rw [handOn_eq, ← hx, ← inlets]
  exact ((State.SameButTallies.forEach _ _ (fun p s => stopPoint_tallies none .trip p s) x).trans (handReports_tallies _)).inlet i

theorem handCause_settling {i : InletId} {s : State} (settles : (s.inlet i).state = .settling) (h : Handing) :
    ((handCause h s).inlet i).untallied = (s.inlet i).untallied := by
  obtain ⟨x, before, after⟩ := handCause_around h s
  have first : x.inlet i = s.inlet i := congrFun (inlet_of_inlets (before.same .inlets)) i
  rw [congrFun (inlet_of_inlets (after.same .inlets)) i, handOn_settling (by rw [first]; exact settles), first]

section
variable {i : InletId} {s : State} {d : Delivery} {w : Working} {due : Nat} (running : (s.inlet i).stopDue = some due)
  (delivery : (s.inlet i).delivery = some d) (working : (s.inlet i).meter.working = some w) (reading : Option Int)
include running delivery working

/-- R96: an inlet's stop timer with no pulse in the last second. -/
theorem inletStopTimer_dry (dry : ¬∃ x ∈ (s.inlet i).meter.lastPulse, (s.reach due).clock < x + 1000) :
    ∃ tally, inletStopTimerEvent i reading s = handReports (inletStopExpires i reading false (s.reach due)) ∧
      (handReports (inletStopExpires i reading false (s.reach due))).latch = s.latch ∧
      (handReports (inletStopExpires i reading false (s.reach due))).inlet i = (s.inlet i).settling
        { d.settling (windowResult (s.inlet i).meter w reading true) false with tally := tally }
        ((s.reach due).clock + (s.inletSet i).settleTime * 60000) := by
  set now := s.reach due
  have unit : now.inlet i = s.inlet i := congrFun (inlet_of_inlets (State.reach_inlets ..)) i
  have sets : now.inletSet i = s.inletSet i := by rw [State.inletSet, State.reach_store]; rfl
  have held : (now.inlet i).delivery = some d := by rw [unit, delivery]
  have stopped := inletStopExpires_inlet held (by rw [unit]; exact working) reading false
  rw [unit, sets] at stopped
  obtain ⟨tally, eq⟩ := (handReports_tallies (inletStopExpires i reading false now)).some (i := i) (by rw [stopped]; rfl)
  refine ⟨tally, (inletStopTimerEvent_due running delivery reading).trans (if_neg dry), ?_, by rw [eq, stopped]; rfl⟩
  exact latch_of_shutdown ((handReports_shutdown _).trans
    ((inletStopExpires_moves reading false (by rw [held]; rfl)).shutdown.trans (State.reach_shutdown ..)))

/-- R96, R149: an inlet's stop timer with a pulse in the last second, which hands VALVE_LEAK to the bund of the tank. -/
theorem inletStopTimer_leak (leaks : ∃ x ∈ (s.inlet i).meter.lastPulse, (s.reach due).clock < x + 1000) :
    ∃ (h : Handing) (y : State) (tally : Int), h.latch = .bund (s.tankSet d.tank).bund ∧ h.cause = .valveLeak ∧ y.latch = s.latch ∧
      inletStopTimerEvent i reading s = handCause h y ∧
      (handCause h y).inlet i = (s.inlet i).settling
        { d.settling (windowResult (s.inlet i).meter w reading true) true with tally := tally }
        ((s.reach due).clock + (s.inletSet i).settleTime * 60000) := by
  obtain ⟨n, found⟩ := findingEvent_eq (fun s => handReports (inletStopExpires i reading true s)) (.bund (s.tankSet d.tank).bund)
    .valveLeak (s.reach due)
  set now := (s.reach due).marked true with hnow
  have unit : now.inlet i = s.inlet i := congrFun (inlet_of_inlets (State.reach_inlets ..)) i
  have sets : now.inletSet i = s.inletSet i := by rw [State.inletSet, hnow, State.marked, State.reach_store]; rfl
  have held : (now.inlet i).delivery = some d := by rw [unit, delivery]
  have stopped := inletStopExpires_inlet held (by rw [unit]; exact working) reading true
  rw [unit, sets] at stopped
  set x := inletStopExpires i reading true now with hx
  have quiet : Moves _ _ now x := inletStopExpires_moves reading true (by rw [held]; rfl)
  have reported : (((handReports x).marked false).inlet i).untallied = (x.inlet i).untallied := (handReports_tallies x).inlet i
  have shutdown : ((handReports x).marked false).shutdown = s.shutdown :=
    (handReports_shutdown x).trans (quiet.shutdown.trans (State.reach_shutdown ..))
  generalize (handReports x).marked false = y at *
  have state : (y.inlet i).state = .settling := by
    have : (y.inlet i).state = (x.inlet i).state := (congrArg InletUnit.state reported :)
    rw [this, stopped]
    rfl
  set h : Handing := { handing (.bund (s.tankSet d.tank).bund) .valveLeak none with already := n } with hh
  obtain ⟨tally, eq⟩ := InletUnit.debited ((handCause_settling state h).trans reported) (by rw [stopped]; rfl)
  exact ⟨h, y, tally, rfl, rfl, latch_of_shutdown shutdown, ((inletStopTimerEvent_due running delivery reading).trans (if_pos leaks)).trans found,
    by rw [eq, stopped]; rfl⟩

end

/-- Settles O56. -/
theorem stopTimers : Obligations.StopTimers := by
  refine ⟨fun p reading s ready rests => ?_, fun i reading s ready rests => ?_,
    fun p reading o c w due s ready => ?_, fun i reading d w due s ready => ?_⟩
  · have still : stopTimerEvent p reading s = s := by simp only [stopTimerEvent, rests]
    exact congrArg Host.Outcome.next ((takeEvent_eq ready.1 (by rw [still]; exact ready.2)).trans still)
  · have still : inletStopTimerEvent i reading s = s := by simp only [inletStopTimerEvent, rests]
    exact congrArg Host.Outcome.next ((takeEvent_eq ready.1 (by rw [still]; exact ready.2)).trans still)
  · intro u stops order cause working running now r leak
    have unit : now.point p = u := congrFun (point_of_points (State.reach_points ..)) p
    have latches : now.latch = s.latch := latch_of_shutdown (State.reach_shutdown ..)
    have event := stopTimerEvent_due running reading
    by_cases leaks : leak
    · rw [if_pos leaks] at event
      obtain ⟨n, found⟩ := findingEvent_eq (pointStopExpires p reading true) (.point p) .valveLeak now
      obtain ⟨x, more, last, number, point, term, gross, net, time, secondaries, closed, handed⟩ :=
        pointStopExpires_closes (s := now.marked true) (p := p) (show (now.point p).state = _ by rw [unit]; exact stops)
          (show (now.point p).order = some o by rw [unit]; exact order) (show (now.point p).meter.working = _ by rw [unit]; exact working) reading true
      have unitMarked : (now.marked true).point p = u := unit
      set y := pointStopExpires p reading true (now.marked true) with hy
      have quiet := pointStopExpires_moves p reading true (now.marked true)
      obtain ⟨journal, still⟩ := handCause_point_idle (p := p) (c := .valveLeak) (n := n) (s := y.marked false)
        (show (y.point p).state = _ by rw [closed]; rfl) handed
      have shutdown : (y.marked false).shutdown = now.shutdown := quiet.shutdown
      have before : (y.marked false).latch = s.latch := (latch_of_shutdown shutdown).trans latches
      set h : Handing := { handing (.point p) .valveLeak none with already := n } with hh
      have latch (z : LatchId) (other : z ≠ .point p) : (handCause h (y.marked false)).latch z = s.latch z := by
        rw [handCause_latch, if_neg (show ¬h.latch = z from Ne.symm other), before]
      refine ⟨handCause h (y.marked false), x, congrArg Host.Outcome.next ((takeEvent_eq ready.1 ?_).trans (event.trans found)),
        by rw [journal]; exact last, number, point,
        by rw [term, cause]; rfl, by rw [gross, unitMarked], by rw [net, unitMarked], time, ?_, ?_, ?_, ?_, ?_, latch,
        fun calm => absurd leaks calm, fun _ => ⟨?_, fun normal => ?_, fun other room => ?_⟩⟩
      · rw [event, found]; exact handCause_reports ..
      · rw [still]; exact congrArg PointUnit.state closed
      · rw [still]; exact congrArg PointUnit.order closed
      · rw [still]; exact congrArg PointUnit.valve closed
      · rw [still]; exact congrArg (fun u => u.meter.working) closed
      · rw [still]; exact congrArg PointUnit.stopDue closed
      · exact decide_eq_true (handCause_isSet h (y.marked false))
      · exact handCause_first (h := h) (by rw [before]; exact normal)
      · rw [secondaries, if_pos rfl]
        exact List.mem_append_left _ (mem_addCause (by rw [cause]; exact fun e => other (Option.some.inj e)) room)
    · rw [if_neg leaks] at event
      obtain ⟨x, more, last, number, point, term, gross, net, time, secondaries, closed, handed⟩ :=
        pointStopExpires_closes (s := now) (by rw [unit]; exact stops) (by rw [unit]; exact order) (by rw [unit]; exact working) reading false
      have shutdown := (pointStopExpires_moves p reading false now).shutdown
      have same : (pointStopExpires p reading false now).latch = s.latch := (latch_of_shutdown shutdown).trans latches
      refine ⟨_, x, congrArg Host.Outcome.next ((takeEvent_eq ready.1 (by rw [event]; exact handed)).trans event), last, number, point,
        by rw [term, cause]; rfl, by rw [gross, unit], by rw [net, unit], time, by rw [closed]; rfl, by rw [closed]; rfl,
        by rw [closed]; rfl, by rw [closed]; rfl, by rw [closed]; rfl, fun y _ => by rw [same], fun _ => by rw [same],
        fun h => absurd h leaks⟩
  · intro u stops delivery working running now r bund leak
    by_cases leaks : leak
    · obtain ⟨h, y, tally, latch, cause, before, event, eq⟩ := inletStopTimer_leak running delivery working reading leaks
      have latch : h.latch = bund := latch
      refine ⟨handCause h y, _, congrArg Host.Outcome.next ((takeEvent_eq ready.1 (by rw [event]; exact handCause_reports ..)).trans event),
        congrArg InletUnit.delivery eq, rfl, rfl, rfl, rfl, rfl, rfl, by rw [eq]; rfl, by rw [eq]; rfl, by rw [eq]; rfl, by rw [eq]; rfl, by rw [eq]; rfl,
        fun z other => ?_, fun calm => absurd leaks calm, fun _ => ⟨?_, fun normal => ?_, fun other room => ?_⟩⟩
      · rw [handCause_latch, if_neg (by rw [latch]; exact Ne.symm other), before]
      · exact decide_eq_true (latch ▸ handCause_isSet h y)
      · rw [← before, ← latch] at normal
        rw [← latch, handCause_first normal, cause]
      · exact mem_addCause other room
    · obtain ⟨tally, event, same, eq⟩ := inletStopTimer_dry running delivery working reading leaks
      refine ⟨_, _, congrArg Host.Outcome.next ((takeEvent_eq ready.1 (by rw [event]; exact handReports_reports _)).trans event),
        congrArg InletUnit.delivery eq, rfl, rfl, rfl, rfl, rfl, rfl, by rw [eq]; rfl, by rw [eq]; rfl, by rw [eq]; rfl, by rw [eq]; rfl, by rw [eq]; rfl,
        fun z _ => by rw [same], fun _ => by rw [same], fun h => absurd h leaks⟩

end Sys2Proof.Machine

/-! # Releases of trips, with the chain checks of the products they concern -/

namespace Sys2Proof.Machine

open Sys2Proof

/-! ## Chain checks one after the other (R69, R70) -/

/-- R69, R70: draw tanks have moved, with their notices and their exhaustion reports, and nothing else has changed. -/
structure State.DrawsMoved (s t : State) : Prop where
  rest : t = { s with
    stock := { s.stock with draws := t.stock.draws, reports := t.stock.reports }
    links := t.links }
  noticed : s.Noticed t

theorem State.DrawsMoved.refl (s : State) : s.DrawsMoved s := ⟨rfl, .of_links rfl⟩

theorem State.DrawsMoved.trans {s t u : State} (h : s.DrawsMoved t) (h' : t.DrawsMoved u) : s.DrawsMoved u :=
  ⟨by rw [h'.rest, h.rest], h.noticed.trans h'.noticed⟩

theorem State.DrawsMoved.eligible {s t : State} (h : s.DrawsMoved t) : t.eligible = s.eligible := by
  rw [h.rest]
  rfl

theorem State.DrawsMoved.drawAfter {s t : State} (h : s.DrawsMoved t) {k : ProductId} (same : t.draw k = s.draw k)
    (fromStart : Bool) : t.drawAfter k fromStart = s.drawAfter k fromStart := by
  have chain : t.productSet k = s.productSet k := by rw [h.rest]; rfl
  simp only [State.drawAfter, State.firstEligible, h.eligible, same, chain]

theorem chainCheck_drawsMoved (k : ProductId) (fromStart : Bool) (s : State) : s.DrawsMoved (chainCheck k fromStart s) := by
  refine ⟨?_, chainCheck_noticed k fromStart s⟩
  have posts (d : Draw → Draw) (n : Notice) : (s.updDraw k d).post n = { s with
      stock := { s.stock with draws := ((s.updDraw k d).post n).stock.draws }
      links := ((s.updDraw k d).post n).links } := by
    have post := post_same n (s.updDraw k d)
    generalize (s.updDraw k d).post n = t at post ⊢
    rw [post]
    rfl
  unfold chainCheck
  generalize s.drawAfter k fromStart = new
  cases hold : (s.draw k).current with
  | none =>
    cases new with
    | none => rw [moveDraw_none hold]
    | some t =>
      rw [moveDraw_found hold]
      have moved := posts (fun d => { d with current := some t }) (.drawChanged k none t)
      generalize (s.updDraw k _).post _ = u at moved ⊢
      rw [moved]
  | some old =>
    cases new with
    | none =>
      rw [moveDraw_exhausted hold]
      have moved := posts (fun _ => ⟨none, some old⟩) (.productEmpty k old (s.exhaustionReason k))
      generalize (s.updDraw k _).post _ = u at moved ⊢
      rw [moved]
    | some t =>
      by_cases same : t = old
      · subst same
        rw [moveDraw_same hold]
      · rw [moveDraw_next hold same]
        have moved := posts (fun _ => ⟨some t, some old⟩) (.drawChanged k (some old) t)
        generalize (s.updDraw k _).post _ = u at moved ⊢
        rw [moved]

theorem chainCheck_draw_ne {k j : ProductId} (ne : k ≠ j) (fromStart : Bool) (s : State) :
    (chainCheck k fromStart s).draw j = s.draw j := by rw [chainCheck_draw, if_neg ne]

theorem chainChecks_drawsMoved (ks : List ProductId) (s : State) : s.DrawsMoved (forEach ks (fun k => chainCheck k false) s) :=
  forEach_induction (P := s.DrawsMoved) (fun k _ u hu => hu.trans (chainCheck_drawsMoved k false u)) (.refl s)

theorem chainChecks_draw_out {ks : List ProductId} {j : ProductId} (out : j ∉ ks) (s : State) :
    (forEach ks (fun k => chainCheck k false) s).draw j = s.draw j :=
  forEach_induction (P := fun u => u.draw j = s.draw j)
    (fun _ hk u hu => (chainCheck_draw_ne (ne_of_mem_of_not_mem hk out) false u).trans hu) rfl

/-- R69: each of several chain checks finds what it would find alone. -/
theorem chainChecks_draw {ks : List ProductId} (distinct : ks.Nodup) {j : ProductId} (mem : j ∈ ks) (s : State) :
    (forEach ks (fun k => chainCheck k false) s).draw j = (chainCheck j false s).draw j := by
  obtain ⟨as, bs, before, after, round⟩ := forEach_round distinct mem (fun k => chainCheck k false)
  have same := chainChecks_draw_out before s
  rw [round, chainChecks_draw_out after, chainCheck_draw, chainCheck_draw, if_pos rfl, if_pos rfl, same,
    (chainChecks_drawsMoved as s).drawAfter same]

/-- R70: chain checks that leave no product empty hand no report. -/
theorem chainChecks_reports {ks : List ProductId} (distinct : ks.Nodup) {s : State}
    (held : ∀ j ∈ ks, (s.draw j).current.isSome → (s.drawAfter j false).isSome) :
    (forEach ks (fun k => chainCheck k false) s).stock.reports = s.stock.reports := by
  induction ks generalizing s with
  | nil => rfl
  | cons k ks ih =>
    rw [List.nodup_cons] at distinct
    refine (ih distinct.2 fun j hj draws => ?_).trans ?_
    · have same := chainCheck_draw_ne (ne_of_mem_of_not_mem hj distinct.1).symm false s
      rw [(chainCheck_drawsMoved k false s).drawAfter same]
      exact held j (List.mem_cons_of_mem k hj) (same ▸ draws)
    · rw [chainCheck_reports, if_neg, List.append_nil]
      rintro ⟨draws, empty⟩
      have some := held k List.mem_cons_self draws
      rw [empty] at some
      cases some

/-! ## The notices of chain checks (R70, R189, R190) -/

theorem post_length (n : Notice) (s : State) (l : Link) : ((s.post n).link l).queue.length ≤ (s.link l).queue.length + 1 := by
  rw [link_post]
  unfold LinkUnit.enqueue LinkUnit.lineAt
  split
  · split <;> simp
  · omega

theorem chainCheck_length (k : ProductId) (fromStart : Bool) (s : State) (l : Link) :
    ((chainCheck k fromStart s).link l).queue.length ≤ (s.link l).queue.length + 1 := by
  have posts (d : Draw → Draw) (n : Notice) := post_length n (s.updDraw k d) l
  unfold chainCheck moveDraw
  split
  · split
    · exact Nat.le_succ _
    · exact posts ..
  · exact posts ..
  · exact posts ..
  · exact Nat.le_succ _

/-- R70: DRAW_CHANGED stands in the queue of a link with room that subscribes to it. -/
theorem chainCheck_queue {k : ProductId} {fromStart : Bool} {s : State} {l : Link} {t : TankId}
    (subscribes : (look s.store.links l).classes.stock = true) (room : (s.link l).queue.length < 16)
    (other : (s.draw k).current ≠ some t) (found : s.drawAfter k fromStart = some t) :
    ⟨.drawChanged k (s.draw k).current t, s.seconds⟩ ∈ ((chainCheck k fromStart s).link l).queue := by
  have posts (d : Draw → Draw) (old : Option TankId) :
      ⟨.drawChanged k old t, s.seconds⟩ ∈ (((s.updDraw k d).post (.drawChanged k old t)).link l).queue := by
    rw [post_queue (.drawChanged k old t) (s.updDraw k d) l subscribes room]
    exact List.mem_append_right _ (List.mem_singleton_self _)
  unfold chainCheck
  rw [found]
  cases hold : (s.draw k).current with
  | none => rw [moveDraw_found hold]; exact posts ..
  | some old => rw [moveDraw_next hold fun same => other (by rw [hold, same])]; exact posts ..

theorem chainChecks_length (ks : List ProductId) (s : State) (l : Link) :
    ((forEach ks (fun k => chainCheck k false) s).link l).queue.length ≤ (s.link l).queue.length + ks.length := by
  induction ks generalizing s with
  | nil => exact Nat.le_refl _
  | cons k ks ih =>
    have head := chainCheck_length k false s l
    have rest := ih (chainCheck k false s)
    rw [List.length_cons]
    exact rest.trans (by omega)

theorem chainChecks_queue {ks : List ProductId} (distinct : ks.Nodup) {k : ProductId} (mem : k ∈ ks) {s : State} {l : Link}
    {t : TankId} (subscribes : (look s.store.links l).classes.stock = true) (room : (s.link l).queue.length + ks.length ≤ 16)
    (other : (s.draw k).current ≠ some t) (found : s.drawAfter k false = some t) :
    ⟨.drawChanged k (s.draw k).current t, s.seconds⟩ ∈ ((forEach ks (fun k => chainCheck k false) s).link l).queue := by
  obtain ⟨as, bs, rfl⟩ := List.append_of_mem mem
  rw [List.nodup_append, List.nodup_cons] at distinct
  obtain ⟨-, -, apart⟩ := distinct
  rw [List.length_append, List.length_cons] at room
  have before := chainChecks_drawsMoved as s
  have same := chainChecks_draw_out (fun mem => apart k mem k List.mem_cons_self rfl) s
  have length := chainChecks_length as s l
  rw [forEach_append]
  generalize forEach as (fun k => chainCheck k false) s = u at before same length
  have store : u.store = s.store := by rw [before.rest]
  have seconds : u.seconds = s.seconds := by rw [before.rest]; rfl
  have posted := chainCheck_queue (fromStart := false) (s := u) (l := l) (store ▸ subscribes) (by omega) (same ▸ other)
    ((before.drawAfter same false).trans found)
  rw [same, seconds] at posted
  exact ((chainChecks_drawsMoved bs (chainCheck k false u)).noticed l).queue.subset posted

theorem startHead_rest (s : State) : startHead s = { s with pumps := (startHead s).pumps } := by
  unfold startHead
  split
  · rfl
  · split <;> rfl

/-! ## A latch released (R154, R159) -/

/-- R154: a latch emptied, its trip log entry closed by the link that releases it. -/
def State.latchEmptied (s : State) (x : LatchId) (l : Link) : State :=
  (changeEntry (s.latch x).trip (fun e => { e with releaseTime := some s.seconds, releaseLink := some l }) s).setLatch x .clear

theorem latchEmptied_rest (s : State) (x : LatchId) (l : Link) : s.latchEmptied x l =
    { s with shutdown := { (s.setLatch x .clear).shutdown with log := (s.latchEmptied x l).shutdown.log } } := by
  cases x <;> rfl

theorem latchEmptied_log (s : State) (x : LatchId) (l : Link) : (s.latchEmptied x l).shutdown.log =
    s.shutdown.log.map fun e =>
      if (s.latch x).trip = some e.number then { e with releaseTime := some s.seconds, releaseLink := some l } else e := by
  cases x <;> rfl

theorem latchEmptied_latch (s : State) (x y : LatchId) (l : Link) :
    (s.latchEmptied x l).latch y = if x = y then .clear else s.latch y :=
  latch_setLatch ..

theorem latchEmptied_eligible (s : State) (x : LatchId) (l : Link) :
    (s.latchEmptied x l).eligible = (s.setLatch x .clear).eligible := by
  cases x <;> rfl

theorem latchEmptied_drawAfter (s : State) (x : LatchId) (l : Link) (k : ProductId) (fromStart : Bool) :
    (s.latchEmptied x l).drawAfter k fromStart = (s.setLatch x .clear).drawAfter k fromStart := by
  cases x <;> rfl

/-- R159: a latch emptied, with its notice and the chain checks of the products that it concerns. -/
def State.drawsReleased (s : State) (x : LatchId) (l : Link) : State :=
  checkProducts x ((s.latchEmptied x l).post (.tripReleased x ((s.latch x).trip.getD 0) l))

theorem releaseLatch_eq (x : LatchId) (l : Link) (s : State) : releaseLatch x l s =
    if x = .bay then startHead (s.drawsReleased x l) else s.drawsReleased x l := rfl

section
variable (s : State) (x : LatchId) (l : Link)

theorem productsOf_nodup : (s.productsOf x).Nodup := List.Nodup.filter _ (by decide)

theorem released_posted : ∃ r : State, SameButLinks (s.latchEmptied x l) r ∧ (s.latchEmptied x l).Noticed r ∧
    (∀ n, (s.link n).queue.length ≤ 15 → (look s.store.links n).classes.shutdown = true → ∀ trip, (s.latch x).trip = some trip →
      ⟨.tripReleased x trip l, s.seconds⟩ ∈ (r.link n).queue) ∧
    (∀ n, (r.link n).queue.length ≤ (s.link n).queue.length + 1) ∧
    s.drawsReleased x l = forEach (s.productsOf x) (fun k => chainCheck k false) r := by
  have links : (s.latchEmptied x l).links = s.links := by rw [latchEmptied_rest]
  have store : (s.latchEmptied x l).store = s.store := by rw [latchEmptied_rest]
  have seconds : (s.latchEmptied x l).seconds = s.seconds := by rw [latchEmptied_rest]; rfl
  have same := post_same (.tripReleased x ((s.latch x).trip.getD 0) l) (s.latchEmptied x l)
  refine ⟨_, same, post_noticed _ _, fun n room subscribes trip held => ?_, fun n => ?_, ?_⟩
  · have queue := post_queue (.tripReleased x ((s.latch x).trip.getD 0) l) (s.latchEmptied x l) n (store ▸ subscribes)
      (by rw [State.link, links]; exact Nat.lt_succ_of_le room)
    rw [queue, held, seconds]
    exact List.mem_append_right _ (List.mem_singleton_self _)
  · have length := post_length (.tripReleased x ((s.latch x).trip.getD 0) l) (s.latchEmptied x l) n
    have link : (s.latchEmptied x l).link n = s.link n := by rw [State.link, links]; rfl
    rwa [link] at length
  · have products : ((s.latchEmptied x l).post (.tripReleased x ((s.latch x).trip.getD 0) l)).productsOf x = s.productsOf x := by
      rw [same, latchEmptied_rest]
      rfl
    exact congrArg (fun ks => forEach ks (fun k => chainCheck k false) _) products

theorem drawsReleased_rest : s.drawsReleased x l = { s with
    shutdown := (s.latchEmptied x l).shutdown
    stock := { s.stock with draws := (s.drawsReleased x l).stock.draws, reports := (s.drawsReleased x l).stock.reports }
    links := (s.drawsReleased x l).links } := by
  obtain ⟨r, same, -, -, -, checks⟩ := released_posted s x l
  have emptied : s.latchEmptied x l = { s with shutdown := (s.latchEmptied x l).shutdown } := by rw [latchEmptied_rest]
  have moved := (chainChecks_drawsMoved (s.productsOf x) r).rest
  rw [← checks] at moved
  generalize s.drawsReleased x l = t at moved ⊢
  generalize s.latchEmptied x l = e at same emptied ⊢
  rw [moved, same, emptied]

/-- R159: what the release of a latch finds for a product. -/
theorem released_drawAfter {r : State} (same : SameButLinks (s.latchEmptied x l) r) (k : ProductId) :
    r.drawAfter k false = (s.setLatch x .clear).drawAfter k false ∧ r.draw k = s.draw k := by
  have draws : (s.latchEmptied x l).draw k = s.draw k := by rw [latchEmptied_rest]; rfl
  rw [← latchEmptied_drawAfter s x l, ← draws]
  generalize s.latchEmptied x l = e at same
  rw [same]
  exact ⟨rfl, rfl⟩

theorem drawsReleased_draw (j : ProductId) : (s.drawsReleased x l).draw j =
    if j ∈ s.productsOf x then (chainCheck j false (s.setLatch x .clear)).draw j else s.draw j := by
  obtain ⟨r, same, -, -, -, checks⟩ := released_posted s x l
  obtain ⟨finds, draw⟩ := released_drawAfter s x l same j
  have before : (s.setLatch x .clear).draw j = s.draw j := by cases x <;> rfl
  rw [checks]
  split
  · next mem =>
    rw [chainChecks_draw (productsOf_nodup s x) mem, chainCheck_draw, chainCheck_draw, if_pos rfl, if_pos rfl, finds, draw, before]
  · next out => rw [chainChecks_draw_out out, draw]

theorem drawsReleased_reports
    (held : ∀ j ∈ s.productsOf x, (s.draw j).current.isSome → ((s.setLatch x .clear).drawAfter j false).isSome) :
    (s.drawsReleased x l).stock.reports = s.stock.reports := by
  obtain ⟨r, same, -, -, -, checks⟩ := released_posted s x l
  have reports : r.stock.reports = s.stock.reports := by rw [same, latchEmptied_rest]
  rw [checks, ← reports]
  refine chainChecks_reports (productsOf_nodup s x) fun j mem draws => ?_
  obtain ⟨finds, draw⟩ := released_drawAfter s x l same j
  rw [finds]
  exact held j mem (draw ▸ draws)

theorem drawsReleased_noticed : s.Noticed (s.drawsReleased x l) := by
  obtain ⟨r, -, noticed, -, -, checks⟩ := released_posted s x l
  rw [checks]
  refine State.Noticed.trans (noticed.once ?_) (chainChecks_drawsMoved _ r).noticed
  rw [latchEmptied_rest]

/-- R154, R159: the notices of a release. -/
theorem drawsReleased_queue {n : Link} (room : (s.link n).queue.length ≤ 7) :
    ((look s.store.links n).classes.shutdown = true → ∀ trip, (s.latch x).trip = some trip →
      ⟨.tripReleased x trip l, s.seconds⟩ ∈ ((s.drawsReleased x l).link n).queue) ∧
    ((look s.store.links n).classes.stock = true → ∀ j ∈ s.productsOf x, ∀ k, (s.draw j).current ≠ some k →
      (s.setLatch x .clear).drawAfter j false = some k →
      ⟨.drawChanged j (s.draw j).current k, s.seconds⟩ ∈ ((s.drawsReleased x l).link n).queue) := by
  obtain ⟨r, same, -, posted, length, checks⟩ := released_posted s x l
  have store : r.store = s.store := by rw [same, latchEmptied_rest]
  have seconds : r.seconds = s.seconds := by rw [same, latchEmptied_rest]; rfl
  rw [checks]
  refine ⟨fun subscribes trip held => ?_, fun subscribes j mem k other finds => ?_⟩
  · exact ((chainChecks_drawsMoved _ r).noticed n).queue.subset (posted n (room.trans (by decide)) subscribes trip held)
  · obtain ⟨after, draw⟩ := released_drawAfter s x l same j
    have products : (s.productsOf x).length ≤ 8 := (List.length_filter_le ..).trans (by decide)
    have one := length n
    have queue := chainChecks_queue (productsOf_nodup s x) mem (store ▸ subscribes) (by omega) (draw ▸ other) (after.trans finds)
    rwa [draw, seconds] at queue

theorem releaseLatch_rest : releaseLatch x l s = { s with
    shutdown := (s.latchEmptied x l).shutdown
    pumps := (releaseLatch x l s).pumps
    stock := { s.stock with draws := (s.drawsReleased x l).stock.draws, reports := (s.drawsReleased x l).stock.reports }
    links := (s.drawsReleased x l).links } := by
  have draws := drawsReleased_rest s x l
  have started : releaseLatch x l s = { s.drawsReleased x l with pumps := (releaseLatch x l s).pumps } := by
    rw [releaseLatch_eq]
    split
    · exact startHead_rest _
    · rfl
  generalize releaseLatch x l s = u at started ⊢
  rw [started, draws]

theorem releaseLatch_eligible : (releaseLatch x l s).eligible = (s.setLatch x .clear).eligible := by
  have emptied : s.latchEmptied x l = { s with shutdown := (s.latchEmptied x l).shutdown } := by rw [latchEmptied_rest]
  rw [releaseLatch_rest, ← latchEmptied_eligible s x l]
  generalize s.latchEmptied x l = e at emptied
  rw [emptied]
  rfl

theorem drawsReleased_pumps : (s.drawsReleased x l).pumps = s.pumps := by rw [drawsReleased_rest]

/-- R53, R159: the release of the BAY latch lets the head of the start queue start. -/
theorem releaseLatch_pumps_kept
    (h : x ≠ .bay ∨ s.pumps.queue = [] ∨ (∃ m, (s.pump m).state = .starting) ∨ s.pumps.supplyReady = false) :
    (releaseLatch x l s).pumps = s.pumps := by
  have pumps := drawsReleased_pumps s x l
  rw [releaseLatch_eq, ← pumps]
  split
  · next bay =>
    rcases h.resolve_left (not_not_intro bay) with empty | starting | low
    · rw [startHead_empty (by rw [pumps]; exact empty)]
    · rw [startHead_withheld (.inl (by simpa only [State.pump, pumps] using starting))]
    · rw [startHead_withheld (.inr (.inl (by rw [pumps]; exact low)))]
  · rfl

theorem releaseLatch_pumps_started {m : PumpId} {rest : List PumpId} (queue : s.pumps.queue = m :: rest)
    (idle : ∀ k, (s.pump k).state ≠ .starting) (supply : s.pumps.supplyReady = true) :
    (releaseLatch .bay l s).pumps = { s.pumps with
      queue := rest
      units := put s.pumps.units m { s.pump m with
        state := .starting, startDue := some (s.clock + (s.pumpSet m).startTime * 1000), holdDue := none, run := true } } := by
  have free : (s.drawsReleased .bay l).isSet .bay = false := by rw [drawsReleased_rest]; rfl
  rw [releaseLatch_eq, if_pos rfl]
  have frame := drawsReleased_rest s .bay l
  generalize s.drawsReleased .bay l = u at frame free
  have pumps : u.pumps = s.pumps := by rw [frame]
  rw [startHead_starts (pumps ▸ queue) (fun k => by rw [State.pump, pumps]; exact idle k) (pumps ▸ supply) free, frame]
  rfl

end

theorem setLatch_setKey (x : LatchId) (l : Latch) (key : Bool) (s : State) :
    (s.setKey key).setLatch x l = (s.setLatch x l).setKey key := by
  cases x <;> rfl

theorem readLatch_iff (name : Coded LatchName) (x : LatchId) : readLatch name = some x ↔
    name = some (match x with
      | .point p => .point (numberOf p)
      | .bund b => .bund (numberOf b)
      | .bay => .bay) := by
  cases name with
  | none => simp [readLatch]
  | some name => cases name <;> cases x <;> simp [readLatch, numbered_eq_some]

/-- Settles O48. -/
theorem tripReleased : Obligations.TripReleased := by
  refine ⟨readLatch_iff, fun v name key s ready zero release => ?_⟩
  intro refused
  have permitted : ((s.setKey key).perms v.link).release = true := release
  have refuses {status : Status} (h : releaseTripRequest v name (s.setKey key) = refuse status (s.setKey key)) : refused status :=
    congrArg Host.Outcome.next (request_answered (code := 0x41) ready rfl h ready.2 (.inr (hasPart_of_zero zero)))
  refine ⟨fun unread => refuses ?_, fun x read => ?_⟩
  · simp only [releaseTripRequest, permitted, unread, Bool.not_true, Bool.false_eq_true, if_false]
  intro l
  have checks : releaseTripRequest v name (s.setKey key) = checked
      [(decide (l.state = .normal), .notTripped), (decide (l.state = .tripped), .stillActive), (x = .bay && !key, .keyRequired)]
      (fun s => done (releaseLatch x v.link s)) (s.setKey key) := by
    simp only [releaseTripRequest, permitted, read, Bool.not_true, Bool.false_eq_true, if_false]
    rfl
  refine ⟨fun normal => refuses ?_, fun tripped => refuses ?_, fun clearable bay unkeyed => refuses ?_, fun clearable keyed => ?_⟩
  · rw [checks, checked_some (st := .notTripped) (by simp [firstFailure, normal])]
  · rw [checks, checked_some (st := .stillActive) (by simp [firstFailure, tripped])]
  · rw [checks, checked_some (st := .keyRequired) (by simp [firstFailure, clearable, bay, unkeyed])]
  intro log cleared concerned chain withheld
  set u := releaseLatch x v.link (s.setKey key) with hu
  have accepted : releaseTripRequest v name (s.setKey key) = done u := by
    rw [checks, checked_none, hu]
    rcases keyed with other | keyed
    · simp [firstFailure, clearable, other]
    · simp [firstFailure, clearable, keyed]
  have frame := releaseLatch_rest (s.setKey key) x v.link
  rw [← hu] at frame
  have concerns (j : ProductId) : concerned j ↔ j ∈ (s.setKey key).productsOf x := by
    rw [mem_productsOf]
    simp only [mem_tanksOf]
    cases x with
    | point p => simp [concerned]
    | bund b => simp [concerned, and_comm, eq_comm]; rfl
    | bay => simp [concerned]; rfl
  have shutdown : u.shutdown = { cleared.shutdown with log := log, resetKey := key } := by
    rw [frame, latchEmptied_rest, latchEmptied_log]
    cases x <;> rfl
  have latches (y : LatchId) : (handReports u).latch y = if x = y then .clear else s.latch y := by
    have same : (handReports u).latch y = cleared.latch y := by
      cases y <;> simp only [State.latch, handReports_shutdown, shutdown]
    exact same.trans (latch_setLatch ..)
  refine ⟨handReports u, congrArg Host.Outcome.next (request_taken (code := 0x41) ready rfl zero accepted),
    by rw [latches, if_pos rfl]; rfl, fun y other => by rw [latches, if_neg other.symm], (handReports_shutdown u).trans shutdown,
    ?_, ?_, fun held => ?_⟩
  · rw [handReports_mode, frame]; rfl
  · rw [(handReports_moves u).store, frame]; rfl
  have finds (j : ProductId) : ((s.setKey key).setLatch x .clear).drawAfter j false = cleared.drawAfter j false := by
    rw [setLatch_setKey]
    rfl
  have keeps : ∀ j ∈ (s.setKey key).productsOf x, ((s.setKey key).draw j).current.isSome →
      (((s.setKey key).setLatch x .clear).drawAfter j false).isSome := fun j mem draws => by
    rw [finds, ← chainCheck_current]
    exact held j ((concerns j).2 mem) draws
  have reports : u.stock.reports = [] := by
    rw [frame]
    exact (drawsReleased_reports (s.setKey key) x v.link keeps).trans ready.2
  rw [handReports_none reports]
  have same (j : ProductId) : cleared.draw j = s.draw j := by cases x <;> rfl
  have draw (j : ProductId) : u.draw j = if j ∈ (s.setKey key).productsOf x then
      (chainCheck j false ((s.setKey key).setLatch x .clear)).draw j else s.draw j := by
    have same : u.draw j = ((s.setKey key).drawsReleased x v.link).draw j := by rw [frame]; rfl
    rw [same, drawsReleased_draw]
    rfl
  have checked (j : ProductId) (mem : concerned j) : u.draw j = (s.draw j).moved (cleared.drawAfter j false) := by
    rw [draw, if_pos ((concerns j).1 mem), chainCheck_draw, if_pos rfl, finds, setLatch_setKey]
    exact congrArg (Draw.moved · _) (same j)
  have eligible : u.eligible = cleared.eligible := by
    rw [hu, releaseLatch_eligible, setLatch_setKey]
    rfl
  refine ⟨fun j out => by rw [draw, if_neg fun mem => out ((concerns j).2 mem)], fun j mem => ⟨?_, fun free => ?_, fun old holds in_ serves => ?_⟩,
    fun stays => ?_, fun bay starts m rest queue => ?_, fun n room => ?_, fun n => ?_, ?_⟩
  · rw [checked j mem, chainCheck_draw, if_pos rfl, same]
  · rw [checked j mem, eligible]
    rw [drawAfter_first (.inl ((congrArg Draw.current (same j)).trans free)), Draw.moved, free]
    have product : cleared.productSet j = s.productSet j := by cases x <;> rfl
    rw [product]
    split
    · next empty => rw [← empty]
    · rfl
  · have set : cleared.productSet j = s.productSet j := by cases x <;> rfl
    rw [checked j mem, drawAfter_stays ((congrArg Draw.current (same j)).trans holds) (set ▸ in_) (eligible ▸ serves), Draw.moved,
      if_pos holds, ← holds]
  · exact releaseLatch_pumps_kept (s.setKey key) x v.link stays
  · subst bay
    have idle (k : PumpId) : (s.pump k).state ≠ .starting := fun h => starts (.inl ⟨k, h⟩)
    have supply : s.pumps.supplyReady = true := Bool.eq_true_of_not_eq_false fun h => starts (.inr h)
    exact (releaseLatch_pumps_started (s.setKey key) v.link queue idle supply).trans rfl
  · have queue := drawsReleased_queue (s.setKey key) x v.link (n := n) room
    have link : u.link n = ((s.setKey key).drawsReleased x v.link).link n := by rw [frame]; rfl
    rw [link]
    refine ⟨queue.1, fun subscribes j k mem other moved => ?_⟩
    refine queue.2 subscribes j ((concerns j).1 mem) k other ?_
    rw [finds, ← moved, checked j mem]
    rfl
  · have link : u.link n = ((s.setKey key).drawsReleased x v.link).link n := by rw [frame]; rfl
    rw [link]
    exact (drawsReleased_noticed (s.setKey key) x v.link n).rest
  · rw [drawsReleased_reports (s.setKey key) x v.link keeps] at frame
    generalize u = t at frame ⊢
    rw [frame]
    rfl

end Sys2Proof.Machine

/-! # Opening a delivery -/

namespace Sys2Proof.Machine

open Sys2Proof

/-! ## A request taken by a controller that is ready, with the exhaustion reports of its effect (R70) -/

theorem request_handed {v : Via} {code : Nat} {i : Instr} {s t : State} {status : Status} {items : List Item} (ready : s.Ready)
    (awake : wakeBy i s = s) (h : requestAnswer i s = ⟨status, items, t⟩)
    (part : carriesParts status items = false ∨ hasPart v items) :
    serveRequest v code i s = answered v (BitVec.ofNat 8 code) status items (handReports t) := by
  rw [serveRequest_running ready.1, awake]
  exact serve_answered ⟨status, items, handReports t⟩ (by simp only [h, Answer.handed]) part

/-- R70: a report of a product with no order on it changes nothing. -/
theorem handReports_unordered {s : State}
    (h : s.stock.reports = [] ∨ ∃ r : Exhaustion, s.stock.reports = [r] ∧ s.unordered r.product) :
    handReports s = dropReports s := by
  rcases h with none | ⟨r, one, free⟩
  · rw [handReports_none none, dropReports_none none]
  · have untaken := takeReport_unordered (ended := .none) (r := r) (s := dropReports s) free
    refine (handReportsAt_single one ?_).trans untaken
    rw [untaken]
    rfl

/-! ## The order numbers and the mark of the journal through the stops of an event (R19, R174) -/

/-- R19, R174: the next order number and the mark of the journal stand. -/
def State.SameMarks (s t : State) : Prop := t.journal.nextOrder = s.journal.nextOrder ∧ t.journal.mark = s.journal.mark

theorem State.SameMarks.trans {s t u : State} (h : s.SameMarks t) (h' : t.SameMarks u) : s.SameMarks u :=
  ⟨h'.1.trans h.1, h'.2.trans h.2⟩

theorem State.SameMarks.of_journal {s t : State} (h : t.journal = s.journal) : s.SameMarks t := by
  unfold State.SameMarks
  rw [h]
  exact ⟨rfl, rfl⟩

theorem finishClose_marks (p : PointId) (s : State) : s.SameMarks (finishClose p s) := by
  unfold State.SameMarks
  cases order : (s.point p).order with
  | none => rw [finishClose_none order]; exact ⟨rfl, rfl⟩
  | some o => rw [finishClose_journal order]; exact ⟨rfl, rfl⟩

theorem stopPoint_marks (ended : Option PointId) (c : Cause) (p : PointId) (s : State) : s.SameMarks (stopPoint ended c p s) := by
  have closes : s.SameMarks (closeAtOnce ended p c s) := by
    unfold closeAtOnce
    dsimp only
    refine State.SameMarks.trans (.of_journal ?_) (finishClose_marks p _)
    split
    · rfl
    · exact (endWindow_moves p _ _).same .journal
  unfold stopPoint
  split <;> first | exact closes | exact .of_journal rfl

theorem takeReport_marks (ended : Option PointId) (r : Exhaustion) (s : State) : s.SameMarks (takeReport ended r s) := by
  unfold takeReport
  refine forEach_invariant (P := s.SameMarks) _ _ (fun p u hu => ?_) s (.of_journal rfl)
  split
  · exact hu.trans (stopPoint_marks ..)
  · exact hu

theorem handReportsUpTo_marks (ended : Option PointId) (n : Nat) (s : State) : s.SameMarks (handReportsUpTo ended n s) := by
  induction n generalizing s with
  | zero => exact .of_journal rfl
  | succ n ih =>
    unfold handReportsUpTo
    split
    · exact .of_journal rfl
    · next rest _ =>
      exact .trans (.of_journal (t := { s with stock := { s.stock with reports := rest } }) rfl)
        ((takeReport_marks ..).trans (ih _))

theorem handReports_marks (s : State) : s.SameMarks (handReports s) := handReportsUpTo_marks ..

/-! ## The inlets of a delivery that opens (R90, R100) -/

theorem inlets_eq_ofFn (s : State) : s.inlets = Vector.ofFn s.inlet := by
  apply Vector.ext
  intro i hi
  rw [Vector.getElem_ofFn]
  rfl

theorem forEach_updDelivery_inlet (f : Delivery → Delivery) (s : State) (j : InletId) :
    (forEach allInlets (fun i => State.updDelivery i f) s).inlet j = { s.inlet j with delivery := (s.inlet j).delivery.map f } := by
  change ((s.updDelivery 0 f).updDelivery 1 f).inlet j = _
  have two : ∀ i : InletId, i = 0 ∨ i = 1 := by decide
  rcases two j with rfl | rfl
  · rw [inlet_updDelivery, if_neg (by decide), inlet_updDelivery, if_pos rfl]
  · rw [inlet_updDelivery, if_pos rfl, inlet_updDelivery, if_neg (by decide)]

/-- Section 5.9: whether a delivery of another inlet is open on a tank. -/
def State.sharesTank (s : State) (i : InletId) (t : TankId) : Bool :=
  allInlets.any fun j => j ≠ i && (s.inlet j).delivery.any fun d => d.tank = t

theorem sharesTank_iff {s : State} {i : InletId} {t : TankId} :
    s.sharesTank i t = true ↔ ∃ j e, j ≠ i ∧ (s.inlet j).delivery = some e ∧ e.tank = t := by
  simp [State.sharesTank, List.any_eq_true, mem_allInlets, Option.any_eq_true]

section
variable (v : Via) (r : DeliveryRequest) (s : State)

/-- R90: the inlets once a delivery is open and its tank has been found shared, or not. -/
def State.deliveryInlet (j : InletId) : InletUnit :=
  let unit := (s.deliveryOpened v r).inlet j
  if s.sharesTank r.inlet r.tank then { unit with delivery := unit.delivery.map fun d => { d with shared := true } } else unit

theorem markShared_opened : markShared r.tank (s.deliveryOpened v r) =
    { s.deliveryOpened v r with inlets := Vector.ofFn (s.deliveryInlet v r) } := by
  set u := s.deliveryOpened v r with hu
  have mine (j : InletId) : (u.inlet j).delivery.any (fun d => decide (d.tank = r.tank)) =
      (decide (r.inlet = j) || (s.inlet j).delivery.any fun d => d.tank = r.tank) := by
    rw [hu, deliveryOpened_inlet]
    split
    · next same => simp [same, openInlet, newDelivery]
    · next other => simp [other]
  have both : ((u.inlet 0).delivery.any (fun d => decide (d.tank = r.tank)) &&
      (u.inlet 1).delivery.any fun d => decide (d.tank = r.tank)) = s.sharesTank r.inlet r.tank := by
    rw [mine, mine]
    have two : ∀ i : InletId, i = 0 ∨ i = 1 := by decide
    rcases two r.inlet with e | e <;> simp [e, State.sharesTank, allInlets]
  unfold markShared
  dsimp only
  rw [both]
  split
  · next shares =>
    set m := forEach allInlets (fun i => State.updDelivery i fun d => { d with shared := true }) u with hm
    have rest : m = { u with inlets := m.inlets } := rfl
    have marked : m.inlet = s.deliveryInlet v r := by
      funext j
      rw [hm, forEach_updDelivery_inlet]
      simp only [State.deliveryInlet, if_pos shares, ← hu]
    rw [rest, inlets_eq_ofFn, marked]
  · next alone =>
    have same : s.deliveryInlet v r = u.inlet := by
      funext j
      simp only [State.deliveryInlet, if_neg alone]
      rfl
    rw [same, ← inlets_eq_ofFn]

/-- R90: the delivery as it stands in its inlet once it is open. -/
theorem deliveryInlet_self : s.deliveryInlet v r r.inlet = openInlet
    { newDelivery v r s with shared := s.sharesTank r.inlet r.tank }
    (enterMetering (s.inletSet r.inlet).meter (s.productSet r.product).beta s.clock) (s.inlet r.inlet) := by
  unfold State.deliveryInlet
  dsimp only
  rw [deliveryOpened_inlet, if_pos rfl]
  split
  · next shares => rw [shares]; rfl
  · next alone => rw [Bool.eq_false_of_not_eq_true alone]; rfl

theorem deliveryInlet_other {j : InletId} (other : j ≠ r.inlet) : s.deliveryInlet v r j =
    if s.sharesTank r.inlet r.tank then
      { s.inlet j with delivery := (s.inlet j).delivery.map fun d => { d with shared := true } }
    else s.inlet j := by
  unfold State.deliveryInlet
  dsimp only
  rw [deliveryOpened_inlet, if_neg other.symm]

/-- R90: the state in which the chain check of a delivery that opens is run. -/
def State.deliveryBegun : State :=
  { s with
    inlets := Vector.ofFn (s.deliveryInlet v r)
    journal := { s.journal with nextOrder := nextCount s.journal.nextOrder, openCount := s.journal.openCount + 1 } }

theorem acceptDelivery_eq : acceptDelivery v r s =
    ⟨.ok, [item4 s.journal.nextOrder], judgeCurtail (chainCheck r.product false (s.deliveryBegun v r))⟩ := by
  have begun : markShared r.tank (s.deliveryOpened v r) = s.deliveryBegun v r := markShared_opened v r s
  rw [← begun]
  rfl

end

/-- Settles O38. -/
theorem deliveryOpens : Obligations.DeliveryOpens := by
  intro v f r s ready zero w u read passes
  have woken : w.Ready := wake_ready ready
  have checks := firstFailure_eq_none.1 passes
  have clear : w.bay.curtailed = false := checks (w.bay.curtailed, .journalFull) (by simp [deliveryChecks])
  set checked := chainCheck r.product false (w.deliveryBegun v r) with hchecked
  set c := judgeCurtail checked with hc
  have runs : exec (.openDelivery v f) s = .next (answered v 0x18 .ok [item4 w.journal.nextOrder] (handReports c)) := by
    have awake : wakeBy (.openDelivery v f) w = w := wake_wake ..
    have twice : serveRequest v 0x18 (.openDelivery v f) s = serveRequest v 0x18 (.openDelivery v f) w :=
      serveRequest_woken ready.1 woken.1 rfl awake
    change Host.Outcome.next (serveRequest v 0x18 (.openDelivery v f) s) = _
    rw [twice, request_handed (status := .ok) (items := [item4 w.journal.nextOrder]) (t := c) woken awake ?_ (.inr (hasPart_of_zero zero))]
    · rfl
    · change openDeliveryChecked v f (wake _ w) = _
      rw [wake_wake]
      simp only [openDeliveryChecked, read]
      exact (checked_none passes).trans (acceptDelivery_eq v r w)
  have check := chainCheck_moves r.product false (w.deliveryBegun v r)
  have frame := check.andThen (judgeCurtail_moves checked)
  have journal : c.journal = (w.deliveryBegun v r).journal := frame.same .journal
  have points : c.points = w.points := frame.same .points
  have inlet : c.inlet r.inlet = w.deliveryInlet v r r.inlet :=
    (congrFun (inlet_of_inlets (frame.same .inlets)) r.inlet).trans (look_ofFn ..)
  rw [deliveryInlet_self] at inlet
  obtain ⟨tally, unit⟩ := (handReports_tallies c).some (i := r.inlet)
    (d := { newDelivery v r w with shared := w.sharesTank r.inlet r.tank }) (by rw [inlet]; rfl)
  rw [inlet] at unit
  refine ⟨handReports c, _, runs, by rw [unit], rfl, rfl, rfl, rfl, rfl, rfl, rfl, rfl, rfl, rfl, rfl, rfl, rfl, sharesTank_iff,
    ?_, by rw [unit]; rfl, by rw [unit]; rfl, by rw [unit]; rfl, by rw [unit]; rfl, ?_, ?_, ?_, fun free => ?_, ?_⟩
  · rw [State.receiving, List.any_eq_true]
    exact ⟨r.inlet, mem_allInlets _, by rw [unit]; simp [newDelivery]⟩
  · rw [(handReports_marks c).1, journal]; rfl
  · rw [handReports_shutdown, frame.shutdown]; rfl
  · rw [(handReports_moves c).store, frame.store]; rfl
  · have reports : c.stock.reports = [] ∨ ∃ x : Exhaustion, c.stock.reports = [x] ∧ c.unordered x.product := by
      have handed : c.stock.reports = checked.stock.reports := (judgeCurtail_moves checked).same .reports
      have checks := chainCheck_reports r.product false (w.deliveryBegun v r)
      rw [show (w.deliveryBegun v r).stock.reports = [] from woken.2, List.nil_append] at checks
      rw [handed, hchecked, checks]
      split
      · exact .inr ⟨_, rfl, fun p o held => free p o (by rwa [State.point, points] at held)⟩
      · exact .inl rfl
    rw [handReports_unordered reports]
    exact ⟨points, (congrArg Journal.openCount journal :), (congrArg Journal.uncollected journal :)⟩
  · intro meter begun opened other reserve checked' curtailed
    have same : checked' = checked := by
      have units : w.deliveryInlet v r = fun j => if j = r.inlet then opened else other (w.inlet j) := by
        funext j
        by_cases mine : j = r.inlet
        · subst mine
          rw [if_pos rfl, deliveryInlet_self]
          rfl
        · rw [if_neg mine, deliveryInlet_other v r w mine]
      rw [hchecked, State.deliveryBegun, units]
    have judged : curtailed = c := by
      have figures : checked.journal = (w.deliveryBegun v r).journal := check.same .journal
      have before : checked.bay.curtailed = false := (check.same .curtailed).trans clear
      have full : checked.journal.reserve = reserve := congrArg Journal.reserve figures
      have notice : journalHigh true checked.journal = .journalHigh true w.journal.uncollected (w.journal.openCount + 1) reserve := by
        rw [figures]; rfl
      rw [hc, judgeCurtail, full, notice, if_congr (and_iff_left before) rfl rfl, ← same]
      rfl
    rw [judged]
    exact ⟨rfl, handReports_none⟩

end Sys2Proof.Machine

/-! # Opening an order -/

namespace Sys2Proof.Machine

open Sys2Proof

/-! ## What a notice finds of the state (R189) -/

theorem links_eq_ofFn (s : State) : s.links = Vector.ofFn s.link := by
  apply Vector.ext
  intro i hi
  rw [Vector.getElem_ofFn]
  rfl

/-- R189, R190: where a notice goes depends on the links, their settings and the time. -/
theorem post_links_congr {s t : State} (n : Notice) (links : t.links = s.links) (store : t.store = s.store)
    (clock : t.clock = s.clock) : (t.post n).links = (s.post n).links := by
  rw [links_eq_ofFn, links_eq_ofFn (s.post n)]
  congr 1
  funext l
  have link : t.link l = s.link l := by simp only [State.link, links]
  have seconds : t.seconds = s.seconds := by simp only [State.seconds, clock]
  rw [link_post, link_post, store, link, seconds]

/-! ## Claims (R50 to R53) -/

/-- A state with other point units: what the pumps do does not turn on them. -/
def State.withPoints (points : Table 8 PointUnit) (s : State) : State := { s with points := points }

theorem startHead_withPoints (points : Table 8 PointUnit) (s : State) :
    startHead (s.withPoints points) = (startHead s).withPoints points := by
  have same : (s.withPoints points).pumps.queue = s.pumps.queue := rfl
  unfold startHead
  rw [same]
  cases s.pumps.queue with
  | nil => rfl
  | cons m rest =>
    exact (apply_ite (State.withPoints points) (s.anyStarting = false ∧ s.pumps.supplyReady = true ∧ s.isSet .bay = false)
      ((s.setQueue rest).updPump m (PumpUnit.starting (s.after (s.pumpSet m).startTime))) s).symm

theorem enqueuePump_withPoints (m : PumpId) (points : Table 8 PointUnit) (s : State) :
    enqueuePump m (s.withPoints points) = (enqueuePump m s).withPoints points :=
  startHead_withPoints points ((s.updPump m fun u => { u.off with state := .queued }).setQueue (s.pumps.queue ++ [m]))

theorem claimPump_withPoints (p : PointId) (m : PumpId) (points : Table 8 PointUnit) (s : State) :
    claimPump p m (s.withPoints points) = (claimPump p m s).withPoints points := by
  unfold claimPump
  dsimp only
  have pump : (s.withPoints points).pump m = s.pump m := rfl
  rw [pump]
  split
  · split
    · rfl
    · exact enqueuePump_withPoints m points (s.updPump m _)
  all_goals rfl

theorem claimPump_rest (p : PointId) (m : PumpId) (s : State) : claimPump p m s = { s with pumps := (claimPump p m s).pumps } := by
  unfold claimPump
  dsimp only
  split
  · split
    · rfl
    · rw [enqueuePump, startHead_rest]; rfl
  all_goals rfl

theorem startHead_running {m : PumpId} {s : State} (h : ((startHead s).pump m).state = .running) : (s.pump m).state = .running := by
  unfold startHead at h
  split at h
  · exact h
  · split at h
    · rw [pump_updPump] at h
      split at h
      · cases h
      · exact h
    · exact h

section
variable {p : PointId} {m : PumpId} {s : State}

/-- R50: the pump with the claim of a point. -/
def PumpUnit.claimedBy (p : PointId) (u : PumpUnit) : PumpUnit :=
  { u with claims := if p ∈ u.claims then u.claims else u.claims ++ [p] }

theorem addClaim_eq (p : PointId) (claims : List PointId) : addClaim p claims = if p ∈ claims then claims else claims ++ [p] := by
  simp only [addClaim, List.contains_iff_mem]

/-- The pump manager with one pump unit put in its place. -/
def PumpManager.with (x : PumpManager) (m : PumpId) (u : PumpUnit) : PumpManager := { x with units := put x.units m u }

theorem claimPump_holding (h : (s.pump m).state = .holding) : (claimPump p m s).pumps =
    s.pumps.with m { (s.pump m).claimedBy p with state := .running, startDue := none, holdDue := none, run := true } := by
  simp only [claimPump, h, State.updPump, adjust, look_put_self, put_put, addClaim_eq]
  rfl

theorem claimPump_waits (h : (s.pump m).state = .running ∨ (s.pump m).state = .starting ∨ (s.pump m).state = .queued ∨
    (s.pump m).state = .faulted) : (claimPump p m s).pumps = s.pumps.with m ((s.pump m).claimedBy p) := by
  rcases h with h | h | h | h <;> simp only [claimPump, h, State.updPump, adjust, addClaim_eq] <;> rfl

theorem claimPump_faults (h : (s.pump m).state = .off) (fault : (s.pump m).faultLine = true) : (claimPump p m s).pumps =
    s.pumps.with m { (s.pump m).claimedBy p with state := .faulted, startDue := none, holdDue := none, run := false } := by
  simp only [claimPump, h, fault, if_true, State.updPump, adjust, look_put_self, put_put, addClaim_eq]
  rfl

/-- R52: a pump claimed and appended to the start queue. -/
def State.enqueued (s : State) (p : PointId) (m : PumpId) : State :=
  { s with pumps := { s.pumps.with m { (s.pump m).claimedBy p with state := .queued, startDue := none, holdDue := none, run := false } with
      queue := s.pumps.queue ++ [m] } }

theorem claimPump_enqueues (h : (s.pump m).state = .off) (sound : (s.pump m).faultLine = false) :
    claimPump p m s = startHead (s.enqueued p m) := by
  simp only [claimPump, h, sound, Bool.false_eq_true, if_false, enqueuePump, State.updPump, adjust, look_put_self, put_put, addClaim_eq]
  rfl

theorem enqueued_pump (k : PumpId) : (s.enqueued p m).pump k = if m = k then
    { (s.pump m).claimedBy p with state := .queued, startDue := none, holdDue := none, run := false } else s.pump k :=
  look_put ..

theorem enqueued_starting (h : (s.pump m).state = .off) :
    (∃ k, ((s.enqueued p m).pump k).state = .starting) ↔ ∃ k, (s.pump k).state = .starting := by
  refine exists_congr fun k => ?_
  rw [enqueued_pump]
  split
  · next same => rw [← same, h]; exact iff_of_false nofun nofun
  · rfl

/-- R33, R50: a pump that a claim finds RUNNING or HOLDING runs, and no other. -/
theorem claimPump_running : ((claimPump p m s).pump m).state = .running ↔
    (s.pump m).state = .running ∨ (s.pump m).state = .holding := by
  have with_ {u : PumpUnit} (h : (claimPump p m s).pumps = s.pumps.with m u) : (claimPump p m s).pump m = u := by
    rw [State.pump, h]
    exact look_put_self ..
  cases state : (s.pump m).state with
  | off =>
    cases fault : (s.pump m).faultLine with
    | true => rw [with_ (claimPump_faults state fault)]; simp
    | false =>
      rw [claimPump_enqueues state fault]
      refine iff_of_false (fun h => ?_) (by simp)
      have queued := startHead_running h
      rw [enqueued_pump, if_pos rfl] at queued
      cases queued
  | holding => rw [with_ (claimPump_holding state)]; simp
  | running => rw [with_ (claimPump_waits (.inl state))]; simp [PumpUnit.claimedBy, state]
  | starting => rw [with_ (claimPump_waits (.inr (.inl state)))]; simp [PumpUnit.claimedBy, state]
  | queued => rw [with_ (claimPump_waits (.inr (.inr (.inl state))))]; simp [PumpUnit.claimedBy, state]
  | faulted => rw [with_ (claimPump_waits (.inr (.inr (.inr state))))]; simp [PumpUnit.claimedBy, state]

/-- R33, R50: entry to AWAIT_PUMP, and on to PRIMING at a pump that runs or holds. -/
theorem enterAwaitPump_eq (p : PointId) (s : State) :
    let set := s.pointSet p
    let runs : Prop := (s.pump set.pump).state = .running ∨ (s.pump set.pump).state = .holding
    enterAwaitPump p s = { s with
      points := put s.points p { s.point p with
        identDue := none
        state := if runs then .priming else .awaitPump
        valve := if runs then true else (s.point p).valve
        primeDue := if runs then some (s.clock + set.primeTime * 1000) else (s.point p).primeDue
        attendDue := if runs then (attendanceSeconds set.attendance).map (fun n => s.clock + n * 1000) else (s.point p).attendDue }
      pumps := (claimPump p set.pump s).pumps } := by
  intro set runs
  have claimed := claimPump_withPoints p set.pump (put s.points p { s.point p with state := .awaitPump, identDue := none }) s
  have rest := claimPump_rest p set.pump s
  have running := claimPump_running (p := p) (m := set.pump) (s := s)
  unfold enterAwaitPump
  dsimp only
  have entered : claimPump p (s.pointSet p).pump (s.updPoint p fun u => { u with state := .awaitPump, identDue := none }) =
      (claimPump p set.pump s).withPoints (put s.points p { s.point p with state := .awaitPump, identDue := none }) := claimed
  rw [entered]
  generalize claimPump p set.pump s = c at rest running
  by_cases found : runs
  · have reports : ((c.withPoints (put s.points p { s.point p with state := .awaitPump, identDue := none })).pump
        (s.pointSet p).pump).state = .running := running.2 found
    have waits : ((c.withPoints (put s.points p { s.point p with state := .awaitPump, identDue := none })).point p).state = .awaitPump := by
      rw [State.withPoints, State.point, look_put_self]
    rw [if_pos reports, reportRunning, if_pos waits]
    simp only [if_pos found]
    rw [rest]
    simp only [enterPriming, State.updPoint, State.withPoints, adjust, look_put_self, put_put]
    rfl
  · have silent : ((c.withPoints (put s.points p { s.point p with state := .awaitPump, identDue := none })).pump
        (s.pointSet p).pump).state ≠ .running := fun h => found (running.1 h)
    rw [if_neg silent]
    simp only [if_neg found]
    rw [rest]
    rfl

end

/-! ## An order accepted (R22) -/

section
variable {r : OrderRequest} {s : State}

theorem openedOrder_number (r : OrderRequest) (s : State) : (openedOrder r s).number = s.journal.nextOrder := by
  unfold openedOrder
  dsimp only
  split <;> rfl

/-- R22: the state in which the first state of an accepted order is entered. -/
theorem orderOpened_eq (clear : s.bay.curtailed = false) :
    let reserve := s.journal.uncollected + (s.journal.openCount + 1)
    s.orderOpened r = { s with
      points := put s.points r.point (openPoint (openedOrder r s)
        (enterMetering (s.pointSet r.point).meter (s.productSet (s.pointSet r.point).product).beta s.clock) (s.point r.point))
      accounts := { s.accounts with
        table := s.accounts.table.map fun a =>
          if r.machine = some a.machine then { a with openSet := a.openSet ++ [s.journal.nextOrder] } else a }
      journal := { s.journal with nextOrder := nextCount s.journal.nextOrder, openCount := s.journal.openCount + 1 }
      bay := { s.bay with curtailed := decide (480 ≤ reserve) }
      links :=
        if 480 ≤ reserve then (s.post (.journalHigh true s.journal.uncollected (s.journal.openCount + 1) reserve)).links
        else s.links } := by
  intro reserve
  unfold State.orderOpened
  dsimp only
  rw [openedOrder_number]
  set opened := put s.points r.point (openPoint (openedOrder r s)
    (enterMetering (s.pointSet r.point).meter (s.productSet (s.pointSet r.point).product).beta s.clock) (s.point r.point))
  set joined : State := { s with
    points := opened
    accounts := { s.accounts with
      table := s.accounts.table.map fun a =>
        if r.machine = some a.machine then { a with openSet := a.openSet ++ [s.journal.nextOrder] } else a }
    journal := { s.journal with nextOrder := nextCount s.journal.nextOrder, openCount := s.journal.openCount + 1 } } with hjoined
  have joins : (match r.machine with
      | some machine => joinOpenSet machine s.journal.nextOrder ((countOpen s).updPoint r.point (openPoint (openedOrder r s)
          (enterMetering (s.pointSet r.point).meter (s.productSet (s.pointSet r.point).product).beta s.clock)))
      | none => (countOpen s).updPoint r.point (openPoint (openedOrder r s)
          (enterMetering (s.pointSet r.point).meter (s.productSet (s.pointSet r.point).product).beta s.clock)) : State) = joined := by
    cases machine : r.machine with
    | none =>
      rw [hjoined]
      simp only [machine, reduceCtorEq, if_false, List.map_id']
      rfl
    | some n =>
      rw [hjoined]
      simp only [machine, Option.some.injEq, eq_comm (a := n)]
      rfl
  refine (congrArg judgeCurtail joins).trans ?_
  have posted := post_same (.journalHigh true s.journal.uncollected (s.journal.openCount + 1) reserve)
    { joined with bay := { s.bay with curtailed := true } }
  have links := post_links_congr (s := s) (t := { joined with bay := { s.bay with curtailed := true } })
    (.journalHigh true s.journal.uncollected (s.journal.openCount + 1) reserve) rfl rfl rfl
  rw [judgeCurtail]
  by_cases full : 480 ≤ reserve
  · refine (if_pos (c := Config.curtailAt ≤ joined.journal.reserve ∧ joined.bay.curtailed = false) ⟨full, clear⟩).trans ?_
    simp only [if_pos full, decide_eq_true full]
    exact posted.trans (by rw [links])
  · refine (if_neg (c := Config.curtailAt ≤ joined.journal.reserve ∧ joined.bay.curtailed = false) fun h => full h.1).trans ?_
    simp only [if_neg full, decide_eq_false full]
    rw [← clear]

end

/-- Settles O32. -/
theorem orderOpens : Obligations.OrderOpens := by
  intro v f r s ready zero w set u m pump read passes primes manual claimed pumpAs reserve
  have woken : w.Ready := wake_ready ready
  have checks := firstFailure_eq_none.1 passes
  have clear : w.bay.curtailed = false := checks (w.bay.curtailed, .journalFull) (by simp [orderChecks])
  have bayFree : w.isSet .bay = false :=
    (Bool.or_eq_false_iff.1 (checks (w.isSet (.point r.point) || w.isSet .bay, .tripped) (by simp [orderChecks]))).2
  have opened := orderOpened_eq (r := r) clear
  set j := w.orderOpened r with hj
  set t := enterFirstState r.point j with ht
  have pumps : j.pumps = w.pumps := by rw [opened]
  have unit : j.pump m = pump := by simp only [State.pump, pumps]; rfl
  have settings : j.pointSet r.point = set := by rw [opened]; rfl
  have frame : t = { j with points := t.points, pumps := t.pumps } := by
    rw [ht, enterFirstState]
    split
    · rfl
    · rw [enterAwaitPump_eq]
  have links : t.links = j.links := by rw [frame]
  have handed : t.stock.reports = [] := by
    rw [frame, opened]
    exact woken.2
  have runs : exec (.openOrder v f) s = .next (answered v 0x10 .ok [item4 w.journal.nextOrder] t) := by
    have awake : wakeBy (.openOrder v f) w = w := wake_wake ..
    have twice : serveRequest v 0x10 (.openOrder v f) s = serveRequest v 0x10 (.openOrder v f) w :=
      serveRequest_woken ready.1 woken.1 rfl awake
    have accepted : acceptOrder r w = ⟨.ok, [item4 w.journal.nextOrder], t⟩ := by
      rw [← openedOrder_number r w]
      rfl
    change Host.Outcome.next (serveRequest v 0x10 (.openOrder v f) s) = _
    rw [twice, request_answered (status := .ok) (items := [item4 w.journal.nextOrder]) (t := t) woken awake ?_ handed
      (.inr (hasPart_of_zero zero))]
    · rfl
    · change openOrderChecked v f (wake _ w) = _
      rw [wake_wake]
      simp only [openOrderChecked, read]
      exact (checked_none passes).trans accepted
  refine ⟨t, openedOrder r w, runs, ?_, fun given => ?_, fun unnamed fuel => ?_, ?_, ?_, ?_, ?_⟩
  · unfold openedOrder
    dsimp only
    split <;> rfl
  · have fixed : (r.machine.isSome || decide (r.kind ≠ .fuel)) = true := by simpa using given
    intro x
    rw [openedOrder]
    simp only [if_pos fixed]
    exact ⟨rfl, rfl, rfl⟩
  · have unfixed : ¬(r.machine.isSome || decide (r.kind ≠ .fuel)) = true := by simp [unnamed, fuel]
    rw [openedOrder]
    simp only [if_neg unfixed]
    exact ⟨rfl, rfl, rfl⟩
  · rw [openedOrder_number]
    have units : j.points = put w.points r.point (openPoint (openedOrder r w)
        (enterMetering set.meter (w.productSet set.product).beta w.clock) u) := by rw [opened]
    have point : j.point r.point = openPoint (openedOrder r w) (enterMetering set.meter (w.productSet set.product).beta w.clock) u := by
      rw [State.point, units, look_put_self]
    have clock : j.clock = w.clock := by rw [opened]
    have rest : t = { j with points := t.points, pumps := t.pumps } := frame
    have stands : t.points = put w.points r.point { u with
        order := some (openedOrder r w), meter := enterMetering set.meter (w.productSet set.product).beta w.clock
        lowFlow := 0, hoseBreak := 0
        state := if set.nozzleFitted = true then .identifying else if primes then .priming else .awaitPump
        identDue := if set.nozzleFitted = true then some (w.clock + set.identTime * 1000) else none
        valve := if primes then true else u.valve
        primeDue := if primes then some (w.clock + set.primeTime * 1000) else u.primeDue
        attendDue :=
          if primes then (attendanceSeconds set.attendance).map (fun n => w.clock + n * 1000) else u.attendDue } := by
      rw [ht, enterFirstState]
      by_cases fitted : set.nozzleFitted = true
      · have unprimed : ¬primes := fun h => Bool.false_ne_true (h.1.symm.trans fitted)
        simp only [settings, if_pos fitted, if_neg unprimed, State.updPoint, adjust, units, look_put_self, put_put, State.after, clock]
        rfl
      · have runs : primes ↔ (pump.state = .running ∨ pump.state = .holding) := and_iff_right (Bool.eq_false_of_not_eq_true fitted)
        simp only [settings, if_neg fitted]
        rw [enterAwaitPump_eq]
        simp only [settings, point, units, put_put, clock, show j.pump set.pump = pump from unit, runs]
        rfl
    generalize t.points = points at rest stands
    rw [rest, stands, opened]
  · rw [links, opened]
  · intro fitted
    rw [ht, enterFirstState]
    simp only [settings, fitted, if_true]
    exact pumps
  · intro bare
    have claims : t.pumps = (claimPump r.point m j).pumps := by
      rw [ht, enterFirstState]
      simp only [settings, bare, Bool.false_eq_true, if_false]
      rw [enterAwaitPump_eq]
      simp only [settings]
      rfl
    rw [claims]
    have same (x : PumpUnit) : j.pumps.with m x = pumpAs x := by rw [pumps]; rfl
    have entered : (j.enqueued r.point m).pumps =
        { pumpAs { claimed with state := .queued, startDue := none, holdDue := none, run := false } with
          queue := w.pumps.queue ++ [m] } := by
      rw [State.enqueued]
      dsimp only
      rw [same, unit, pumps]
      rfl
    refine ⟨fun holds => ?_, fun waits => ?_, fun off fault => ?_, fun off sound => ⟨fun withheld => ?_, fun supply idle head rest queue => ?_⟩⟩
    · rw [claimPump_holding (by rw [unit]; exact holds), same, unit]; rfl
    · rw [claimPump_waits (by rw [unit]; exact waits), same, unit]; rfl
    · rw [claimPump_faults (by rw [unit]; exact off) (by rw [unit]; exact fault), same, unit]; rfl
    · have waits : (claimPump r.point m j) = startHead (j.enqueued r.point m) :=
        claimPump_enqueues (by rw [unit]; exact off) (by rw [unit]; exact sound)
      rw [waits, startHead_withheld]
      · exact entered
      · rcases withheld with low | starting
        · exact .inr (.inl ((congrArg PumpManager.supplyReady pumps :).trans low))
        · refine .inl ((enqueued_starting (by rw [unit]; exact off)).2 ?_)
          simpa only [State.pump, pumps] using starting
    · have starts : claimPump r.point m j = startHead (j.enqueued r.point m) :=
        claimPump_enqueues (by rw [unit]; exact off) (by rw [unit]; exact sound)
      have waiting : (j.enqueued r.point m).pumps.queue = head :: rest := by
        rw [entered]
        exact queue
      have calm (k : PumpId) : ((j.enqueued r.point m).pump k).state ≠ .starting := fun h => by
        obtain ⟨k, starting⟩ := (enqueued_starting (by rw [unit]; exact off)).1 ⟨k, h⟩
        exact idle k (by simpa only [State.pump, pumps] using starting)
      have ready : (j.enqueued r.point m).pumps.supplyReady = true := (congrArg PumpManager.supplyReady pumps :).trans supply
      have free : (j.enqueued r.point m).isSet .bay = false := by rw [State.enqueued, opened]; exact bayFree
      have clock : (j.enqueued r.point m).clock = w.clock := by rw [State.enqueued, opened]
      have pumpSet : (j.enqueued r.point m).pumpSet head = w.pumpSet head := by rw [State.enqueued, opened]; rfl
      rw [starts, startHead_starts waiting calm ready free]
      simp only [State.pump, entered, clock, pumpSet]

end Sys2Proof.Machine

/-! # Identification -/

namespace Sys2Proof.Machine

open Sys2Proof

/-! ## The claim at the pump (R50) -/

theorem claimPump_claims (p : PointId) (m : PumpId) (s : State) : p ∈ ((claimPump p m s).pump m).claims := by
  have named (u : PumpUnit) : p ∈ (u.claimedBy p).claims := by
    unfold PumpUnit.claimedBy
    dsimp only
    split
    · next mem => exact mem
    · exact List.mem_append_right _ (List.mem_singleton_self p)
  have stands {u : PumpUnit} (h : (claimPump p m s).pumps = s.pumps.with m u) : (claimPump p m s).pump m = u := by
    rw [State.pump, h]
    exact look_put_self ..
  cases state : (s.pump m).state with
  | off =>
    cases fault : (s.pump m).faultLine with
    | true => rw [stands (claimPump_faults state fault)]; exact named _
    | false => rw [claimPump_enqueues state fault, startHead_claims, enqueued_pump, if_pos rfl]; exact named _
  | holding => rw [stands (claimPump_holding state)]; exact named _
  | running => rw [stands (claimPump_waits (.inl state))]; exact named _
  | starting => rw [stands (claimPump_waits (.inr (.inl state)))]; exact named _
  | queued => rw [stands (claimPump_waits (.inr (.inr (.inl state))))]; exact named _
  | faulted => rw [stands (claimPump_waits (.inr (.inr (.inr state))))]; exact named _

/-- R33, R50: a point that has gone on from IDENTIFYING, with its claim. -/
structure State.GoesOn (s : State) (p : PointId) (t : State) : Prop where
  identDue : (t.point p).identDue = none
  state : (t.point p).state = .awaitPump ∨ (t.point p).state = .priming
  claims : p ∈ (t.pump (s.pointSet p).pump).claims
  order : (t.point p).order = (s.point p).order
  identity : (t.point p).identity = (s.point p).identity
  receiver : (t.point p).receiver = (s.point p).receiver
  accounts : t.accounts = s.accounts
  stock : t.stock = s.stock

theorem enterAwaitPump_goesOn (p : PointId) (s : State) : s.GoesOn p (enterAwaitPump p s) := by
  have entered := enterAwaitPump_eq p s
  have claimed := claimPump_claims p (s.pointSet p).pump s
  generalize enterAwaitPump p s = t at entered ⊢
  dsimp only at entered
  have units := congrArg State.points entered
  have pumps : t.pumps = (claimPump p (s.pointSet p).pump s).pumps := by rw [entered]
  have point := (congrArg (look · p) units).trans (look_put_self ..)
  change t.point p = _ at point
  refine ⟨by rw [point], ?_, ?_, by rw [point], by rw [point], by rw [point], by rw [entered], by rw [entered]⟩
  · rw [point]
    dsimp only
    split <;> simp
  · simpa only [State.pump, pumps] using claimed

/-! ## A close at identification (R30) -/

/-- R14, R44: a close at once leaves the nozzle receiver of its point as it is. -/
theorem closeAtOnce_receiver {p : PointId} {s : State} {o : Order} (order : (s.point p).order = some o) (c : Cause) :
    ((closeAtOnce none p c s).point p).state = .idle ∧
      ((closeAtOnce none p c s).point p).identity = (s.point p).identity ∧
      ((closeAtOnce none p c s).point p).receiver = (s.point p).receiver := by
  set t := s.updOrder p fun o => { o with termination := some c } with ht
  obtain ⟨f, m, -, point⟩ := endWindow_point p (shortReading (.point p) t) t
  have marked : t.point p = { s.point p with order := (s.point p).order.map fun o => { o with termination := some c } } :=
    point_updOrder_self ..
  rw [marked, order] at point
  have closed := finishClose_point (p := p) (s := endWindow p (shortReading (.point p) t) t) (by rw [point]; rfl) p
  have whole : closeAtOnce none p c s = finishClose p (endWindow p (shortReading (.point p) t) t) := by
    rw [closeAtOnce, if_neg nofun]
  rw [if_pos rfl, ← whole, point] at closed
  rw [closed]
  exact ⟨rfl, rfl, rfl⟩

/-- R116: an order that stands in no open-order set updates no account. -/
theorem closeUpdates_apart {o : Order} {s : State} (apart : ∀ machine ∈ o.machine, ∀ a, s.account machine = some a → o.number ∉ a.openSet)
    (netDl : Nat) (c : Cause) (ok : Option Bool) : closeUpdates o netDl c ok s = s :=
  (closeUpdates_cases o netDl c ok s).resolve_right fun ⟨machine, a, names, found, stands⟩ =>
    apart machine names a found (by simpa using stands)

theorem Moves.accounts {K : List Part} {H : Set Law} {s t : State} (h : Moves K H s t)
    (hK : ∀ x ∈ [Part.table, .deferred, .accountsRest], x ∉ K := by decide) : t.accounts = s.accounts := by
  obtain ⟨classes, cursors, change⟩ := h.same .accountsRest (hK _ (by simp))
  have table : t.accounts.table = s.accounts.table := h.same .table (hK _ (by simp))
  have deferred : t.accounts.deferred = s.accounts.deferred := h.same .deferred (hK _ (by simp))
  generalize t.accounts = u at *
  generalize s.accounts = v at *
  cases u
  cases v
  simp_all

theorem recordOrder_apart {p : PointId} {o : Order} {c : Cause} {s : State}
    (apart : ∀ machine ∈ o.machine, ∀ a, s.account machine = some a → o.number ∉ a.openSet) :
    (recordOrder p o c s).accounts = s.accounts := by
  unfold recordOrder
  dsimp only
  rw [closeUpdates_apart]
  · rw [State.post_accounts]; rfl
  · intro machine names a found
    rw [State.account, State.post_accounts] at found
    exact apart machine names a found

theorem finishClose_apart {p : PointId} {s : State} {o : Order} (h : (s.point p).order = some o)
    (apart : ∀ machine ∈ o.machine, ∀ a, s.account machine = some a → o.number ∉ a.openSet) :
    (finishClose p s).accounts = s.accounts := by
  have released : (releasePump p (s.pointSet p).pump s).accounts = s.accounts := (releasePump_moves ..).accounts
  have recorded := recordOrder_apart (p := p) (o := o) (c := o.termination.getD .stopped) (s := releasePump p (s.pointSet p).pump s)
    (by simpa only [State.account, released] using apart)
  rw [finishClose, h]
  exact (settledReportsAfterClose_moves _).accounts.trans (recorded.trans released)

theorem closeAtOnce_apart {p : PointId} {s : State} {o : Order} (order : (s.point p).order = some o)
    (nothing : (s.point p).meter.CountedNothing) (c : Cause)
    (apart : ∀ machine ∈ o.machine, ∀ a, s.account machine = some a → o.number ∉ a.openSet) :
    (closeAtOnce none p c s).accounts = s.accounts := by
  obtain ⟨r, -, -, closed⟩ := closeAtOnce_nothing order nothing c
  rw [closed]
  exact finishClose_apart (o := o.closedWith c r) (by rw [point_updPoint_self]) apart

/-! ## Accounts once one has been changed (R105) -/

theorem account_updAccount (machine n : Nat) (f : Account → Account) (s : State) : (s.updAccount machine f).account n =
    if n = machine then (s.account machine).map fun a => a.numberedAs (f a) else s.account n := by
  have keeps : ((fun a : Account => decide (a.machine = n)) ∘
      fun a : Account => if a.machine = machine then a.numberedAs (f a) else a) = fun a => decide (a.machine = n) := by
    funext a
    simp only [Function.comp_apply]
    split <;> rfl
  rw [State.account, State.updAccount, State.setTable]
  dsimp only
  rw [changeAccount_eq, List.find?_map, keeps]
  change (s.account n).map _ = _
  cases found : s.account n with
  | none =>
    split
    · next same => subst same; rw [found]; rfl
    · rfl
  | some a =>
    obtain ⟨-, rfl⟩ := mem_of_account found
    split
    · next same => subst same; rw [found]; simp
    · next other => simp [other]

/-! ## A completed message at a point that identifies (R30) -/

/-- R29, R30: the state in which an order at a point takes a message. -/
def State.messageTaken (s : State) (p : PointId) (x : Identity) : State :=
  s.updPoint p fun u => { u with receiver := .sleeping, identity := some x, identDue := none }

theorem messageTaken_point (s : State) (p : PointId) (x : Identity) : (s.messageTaken p x).point p =
    { s.point p with receiver := .sleeping, identity := some x, identDue := none } := point_updPoint_self ..

theorem messageTaken_productOfOrder (s : State) (p : PointId) (x : Identity) :
    (s.messageTaken p x).productOfOrder = s.productOfOrder := by
  funext n
  unfold State.productOfOrder
  congr 1
  funext q
  have order : ((s.messageTaken p x).point q).order = (s.point q).order := by
    by_cases same : p = q
    · subst same; rw [messageTaken_point]
    · rw [State.messageTaken, point_updPoint, if_neg same]
  rw [order]

theorem nozzleFrameEvent_completes {p : PointId} {f : NozzleFrame} {message : List Byte} {x : Identity} {s : State}
    (completes : receive (s.point p).receiver f = (.sleeping, some message)) (valid : identityOf message s.seconds = some x) :
    nozzleFrameEvent p f s = identityCompletion p x (s.updPoint p fun u => { u with receiver := .sleeping, identity := some x }) := by
  have seconds : (s.updPoint p fun u => { u with receiver := .sleeping }).seconds = s.seconds := rfl
  simp only [nozzleFrameEvent, completes, takeMessage, seconds, valid]
  simp only [State.updPoint, adjust_adjust]

section
variable {p : PointId} {x : Identity} {s : State} {o : Order}

theorem identityCompletion_stands (h : (s.point p).state ≠ .identifying ∨ (s.point p).order = none) :
    identityCompletion p x s = s := by
  unfold identityCompletion
  split
  · next state order =>
    rcases h with other | none
    · exact absurd state other
    · rw [none] at order; cases order
  · rfl

/-- R30: what a message makes of the order that waits for it. -/
theorem identityCompletion_order (state : (s.point p).state = .identifying) (order : (s.point p).order = some o) :
    let event := identityCompletion p x (s.updPoint p fun u => { u with receiver := .sleeping, identity := some x })
    (o.machine = some x.machine → event = enterAwaitPump p ((s.messageTaken p x).updOrder p (takeIdentity x))) ∧
    (∀ machine, o.machine = some machine → machine ≠ x.machine →
      event = closeAtOnce none p .idMismatch (s.messageTaken p x)) ∧
    (o.machine = none → event = admitIdentity p o x (s.messageTaken p x)) := by
  intro event
  have state' : ((s.updPoint p fun u => { u with receiver := .sleeping, identity := some x }).point p).state = .identifying := by
    rw [point_updPoint_self]; exact state
  have order' : ((s.updPoint p fun u => { u with receiver := .sleeping, identity := some x }).point p).order = some o := by
    rw [point_updPoint_self]; exact order
  have taken : (s.updPoint p fun u => { u with receiver := .sleeping, identity := some x }).updPoint p (fun u => { u with identDue := none }) =
      s.messageTaken p x := by
    simp only [State.messageTaken, State.updPoint, adjust_adjust]
  refine ⟨fun own => ?_, fun machine names other => ?_, fun unnamed => ?_⟩
  · simp only [event, identityCompletion, state', order', own, taken, ne_eq, not_true_eq_false, if_false]
  · simp only [event, identityCompletion, state', order', names, taken, if_pos other]
  · simp only [event, identityCompletion, state', order', unnamed, taken]

/-- R30: an order refused at identification carries the message's machine. -/
theorem admitIdentity_refuses {st : Status} (h : firstFailure (accountChecks x.machine o.kind o.product o.override s) = some st) :
    admitIdentity p o x s =
      closeAtOnce none p (refusalCause st) (s.updOrder p fun o => { o with machine := some x.machine }) := by
  rw [admitIdentity, h]

theorem admitIdentity_joins (h : firstFailure (accountChecks x.machine o.kind o.product o.override s) = none)
    (order : (s.point p).order = some o) :
    let l := s.limitFor p o.kind o.preset o.override (s.account x.machine)
    admitIdentity p o x s = enterAwaitPump p (joinOpenSet x.machine o.number (s.updPoint p fun u => { u with
      order := some (if o.limit = none then fixLimit l (takeIdentity x o) else takeIdentity x o) })) := by
  intro l
  rw [admitIdentity, h]
  dsimp only
  cases limit : o.limit with
  | none =>
    simp only [Option.isNone_none, if_true, State.updOrder, State.updPoint, adjust_adjust]
    simp only [adjust, show (look s.points p).order = some o from order, Option.map_some]
    rfl
  | some n =>
    simp only [Option.isNone_some, Bool.false_eq_true, if_false, State.updOrder, State.updPoint, reduceCtorEq]
    simp only [adjust, show (look s.points p).order = some o from order, Option.map_some]

end

/-- Settles O36. -/
theorem identification : Obligations.Identification := by
  intro p s ready claims
  have ran {f : NozzleFrame} {t : State} (h : handReports (nozzleFrameEvent p f s) = t) : exec (.nozzleFrame p f) s = .next t :=
    congrArg Host.Outcome.next ((takeEvent_running ready.1).trans h)
  have goes {v t : State} (h : v.GoesOn p t) (set : (v.pointSet p).pump = (s.pointSet p).pump) : claims t :=
    ⟨h.identDue, h.state, set ▸ h.claims⟩
  refine ⟨fun f r unfinished => ?_, fun f message completes => ⟨fun invalid => ?_, fun x valid => ?_⟩,
    fun o due state order running => ⟨fun named => ?_, fun unnamed waste => ?_⟩, fun awake seconds interval flows => ?_,
    fun awake other notFlowing => ?_, fun awake fitted uncoupled => ?_⟩
  · have event : nozzleFrameEvent p f s = { s with points := put s.points p { s.point p with receiver := r } } := by
      simp only [nozzleFrameEvent, unfinished]
      rfl
    exact ran (by rw [event]; exact handReports_none ready.2)
  · have event : nozzleFrameEvent p f s = { s with points := put s.points p { s.point p with receiver := .sleeping } } := by
      have seconds : (s.updPoint p fun u => { u with receiver := .sleeping }).seconds = s.seconds := rfl
      simp only [nozzleFrameEvent, completes, takeMessage, seconds, invalid]
      rfl
    exact ran (by rw [event]; exact handReports_none ready.2)
  · set taken := s.updPoint p fun u => { u with receiver := .sleeping, identity := some x } with htaken
    have unit : taken.point p = { s.point p with receiver := .sleeping, identity := some x } := point_updPoint_self ..
    have event := nozzleFrameEvent_completes completes valid
    by_cases waits : (s.point p).state = .identifying ∧ (s.point p).order.isSome
    · obtain ⟨state, ordered⟩ := waits
      obtain ⟨o, order⟩ := Option.isSome_iff_exists.1 ordered
      obtain ⟨own, mismatch, free⟩ := identityCompletion_order (x := x) state order
      rw [← htaken, ← event] at own mismatch free
      set m := s.messageTaken p x with hm
      have held : m.point p = { s.point p with receiver := .sleeping, identity := some x, identDue := none } :=
        messageTaken_point s p x
      have beforeTaken : s.BeforeClose p m :=
        ⟨rfl, rfl, fun q other => by rw [hm, State.messageTaken, point_updPoint, if_neg other.symm], rfl, rfl, rfl⟩
      have before (g : Order → Order) : s.BeforeClose p (m.updOrder p g) :=
        ⟨rfl, rfl, fun q other => by rw [point_updOrder, if_neg other.symm, beforeTaken.points q other], rfl, rfl, rfl⟩
      set t := handReports (nozzleFrameEvent p f s) with ht
      have goesOn {v : State} (h : nozzleFrameEvent p f s = enterAwaitPump p v) (stock : v.stock = s.stock) : v.GoesOn p t := by
        have on := enterAwaitPump_goesOn p v
        rw [ht, h, handReports_none ((congrArg StockUnit.reports (on.stock.trans stock)).trans ready.2)]
        exact on
      have listens {v : State} {o' : Order} {c : Cause} (h : nozzleFrameEvent p f s = closeAtOnce none p c v)
          (order : (v.point p).order = some o') :
          (t.point p).identity = (v.point p).identity ∧ (t.point p).receiver = (v.point p).receiver := by
        obtain ⟨idle, identity, receiver⟩ := closeAtOnce_receiver order c
        rw [ht, h, ((handReports_winds _).points p).free (.inl idle)]
        exact ⟨identity, receiver⟩
      have closes {v : State} {o' : Order} {c : Cause} (h : nozzleFrameEvent p f s = closeAtOnce none p c v)
          (same : s.BeforeClose p v) (order : (v.point p).order = some o') (nothing : (v.point p).meter.CountedNothing) :
          s.OrderClosed p o' c t ∧ t = closeAtOnce none p c v := by
        have closed := same.orderClosed (closeAtOnce_orderClosed order nothing c)
        obtain ⟨-, -, -, -, -, -, -, -, -, -, stock, -⟩ := id closed
        have whole : t = closeAtOnce none p c v := by
          rw [ht, h, handReports_none ((congrArg StockUnit.reports stock).trans ready.2)]
        exact ⟨whole ▸ closed, whole⟩
      have refuses {st : Status} (unnamed : o.machine = none)
          (h : firstFailure (accountChecks x.machine o.kind o.product o.override m) = some st) :
          nozzleFrameEvent p f s = closeAtOnce none p (refusalCause st) (m.updOrder p fun o => { o with machine := some x.machine }) :=
        (free unnamed).trans (admitIdentity_refuses h)
      have joins (unnamed : o.machine = none) (h : firstFailure (accountChecks x.machine o.kind o.product o.override m) = none) :=
        (free unnamed).trans (admitIdentity_joins (s := m) h (by rw [held]; exact order))
      have heard : (t.point p).identity = some x ∧ (t.point p).receiver = .sleeping := by
        cases machine : o.machine with
        | some n =>
          by_cases same : n = x.machine
          · have on := goesOn (own (by rw [machine, same])) rfl
            rw [on.identity, on.receiver, point_updOrder_self, held]
            exact ⟨rfl, rfl⟩
          · have closing := listens (mismatch n machine same) (by rw [held]; exact order)
            rw [held] at closing
            exact closing
        | none =>
          cases fails : firstFailure (accountChecks x.machine o.kind o.product o.override m) with
          | some st =>
            have closing := listens (refuses machine fails) (by rw [point_updOrder_self, held, order]; rfl)
            rw [point_updOrder_self, held] at closing
            exact closing
          | none =>
            have on := goesOn (joins machine fails) rfl
            have joined : (joinOpenSet x.machine o.number (m.updPoint p fun u => { u with
                order := some (if o.limit = none then
                  fixLimit (m.limitFor p o.kind o.preset o.override (m.account x.machine)) (takeIdentity x o)
                else takeIdentity x o) })).point p = _ := point_updPoint_self ..
            rw [on.identity, on.receiver, joined, held]
            exact ⟨rfl, rfl⟩
      refine ⟨t, ran rfl, heard.1, heard.2, fun stands => ?_, fun o' _ order' => ?_⟩
      · rcases stands with other | none
        · exact absurd state other
        · rw [none] at order; cases order
      obtain rfl : o = o' := by rw [order] at order'; exact Option.some.inj order'
      intro named refusal
      have refusedBy : refusal = (firstFailure (accountChecks x.machine o.kind o.product o.override m)).map refusalCause := by
        have same : m.account x.machine = s.account x.machine := rfl
        cases found : s.account x.machine with
        | none =>
          simp only [refusal, found, accountChecks, same, firstFailure]
          rfl
        | some a =>
          rw [firstFailure_account (same.trans found), messageTaken_productOfOrder]
          simp only [refusal, found]
          split_ifs <;> rfl
      refine ⟨fun names => ?_, fun n names other nothing => ?_, fun c unnamed refused nothing => ?_, fun a unnamed admitted found => ?_⟩
      · have on := goesOn (own names) rfl
        refine ⟨?_, goes on rfl, on.accounts⟩
        rw [on.order, point_updOrder_self, held, order]
        rfl
      · exact (closes (o' := o) (mismatch n names other) beforeTaken (by rw [held]; exact order) (by rw [held]; exact nothing)).1
      · rw [refusedBy, Option.map_eq_some_iff] at refused
        obtain ⟨st, fails, rfl⟩ := refused
        obtain ⟨closed, whole⟩ := closes (o' := { o with machine := some x.machine }) (refuses unnamed fails) (before _)
          (by rw [point_updOrder_self, held, order]; rfl) (by rw [point_updOrder_self, held]; exact nothing)
        refine ⟨closed, fun apart => ?_⟩
        rw [whole, closeAtOnce_apart (o := { o with machine := some x.machine }) (by rw [point_updOrder_self, held, order]; rfl)
          (by rw [point_updOrder_self, held]; exact nothing)]
        · rfl
        · rintro machine ⟨⟩ a found
          exact apart a found
      · have fails : firstFailure (accountChecks x.machine o.kind o.product o.override m) = none := by
          rw [refusedBy, Option.map_eq_none_iff] at admitted
          exact admitted
        have on := goesOn (joins unnamed fails) rfl
        intro l
        have account (n : Nat) : t.account n = (joinOpenSet x.machine o.number m).account n := by
          simp only [State.account, on.accounts]
          rfl
        refine ⟨?_, goes on rfl, ?_, fun n other => ?_⟩
        · have joined : (joinOpenSet x.machine o.number (m.updPoint p fun u => { u with
              order := some (if o.limit = none then
                fixLimit (m.limitFor p o.kind o.preset o.override (m.account x.machine)) (takeIdentity x o)
              else takeIdentity x o) })).point p = _ := point_updPoint_self ..
          have limit : m.limitFor p o.kind o.preset o.override (m.account x.machine) = l :=
            congrArg (s.limitFor p o.kind o.preset o.override) found
          rw [on.order, joined, limit]
          rfl
        · rw [account, joinOpenSet, account_updAccount, if_pos rfl, show m.account x.machine = some a from found]
          rfl
        · rw [account, joinOpenSet, account_updAccount, if_neg other]
          rfl
    · have stands : (s.point p).state ≠ .identifying ∨ (s.point p).order = none := by
        by_contra both
        simp only [not_or, not_not, ← Option.isSome_iff_ne_none] at both
        exact waits both
      have ended : handReports (nozzleFrameEvent p f s) = taken := by
        rw [event, identityCompletion_stands (by rw [unit]; exact stands)]
        exact handReports_none ready.2
      refine ⟨taken, ran ended, by rw [unit], by rw [unit], fun _ => rfl, fun o state order => ?_⟩
      rcases stands with other | none
      · exact absurd state other
      · rw [none] at order; cases order
  · set u := (s.reach due).updPoint p fun u => { u with identDue := none } with hu
    have event : identTimerEvent p s = enterAwaitPump p (u.updOrder p identifyByHand) := by
      simp only [identTimerEvent, running, order, named, if_true]
      rfl
    have unit : u.point p = { s.point p with identDue := none } := by
      rw [hu, point_updPoint_self, State.point, State.reach_points]
      rfl
    have on := enterAwaitPump_goesOn p (u.updOrder p identifyByHand)
    rw [← event] at on
    have stock : (identTimerEvent p s).stock = s.stock := on.stock.trans (State.reach_stock ..)
    refine ⟨identTimerEvent p s, congrArg Host.Outcome.next (takeEvent_eq ready.1 ((congrArg StockUnit.reports stock).trans ready.2)),
      ?_, goes on (congrArg (fun settings => PointSettings.pump (look settings.points p)) (State.reach_store ..) :)⟩
    rw [on.order, point_updOrder_self, unit, order]
    rfl
  · set u := (s.reach due).updPoint p fun u => { u with identDue := none } with hu
    have event : identTimerEvent p s = enterAwaitPump p u := by
      simp only [identTimerEvent, running, order, unnamed, Option.isSome_none, Bool.false_eq_true, if_false, waste, if_true]
      rfl
    have unit : u.point p = { s.point p with identDue := none } := by
      rw [hu, point_updPoint_self, State.point, State.reach_points]
      rfl
    have on := enterAwaitPump_goesOn p u
    rw [← event] at on
    have stock : (identTimerEvent p s).stock = s.stock := on.stock.trans (State.reach_stock ..)
    refine ⟨identTimerEvent p s, congrArg Host.Outcome.next (takeEvent_eq ready.1 ((congrArg StockUnit.reports stock).trans ready.2)),
      ?_, goes on (congrArg (fun settings => PointSettings.pump (look settings.points p)) (State.reach_store ..) :)⟩
    rw [on.order, unit, order]
  · have event : attendEvent p s =
        { s with points := put s.points p { s.point p with attendDue := some (s.clock + seconds * 1000) } } := by
      have restarts : attendEvent p s = s.updPoint p fun u => { u with attendDue := some (s.after seconds) } := by
        rcases flows with h | h <;> simp only [attendEvent, wake_awake awake, h, interval]
      exact restarts
    exact congrArg Host.Outcome.next (takeEvent_eq ready.1 (by rw [event]; exact ready.2) |>.trans event)
  · have event : attendEvent p s = s := by
      simp only [attendEvent, wake_awake awake]
      split
      · next h => exact absurd h other
      · next h => exact absurd h notFlowing
      all_goals rfl
    exact congrArg Host.Outcome.next (takeEvent_eq ready.1 (by rw [event]; exact ready.2) |>.trans event)
  · intro r
    have event : nozzleLineHighEvent p s = { r with points := put s.points p { s.point p with receiver := .sleeping } } := by
      have reached : r.bay.mode ≠ .standby := by rwa [show r.bay = s.bay from State.reach_bay ..]
      have points : r.points = s.points := State.reach_points ..
      have after : s.reach ((s.point p).lineSince + Config.coupleMs) = r := rfl
      simp only [nozzleLineHighEvent, fitted, uncoupled, and_self, if_true, after, wake_awake reached]
      simp only [State.updPoint, adjust, points]
      rfl
    exact congrArg Host.Outcome.next (takeEvent_eq ready.1 (by rw [event]; exact (congrArg StockUnit.reports (State.reach_stock ..)).trans ready.2)
      |>.trans event)

end Sys2Proof.Machine

/-! # An exhaustion report handed to the points (R39, R70) -/

namespace Sys2Proof.Machine

open Sys2Proof

theorem Moves.bay {K : List Part} {H : Set Law} {s t : State} (h : Moves K H s t)
    (hK : ∀ x ∈ [Part.curtailed, .mode, .bayRest], x ∉ K := by decide) : t.bay = s.bay := by
  obtain ⟨offset, clockSet, nextShift, restart⟩ := h.same .bayRest (hK _ (by simp))
  have curtailed : t.bay.curtailed = s.bay.curtailed := h.same .curtailed (hK _ (by simp))
  have mode : t.bay.mode = s.bay.mode := h.same .mode (hK _ (by simp))
  have stopped := h.stopped
  generalize t.bay = u at *
  generalize s.bay = v at *
  cases u
  cases v
  simp_all

theorem State.Journaled.refl (s : State) : s.Journaled s := .of_same rfl (Nat.le_refl _)

/-! ## A stop that posts nothing (R14, R32, R33) -/

/-- The last window of a point holds nothing more: it has counted nothing, or the window has just been handed. -/
def State.Spent (s : State) (ended : Option PointId) (p : PointId) : Prop :=
  (s.point p).state = .identifying ∨ (s.point p).state = .awaitPump → ended = some p ∨ (s.point p).meter.CountedNothing

section
variable {ended : Option PointId} {p : PointId} {s : State} {o : Order}

/-- R32, R33, R44: the close of an order that waits, when its last window holds nothing more. -/
theorem closeAtOnce_spent (order : (s.point p).order = some o) (h : ended = some p ∨ (s.point p).meter.CountedNothing) (c : Cause) :
    ∃ u : PointUnit, u.order.map (fun x => (x.number, x.termination, x.secondaries, x.gross, x.net, x.entries)) =
        some (o.number, some c, o.secondaries, o.gross, o.net, o.entries) ∧
      closeAtOnce ended p c s = finishClose p (s.updPoint p fun _ => u) := by
  by_cases own : ended = some p
  · refine ⟨{ s.point p with order := some { o with termination := some c } }, rfl, ?_⟩
    have marked : s.updOrder p (fun o => { o with termination := some c }) =
        s.updPoint p fun _ => { s.point p with order := some { o with termination := some c } } := by
      simp only [State.updOrder, State.updPoint, adjust, show (look s.points p).order = some o from order, Option.map_some]
      rfl
    rw [closeAtOnce, if_pos own, marked]
  · obtain ⟨r, gross, net, closed⟩ := closeAtOnce_nothing order (h.resolve_left own) c
    refine ⟨{ s.point p with meter := .idle, order := some (o.closedWith c r) }, ?_, ?_⟩
    · simp only [Option.map_some, Order.closedWith, addResult, gross, net, Nat.add_zero]
    · have alone : closeAtOnce ended p c s = closeAtOnce none p c s := by
        rw [closeAtOnce, closeAtOnce, if_neg own, if_neg nofun]
      rw [alone, closed]
      rfl

/-- R32, R33, R70: what a stop makes of the order of its point, in an event that ends in a state `t`. -/
theorem stopPoint_reportTaken (order : (s.point p).order = some o) (spent : s.Spent ended p) {c : Cause} {t : State}
    (records : (stopPoint ended c p s).Journaled t) (same : t.point p = (stopPoint ended c p s).point p) (clock : t.clock = s.clock) :
    s.ReportTaken p c t := by
  have closes (waits : (s.point p).state = .identifying ∨ (s.point p).state = .awaitPump) :
      (t.point p).state = .idle ∧ (t.point p).order = none ∧ (t.point p).valve = false ∧
        (t.point p).meter = .idle ∧ t.HoldsRecord p o c := by
    obtain ⟨u, figures, closed⟩ := closeAtOnce_spent order (spent waits) c
    rw [stopPoint_waiting ended waits, closed] at records same
    obtain ⟨x, held, eq⟩ := Option.map_eq_some_iff.1 figures
    have holds : ((s.updPoint p fun _ => u).point p).order = some x := by rw [point_updPoint_self]; exact held
    have journal := finishClose_journal holds
    have point := (finishClose_point holds p).trans (if_pos rfl)
    simp only [Prod.mk.injEq] at eq
    obtain ⟨number, termination, secondaries, gross, net, entries⟩ := eq
    rw [same, point]
    refine ⟨rfl, rfl, rfl, rfl, _, records.mem (by rw [journal]; exact List.getLast?_concat ..), number, rfl, ?_,
      secondaries, gross, net, entries⟩
    exact congrArg (fun y => y.getD .stopped) termination
  unfold State.ReportTaken
  cases state : (s.point p).state with
  | identifying => simp only [order]; exact closes (.inl state)
  | awaitPump => simp only [order]; exact closes (.inr state)
  | priming | flowing =>
    simp only [order]
    rw [stopPoint_flows (by simp [state])] at same
    have stopped : t.point p = (s.point p).stopped s.clock c := same.trans (look_put_self ..)
    rw [stopped, clock]
    exact ⟨rfl, rfl, rfl, congrArg (Option.map _) order⟩
  | stopping =>
    simp only [order]
    rw [stopPoint_stopping state] at same
    refine same.trans ((look_put_self ..).trans ?_)
    simp only [PointUnit.takesSecondary, order, Option.map_some]
  | disabled | idle =>
    simp only
    rw [stopPoint_free (by simp [state])] at same
    exact same

/-- R14, R32, R33: a stop that posts nothing leaves the stock and the inlets as they are. -/
theorem stopPoint_spent (order : (s.point p).order = some o) (spent : s.Spent ended p) (c : Cause) :
    (stopPoint ended c p s).stock = s.stock ∧ (stopPoint ended c p s).inlets = s.inlets := by
  have closes (waits : (s.point p).state = .identifying ∨ (s.point p).state = .awaitPump) :
      (stopPoint ended c p s).stock = s.stock ∧ (stopPoint ended c p s).inlets = s.inlets := by
    obtain ⟨u, -, closed⟩ := closeAtOnce_spent order (spent waits) c
    have moves := finishClose_moves p (s.updPoint p fun _ => u)
    rw [stopPoint_waiting ended waits, closed]
    exact ⟨moves.stock, moves.same .inlets⟩
  cases state : (s.point p).state with
  | identifying => exact closes (.inl state)
  | awaitPump => exact closes (.inr state)
  | priming | flowing => rw [stopPoint_flows (by simp [state])]; exact ⟨rfl, rfl⟩
  | stopping => rw [stopPoint_stopping state]; exact ⟨rfl, rfl⟩
  | disabled | idle => rw [stopPoint_free (by simp [state])]; exact ⟨rfl, rfl⟩

end

/-! ## The only report of an event -/

/-- What a report of a product makes of one point. -/
def reportAt (ended : Option PointId) (r : Exhaustion) (p : PointId) (s : State) : State :=
  if (s.point p).order.any fun o => o.product = r.product then stopPoint ended r.reason p s else s

theorem takeReport_eq (ended : Option PointId) (r : Exhaustion) (s : State) :
    takeReport ended r s = forEach allPoints (reportAt ended r) s := rfl

section
variable {ended : Option PointId} {r : Exhaustion}

theorem reportAt_point_ne {p q : PointId} (s : State) (ne : p ≠ q) : (reportAt ended r p s).point q = s.point q := by
  unfold reportAt
  split
  · exact stopPoint_point_ne _ _ s ne
  · rfl

theorem reportAt_winds (p : PointId) (s : State) : s.Winds (reportAt ended r p s) := by
  unfold reportAt
  split
  · exact stopPoint_winds ..
  · exact .refl s

theorem reportAt_moves (p : PointId) (s : State) : Moves orderParts ∅ s (reportAt ended r p s) := by
  unfold reportAt
  split
  · exact stopPoint_moves ..
  · exact .refl ..

theorem State.Spent.of_point {p : PointId} {s t : State} (h : s.Spent ended p) (same : t.point p = s.point p) : t.Spent ended p := by
  unfold State.Spent
  rw [same]
  exact h

theorem reportAt_spent {p : PointId} {s : State} (spent : s.Spent ended p) :
    (reportAt ended r p s).stock = s.stock ∧ (reportAt ended r p s).inlets = s.inlets := by
  unfold reportAt
  split
  · next named =>
    obtain ⟨o, order, -⟩ := (Option.any_eq_true ..).1 named
    exact stopPoint_spent order spent _
  · exact ⟨rfl, rfl⟩

theorem forEach_reportAt_spent {ps : List PointId} (distinct : ps.Nodup) {s : State} (spent : ∀ q ∈ ps, s.Spent ended q) :
    (forEach ps (reportAt ended r) s).stock = s.stock ∧ (forEach ps (reportAt ended r) s).inlets = s.inlets := by
  induction ps generalizing s with
  | nil => exact ⟨rfl, rfl⟩
  | cons p ps ih =>
    rw [List.nodup_cons] at distinct
    obtain ⟨stock, inlets⟩ := reportAt_spent (r := r) (spent p List.mem_cons_self)
    obtain ⟨stock', inlets'⟩ := ih distinct.2 (s := reportAt ended r p s) fun q mem =>
      (spent q (List.mem_cons_of_mem p mem)).of_point (reportAt_point_ne s (ne_of_mem_of_not_mem mem distinct.1).symm)
    exact ⟨stock'.trans stock, inlets'.trans inlets⟩

/-- R39, R70: a report leaves the stock and the inlets as they are, and each point with an order on its product takes it. -/
theorem takeReport_taken {s : State} (spent : ∀ q, s.Spent ended q) :
    (takeReport ended r s).stock = s.stock ∧ (takeReport ended r s).inlets = s.inlets ∧
      ∀ t : State, (takeReport ended r s).Journaled t → t.clock = s.clock → ∀ q, t.point q = (takeReport ended r s).point q →
        if ∃ o ∈ (s.point q).order, o.product = r.product then s.ReportTaken q r.reason t else t.point q = s.point q := by
  obtain ⟨stock, inlets⟩ := forEach_reportAt_spent (r := r) (show allPoints.Nodup by decide) fun q _ => spent q
  refine ⟨stock, inlets, fun t records clock q same => ?_⟩
  obtain ⟨as, bs, before, after, round⟩ := forEach_round (show allPoints.Nodup by decide) (mem_allPoints q) (reportAt ended r)
  rw [takeReport_eq, round] at records same
  have others {ps : List PointId} (out : q ∉ ps) (u : State) : (forEach ps (reportAt ended r) u).point q = u.point q :=
    forEach_induction (P := fun v => v.point q = u.point q)
      (fun p mem v hv => (reportAt_point_ne v (ne_of_mem_of_not_mem mem out)).trans hv) rfl
  have unit := others before s
  have time : (forEach as (reportAt ended r) s).clock = s.clock :=
    (Moves.forEach (K := orderParts) (H := ∅) as _ (fun p _ u => reportAt_moves p u) s).same .clock
  rw [others after] at same
  have rest : (reportAt ended r q (forEach as (reportAt ended r) s)).Journaled t :=
    (State.Winds.forEach (fun p u => reportAt_winds p u) bs _).journal.trans records
  generalize forEach as (reportAt ended r) s = u at unit time same rest
  by_cases named : ∃ o ∈ (s.point q).order, o.product = r.product
  · rw [if_pos named]
    obtain ⟨o, order, product⟩ := named
    have stops : reportAt ended r q u = stopPoint ended r.reason q u :=
      if_pos ((Option.any_eq_true ..).2 ⟨o, unit ▸ order, by simpa using product⟩)
    rw [stops] at same rest
    have taken := stopPoint_reportTaken (unit ▸ order) ((spent q).of_point unit) rest same (clock.trans time.symm)
    unfold State.ReportTaken at taken ⊢
    rw [unit] at taken
    exact taken
  · rw [if_neg named, same, reportAt, if_neg, unit]
    intro h
    obtain ⟨o, order, product⟩ := (Option.any_eq_true ..).1 h
    exact named ⟨o, unit ▸ order, by simpa using product⟩

/-- R39, R70: the only report of an event, where no order that waits posts anything as it closes. -/
theorem handReportsAt_one {s : State} (one : s.stock.reports = [r]) (spent : ∀ q, s.Spent ended q) :
    (handReportsAt ended s).stock = { s.stock with reports := [] } ∧ (handReportsAt ended s).inlets = s.inlets ∧
      ∀ t : State, (handReportsAt ended s).Journaled t → t.clock = s.clock → ∀ q, t.point q = (handReportsAt ended s).point q →
        if ∃ o ∈ (s.point q).order, o.product = r.product then s.ReportTaken q r.reason t else t.point q = s.point q := by
  have dropped : ∀ q, (dropReports s).Spent ended q := spent
  obtain ⟨stock, inlets, taken⟩ := takeReport_taken (r := r) dropped
  have whole : handReportsAt ended s = takeReport ended r (dropReports s) :=
    handReportsAt_single one (by rw [stock]; rfl)
  rw [whole]
  exact ⟨stock, inlets, taken⟩

end

end Sys2Proof.Machine

/-! # A posting to a tank, and the exhaustion report it may make (R66 to R73) -/

namespace Sys2Proof.Machine

open Sys2Proof

/-- R71: what a posting to a tank leaves, its exhaustion report not yet handed. -/
structure State.PostedTo (s : State) (k : TankId) (amount : Int) (t : State) : Prop where
  rest : t = { s with
    stock := { s.stock with tanks := put s.stock.tanks k (s.posted k amount), draws := t.stock.draws, reports := t.stock.reports }
    links := t.links }
  draws : ∀ j, t.draw j = s.drawPosted k amount j
  reports : t.stock.reports = s.stock.reports ++
    if s.exhausts k amount then [⟨(s.tankSet k).product, s.exhaustionReason (s.tankSet k).product⟩] else []
  noticed : s.Noticed t

section
variable {k : TankId} {amount : Int} {s : State}

/-- R66, R68, R71, R78: the tank as posted, with the notice of its low alarm. -/
theorem postToTank_tank (k : TankId) (amount : Int) (s : State) : ∃ u : State,
    SameButLinks (s.updTank k fun _ => s.posted k amount) u ∧ s.Noticed u ∧
      postToTank k amount s = checkIfMoved k (s.tank k) u := by
  set booked := s.updTank k fun x => { x with book := x.book + amount } with hbooked
  set evaluated := evaluateConditions k booked with hevaluated
  have alarmed : SameButLinks evaluated (judgeLowAlarm k (s.tank k).book evaluated) ∧
      evaluated.Noticed (judgeLowAlarm k (s.tank k).book evaluated) := by
    unfold judgeLowAlarm
    dsimp only
    split
    · exact ⟨post_same _ _, post_noticed _ _⟩
    · exact ⟨rfl, .of_links rfl⟩
  refine ⟨restartQuiet k (judgeLowAlarm k (s.tank k).book evaluated), ?_, alarmed.2.once rfl, rfl⟩
  obtain ⟨same, -⟩ := alarmed
  generalize judgeLowAlarm k (s.tank k).book evaluated = v at same ⊢
  have tank : (evaluated.updTank k fun x => { x with quietStart := s.seconds, quietRef := x.gauged }) =
      s.updTank k fun _ => s.posted k amount := by
    simp only [hevaluated, evaluateConditions, hbooked, State.updTank, adjust, look_put_self, put_put]
    rfl
  unfold SameButLinks
  rw [← tank, same]
  rfl

theorem drawPosted_moved (moved : (s.posted k amount).low ≠ (s.tank k).low ∨ (s.posted k amount).full ≠ (s.tank k).full)
    (j : ProductId) : s.drawPosted k amount j =
      (chainCheck (s.tankSet k).product false (s.updTank k fun _ => s.posted k amount)).draw j := by
  unfold State.drawPosted
  dsimp only
  by_cases own : j = (s.tankSet k).product
  · rw [if_pos ⟨own, moved⟩]
  · rw [if_neg fun h => own h.1, chainCheck_draw_ne (Ne.symm own)]
    rfl

theorem drawPosted_still (still : ¬((s.posted k amount).low ≠ (s.tank k).low ∨ (s.posted k amount).full ≠ (s.tank k).full))
    (j : ProductId) : s.drawPosted k amount j = s.draw j :=
  if_neg fun h => still h.2

/-- R71: a posting, step by step, and what it leaves. -/
theorem postToTank_posted (k : TankId) (amount : Int) (s : State) : s.PostedTo k amount (postToTank k amount s) := by
  obtain ⟨u, same, noticed, posts⟩ := postToTank_tank k amount s
  have tank : u.tank k = s.posted k amount := by
    rw [same]
    exact tank_updTank_self ..
  have product : (u.tankSet k).product = (s.tankSet k).product := by rw [same]; rfl
  have draw (j : ProductId) : u.draw j = s.draw j := by rw [same]; rfl
  rw [posts, checkIfMoved, tank, product]
  by_cases moved : (s.posted k amount).low ≠ (s.tank k).low ∨ (s.posted k amount).full ≠ (s.tank k).full
  · rw [if_pos moved]
    have check := chainCheck_drawsMoved (s.tankSet k).product false u
    have after : u.drawAfter (s.tankSet k).product false =
        (s.updTank k fun _ => s.posted k amount).drawAfter (s.tankSet k).product false := by rw [same]; rfl
    refine ⟨?_, fun j => ?_, ?_, noticed.trans check.noticed⟩
    · have rest := check.rest
      generalize chainCheck (s.tankSet k).product false u = t at rest ⊢
      rw [rest, same]
      rfl
    · rw [drawPosted_moved moved, chainCheck_draw, chainCheck_draw, after, draw, draw]
      rfl
    · have handed : u.stock.reports = s.stock.reports := by rw [same]; rfl
      have reason : u.exhaustionReason (s.tankSet k).product = s.exhaustionReason (s.tankSet k).product := by rw [same]; rfl
      rw [chainCheck_reports, handed, reason, draw, State.exhausts, drawPosted_moved moved, chainCheck_current, after]
      congr 1
      simp only [Bool.and_eq_true, Option.isNone_iff_eq_none]
  · rw [if_neg moved]
    refine ⟨?_, fun j => by rw [drawPosted_still moved, draw], ?_, noticed⟩
    · have rest := same
      unfold SameButLinks at rest
      generalize u = t at rest ⊢
      rw [rest]
      rfl
    · have handed : u.stock.reports = s.stock.reports := by rw [same]; rfl
      have stays : s.exhausts k amount = false := by
        rw [State.exhausts, drawPosted_still moved]
        cases (s.draw (s.tankSet k).product).current <;> rfl
      rw [handed, stays]
      simp

end

/-! ## What a posting depends on -/

/-- R69: what makes a tank eligible. -/
theorem eligible_congr {s t : State} (store : t.store = s.store) (tanks : t.stock.tanks = s.stock.tanks) (shutdown : t.shutdown = s.shutdown)
    (receiving : t.receiving = s.receiving) : t.eligible = s.eligible := by
  have products : Part.products.same s t := congrArg Store.products store
  have latches : Part.latches.same s t := by simp only [Part.same, shutdown, and_self]
  have ready : t.ready = s.ready := ready_of_same tanks latches (congrArg Store.tanks store)
  unfold State.eligible
  rw [ready, receiving, isWaste_of_same products, productSet_of_same products]

theorem drawAfter_of_eligible {s t : State} {k : ProductId} (eligible : t.eligible = s.eligible) (draw : t.draw k = s.draw k)
    (set : t.productSet k = s.productSet k) (fromStart : Bool) : t.drawAfter k fromStart = s.drawAfter k fromStart := by
  simp only [State.drawAfter, State.firstEligible, eligible, draw, set]

/-- Two states in which a posting comes to the same. -/
structure State.SameStock (s t : State) : Prop where
  clock : t.clock = s.clock
  store : t.store = s.store
  receiving : t.receiving = s.receiving
  stock : t.stock = s.stock
  shutdown : t.shutdown = s.shutdown

section
variable {s t : State}

theorem State.SameStock.rest (h : s.SameStock t) : t = { s with
    bay := t.bay, points := t.points, pumps := t.pumps, inlets := t.inlets, accounts := t.accounts, journal := t.journal
    links := t.links, pending := t.pending } := by
  obtain ⟨clock, store, -, stock, shutdown⟩ := h
  rw [← clock, ← store, ← stock, ← shutdown]

theorem State.SameStock.posted (h : s.SameStock t) (k : TankId) (amount : Int) : t.posted k amount = s.posted k amount := by
  rw [h.rest]
  rfl

theorem drawPosted_eq (k : TankId) (amount : Int) (s : State) (j : ProductId) : s.drawPosted k amount j =
    if j = (s.tankSet k).product ∧
        ((s.posted k amount).low ≠ (s.tank k).low ∨ (s.posted k amount).full ≠ (s.tank k).full) then
      (s.draw j).moved ((s.updTank k fun _ => s.posted k amount).drawAfter j false)
    else s.draw j := by
  unfold State.drawPosted
  dsimp only
  split
  · next h =>
    obtain ⟨own, -⟩ := h
    subst own
    rw [chainCheck_draw, if_pos rfl]
    rfl
  · rfl

theorem State.SameStock.drawPosted (h : s.SameStock t) (k : TankId) (amount : Int) (j : ProductId) :
    t.drawPosted k amount j = s.drawPosted k amount j := by
  have posted := h.posted k amount
  have draw : t.draw j = s.draw j := by rw [State.draw, h.stock]; rfl
  have tank : t.tank k = s.tank k := by rw [State.tank, h.stock]; rfl
  have set : t.tankSet k = s.tankSet k := by rw [State.tankSet, h.store]; rfl
  have eligible : (t.updTank k fun _ => s.posted k amount).eligible = (s.updTank k fun _ => s.posted k amount).eligible :=
    eligible_congr h.store (by simp only [State.updTank, h.stock]) h.shutdown h.receiving
  have after := drawAfter_of_eligible (k := j) eligible draw
    (show t.productSet j = s.productSet j by rw [State.productSet, h.store]; rfl) false
  rw [drawPosted_eq, drawPosted_eq, posted, draw, tank, set, after]

theorem State.SameStock.exhausts (h : s.SameStock t) (k : TankId) (amount : Int) : t.exhausts k amount = s.exhausts k amount := by
  have draw : t.draw (s.tankSet k).product = s.draw (s.tankSet k).product := by rw [h.rest]; rfl
  have set : t.tankSet k = s.tankSet k := by rw [h.rest]; rfl
  rw [State.exhausts, State.exhausts, set, h.drawPosted, draw]

theorem State.SameStock.exhaustionReason (h : s.SameStock t) (k : ProductId) : t.exhaustionReason k = s.exhaustionReason k := by
  rw [h.rest]
  rfl

/-- R71: a posting after a part of the event that the stock does not depend on. -/
theorem State.PostedTo.of_sameStock {u : State} {k : TankId} {amount : Int} (h : t.PostedTo k amount u) (same : s.SameStock t) :
    u = { t with
      stock := { s.stock with tanks := put s.stock.tanks k (s.posted k amount), draws := u.stock.draws, reports := u.stock.reports }
      links := u.links } ∧
    (∀ j, u.draw j = s.drawPosted k amount j) ∧
    u.stock.reports = s.stock.reports ++
      (if s.exhausts k amount then [⟨(s.tankSet k).product, s.exhaustionReason (s.tankSet k).product⟩] else []) ∧
    t.Noticed u := by
  obtain ⟨rest, draws, reports, noticed⟩ := h
  have set : t.tankSet k = s.tankSet k := by simp only [State.tankSet, same.store]
  refine ⟨?_, fun j => (draws j).trans (same.drawPosted k amount j), ?_, noticed⟩
  · rw [same.posted, same.stock] at rest
    exact rest
  · rw [reports, same.exhausts, same.exhaustionReason, set, same.stock]

end

end Sys2Proof.Machine

/-! # Stock adjustments -/

namespace Sys2Proof.Machine

open Sys2Proof

/-- R176: what the judgement of a reserve changes. -/
theorem judgeCurtail_rest (s : State) : judgeCurtail s = { s with
    bay := { s.bay with curtailed := (judgeCurtail s).bay.curtailed }, links := (judgeCurtail s).links } := by
  unfold judgeCurtail
  split
  · have post := post_same (journalHigh true s.journal) { s with bay := { s.bay with curtailed := true } }
    generalize ({ s with bay := { s.bay with curtailed := true } } : State).post (journalHigh true s.journal) = t at post
    rw [post]
  · rfl

theorem judgeCurtail_noticed (s : State) : s.Noticed (judgeCurtail s) := by
  unfold judgeCurtail
  split
  · exact (post_noticed _ _).once rfl
  · exact .of_links rfl

theorem State.Spent.of_waiters {s : State} (h : s.WaitersCountedNothing) {t : State} (points : t.points = s.points) (q : PointId) :
    t.Spent none q := by
  intro waits
  rw [point_of_points points] at waits ⊢
  exact .inr (h q waits)

section
variable {v : Via} {t : TankId} {form : AdjustForm} {change : Int} {s : State}

/-- R81: the tank that an adjustment leaves. -/
def State.tankAdjusted (s : State) (t : TankId) (change : Int) : Tank :=
  { s.posted t change with
    rebased := false, variance := (s.tank t).gauged.map (fun g => g - decilitres ((s.tank t).book + change)) }

/-- R81: the stock after an adjustment, before its record. -/
theorem adjusted_posted (h : adjustChange form (s.tank t) = change) :
    s.adjusted t form = { s with
      journal := { s.journal with nextOrder := nextCount s.journal.nextOrder }
      stock := { s.stock with
        tanks := put s.stock.tanks t (s.tankAdjusted t change)
        draws := (s.adjusted t form).stock.draws
        reports := (s.adjusted t form).stock.reports }
      links := (s.adjusted t form).links } ∧
    (∀ j, (s.adjusted t form).draw j = s.drawPosted t change j) ∧
    (s.adjusted t form).stock.reports = s.stock.reports ++
      (if s.exhausts t change then [⟨(s.tankSet t).product, s.exhaustionReason (s.tankSet t).product⟩] else []) ∧
    s.Noticed (s.adjusted t form) := by
  obtain ⟨rest, draws, reports, noticed⟩ := (postToTank_posted t change (takeOrderNumber s)).of_sameStock (s := s)
    ⟨rfl, rfl, rfl, rfl, rfl⟩
  have adjusts : s.adjusted t form = (recomputeVariance t (postToTank t change (takeOrderNumber s))).updTank t
      fun x => { x with rebased := false } := by rw [State.adjusted, h]
  rw [adjusts]
  refine ⟨?_, draws, reports, noticed⟩
  generalize postToTank t change (takeOrderNumber s) = p at rest
  have once : (recomputeVariance t p).updTank t (fun x => { x with rebased := false }) =
      p.updTank t fun x => { x with variance := x.gauged.map fun g => g - decilitres x.book, rebased := false } := by
    simp only [recomputeVariance, State.updTank, adjust_adjust]
  rw [once, rest]
  simp only [State.updTank, adjust, look_put_self, put_put]
  rfl

/-- R81: an adjustment with its record, its exhaustion report not yet handed. -/
theorem adjustTaken_rest (h : adjustChange form (s.tank t) = change) (clear : s.bay.curtailed = false) :
    let c := (adjustTaken v t form s).state
    c = { s with
      journal := { s.journal with
        nextOrder := nextCount s.journal.nextOrder
        held := ringAfter s.journal.held (adjustmentRecord t form v.link s s.journal.nextPosition)
        nextPosition := s.journal.nextPosition + 1
        uncollected := s.journal.uncollected + 1 }
      bay := { s.bay with curtailed := decide (480 ≤ s.journal.uncollected + s.journal.openCount + 1) }
      stock := { s.stock with
        tanks := put s.stock.tanks t (s.tankAdjusted t change)
        draws := c.stock.draws
        reports := c.stock.reports }
      links := c.links } ∧
    (∀ j, c.draw j = s.drawPosted t change j) ∧
    c.stock.reports = s.stock.reports ++
      (if s.exhausts t change then [⟨(s.tankSet t).product, s.exhaustionReason (s.tankSet t).product⟩] else []) ∧
    s.Noticed c := by
  obtain ⟨rest, draws, reports, noticed⟩ := adjusted_posted h
  intro c
  set w := journalWrite (adjustmentRecord t form v.link s) false (s.adjusted t form) with hw
  have judged : c = { w with bay := { w.bay with curtailed := c.bay.curtailed }, links := c.links } := judgeCurtail_rest w
  have stock : c.stock = (s.adjusted t form).stock := by rw [judged]; rfl
  have flag : c.bay.curtailed = decide (480 ≤ s.journal.uncollected + s.journal.openCount + 1) := by
    have written : w.bay.curtailed = false := by rw [hw, journalWrite, rest]; exact clear
    have reserve : w.journal.reserve = s.journal.uncollected + s.journal.openCount + 1 := by
      rw [hw, journalWrite, rest]
      simp only [Journal.reserve, Bool.false_eq_true, if_false]
      omega
    exact (judgeCurtail_curtailed w).trans (by rw [written, reserve, Bool.false_or]; rfl)
  refine ⟨?_, fun j => ?_, by rw [stock, reports], noticed.trans ((judgeCurtail_noticed w).once rfl)⟩
  · rw [flag] at judged
    rw [stock]
    generalize c.links = links at judged
    rw [judged, hw, journalWrite, rest]
    rfl
  · rw [← draws]
    simp only [State.draw, stock]

end

/-- Settles O41. -/
theorem adjustmentTaken : Obligations.AdjustmentTaken := by
  intro v t s ready zero permitted x product content taken free
  have accepted {i : Instr} {form : AdjustForm} (runs : exec i s = .next (serveRequest v 0x21 i s)) (awake : wakeBy i s = s)
      (asked : requestAnswer i s = adjustChecked v t form s)
      (passes : firstFailure [(s.bay.curtailed, .journalFull), (s.tankBusy t, .tankBusy),
        (form = .setToGauge && (x.gauge = .fault || x.gauge = .waiting) || x.rebasePending, .noGauge)] = none) :
      exec i s = .next (answered v 0x21 .ok content (handReports (adjustTaken v t form s).state)) := by
    rw [runs]
    refine congrArg Host.Outcome.next (request_handed (code := 0x21) (status := .ok) ready awake ?_ (.inr (hasPart_of_zero zero)))
    rw [asked, adjustChecked]
    exact checked_none passes
  have refused {i : Instr} {form : AdjustForm} {st : Status} (runs : exec i s = .next (serveRequest v 0x21 i s)) (awake : wakeBy i s = s)
      (asked : requestAnswer i s = adjustChecked v t form s)
      (fails : firstFailure [(s.bay.curtailed, .journalFull), (s.tankBusy t, .tankBusy),
        (form = .setToGauge && (x.gauge = .fault || x.gauge = .waiting) || x.rebasePending, .noGauge)] = some st) :
      exec i s = .next (answered v 0x21 st [] s) := by
    rw [runs]
    refine congrArg Host.Outcome.next (request_answered (code := 0x21) ready awake ?_ ready.2 (.inr (hasPart_of_zero zero)))
    rw [asked, adjustChecked]
    exact checked_some fails
  have gauge : requestAnswer (.adjustStockSetToGauge v (numberOf t)) s = adjustChecked v t .setToGauge s := by
    change adjustSetToGaugeRequest v (numberOf t) s = _
    simp only [adjustSetToGaugeRequest, permitted, numbered_numberOf, Bool.not_true, Bool.false_eq_true, if_false]
  have delta (f : AdjustDelta) : requestAnswer (.adjustStockDelta v (numberOf t) f) s =
      if f.amount.natAbs ≤ 9999999 ∧ f.reason ≤ 15 then adjustChecked v t (.delta f) s else refuse .range s := by
    change adjustDeltaRequest v (numberOf t) f s = _
    simp only [adjustDeltaRequest, permitted, numbered_numberOf, Bool.not_true, Bool.false_eq_true, if_false]
  have whole {form : AdjustForm} {change : Int} (h : adjustChange form (s.tank t) = change) (all : free) :
      taken form change (handReports (adjustTaken v t form s).state) := by
    obtain ⟨clear, -, -, calm, waiters⟩ := all
    obtain ⟨rest, draws, reports, noticed⟩ := adjustTaken_rest (v := v) h clear
    rw [show s.stock.reports = [] from ready.2, List.nil_append] at reports
    set c := (adjustTaken v t form s).state with hc
    have moves := handReports_moves c
    have winds := handReports_winds c
    have marks := handReports_marks c
    have reason : s.exhaustionReason product = s.emptyReason product := by
      rw [State.exhaustionReason, calm]
      rfl
    have points : c.points = s.points := by rw [rest]
    have spent : ∀ q, c.Spent none q := State.Spent.of_waiters waiters points
    have handed : (handReports c).stock = { c.stock with reports := [] } ∧ (handReports c).inlets = c.inlets := by
      split at reports
      · obtain ⟨stock, inlets, -⟩ := handReportsAt_one reports spent
        exact ⟨stock, inlets⟩
      · rw [handReports_none reports]
        exact ⟨by rw [← reports], rfl⟩
    obtain ⟨stock, inlets⟩ := handed
    have tanks : (handReports c).stock.tanks = put s.stock.tanks t (s.tankAdjusted t change) := by rw [stock, rest]
    have last : c.journal.held.getLast? = some (adjustmentRecord t form v.link s s.journal.nextPosition) := by
      rw [rest]
      exact List.getLast?_concat ..
    refine ⟨?_, rfl, fun other ne => ?_, fun j => ?_, by rw [stock], ?_, ?_, ?_, ?_, ?_, ?_, ?_, ?_, ?_, ?_, fun still => ?_, fun empties q => ?_⟩
    · rw [State.tank, tanks, look_put_self]; rfl
    · rw [State.tank, tanks, look_put_ne _ _ ne.symm]; rfl
    · rw [← draws, State.draw, stock]; rfl
    · refine ⟨_, winds.journal.mem last, rfl, rfl, rfl, rfl, rfl, ?_, ?_, rfl, ?_, rfl, rfl, rfl, fun still => ?_⟩
      · exact h
      · exact congrArg decilitres h
      · exact congrArg (x.book + ·) h
      · rw [handReports_none (by rw [reports, if_neg still])]
        exact last
    · rw [marks.1, rest]
    · rw [marks.2, rest]
    · rw [inlets, rest]
    · rw [moves.shutdown, rest]
    · rw [moves.store, rest]
    · rw [show (handReports c).clock = c.clock from moves.same .clock, rest]
    · rw [moves.pending, rest]
    · rw [moves.bay, rest]
    · rw [stock, rest]
      exact (StockUnit.mk.injEq ..).mpr ⟨rfl, rfl, rfl, ready.2.symm, rfl⟩
    · rw [handReports_none (by rw [reports, if_neg still])]
      refine ⟨by rw [rest], by rw [rest], by rw [rest], by rw [rest], by rw [rest], ?_, fun l => (noticed l).rest⟩
      rw [rest]
      exact List.dropLast_concat
    · rw [if_pos empties, reason] at reports
      obtain ⟨-, -, taken⟩ := handReportsAt_one reports spent
      have each := taken (handReports c) (.refl _) (moves.same .clock) q rfl
      unfold State.ReportTaken at each ⊢
      rwa [point_of_points points] at each
  refine ⟨fun g all fit gauged => ⟨_, accepted rfl rfl gauge ?_, whole ?_ all⟩, fun f all amount reason =>
    ⟨_, accepted rfl rfl ((delta f).trans (if_pos ⟨amount, reason⟩)) ?_, whole rfl all⟩, fun f beyond => ?_, fun i setsToGauge asks => ?_⟩
  · obtain ⟨clear, calm, settled, -⟩ := all
    have gauge : (x.gauge = .fault || x.gauge = .waiting) = false := by rcases fit with h | h <;> simp [h]
    simp [firstFailure, clear, calm, gauge, settled]
  · change x.gauged.getD 0 * 100000 - x.book = _
    rw [gauged]
    rfl
  · obtain ⟨clear, calm, settled, -⟩ := all
    simp [firstFailure, clear, calm, settled]
  · refine congrArg Host.Outcome.next (request_refused (code := 0x21) ready rfl ((delta f).trans (if_neg ?_)) rfl)
    omega
  · have asked : ∃ form : AdjustForm, exec i s = .next (serveRequest v 0x21 i s) ∧ wakeBy i s = s ∧
        requestAnswer i s = adjustChecked v t form s ∧ (form = .setToGauge ↔ setsToGauge = true) := by
      rcases asks with ⟨rfl, rfl⟩ | ⟨f, rfl, rfl, amount, reason⟩
      · exact ⟨.setToGauge, rfl, rfl, gauge, by simp⟩
      · exact ⟨.delta f, rfl, rfl, (delta f).trans (if_pos ⟨amount, reason⟩), by simp⟩
    obtain ⟨form, runs, awake, checks, sets⟩ := asked
    refine ⟨fun full => refused runs awake checks ?_, fun clear busy => refused runs awake checks ?_,
      fun clear calm unfit => refused runs awake checks ?_⟩
    · simp [firstFailure, full]
    · simp [firstFailure, clear, busy]
    · have ungauged : (form = .setToGauge && (x.gauge = .fault || x.gauge = .waiting) || x.rebasePending) = true := by
        simp only [Bool.or_eq_true, Bool.and_eq_true, decide_eq_true_eq, sets]
        exact unfit.symm
      rw [clear, calm, ungauged]
      rfl

end Sys2Proof.Machine

/-! # Gauge readings and stock checks -/

namespace Sys2Proof.Machine

open Sys2Proof

/-! ## The stock check (R77) -/

/-- R77: the run of a tank out of tolerance, after a stock check. -/
def State.runAfter (s : State) (k : TankId) : Nat :=
  if (s.tank k).gauge = .good ∨ (s.tank k).gauge = .held then
    match (s.tank k).variance with
    | none => (s.tank k).runCount
    | some x => if ((s.tankSet k).tolerance : Int) < x.natAbs then min 3 ((s.tank k).runCount + 1) else 0
  else (s.tank k).runCount

/-- R77: the notice of a tank that a stock check finds out of tolerance for the third time. -/
def State.varianceNotice (s : State) (k : TankId) : Option Notice :=
  match (s.tank k).variance with
  | none => none
  | some off =>
    if ((s.tank k).gauge = .good ∨ (s.tank k).gauge = .held) ∧ ((s.tankSet k).tolerance : Int) < off.natAbs ∧ (s.tank k).runCount = 2
    then some (.stockVariance k (decilitres (s.tank k).book) (s.tank k).gauged off)
    else none

theorem stockCheckTank_eq (k : TankId) (s : State) : stockCheckTank k s =
    postAll (s.varianceNotice k).toList (s.updTank k fun x => { x with runCount := s.runAfter k }) := by
  have still : (s.updTank k fun x => { x with runCount := (s.tank k).runCount }) = s := by
    have same : put s.stock.tanks k (s.tank k) = s.stock.tanks := put_look ..
    simp only [State.updTank, adjust]
    exact congrArg (fun tanks => { s with stock := { s.stock with tanks := tanks } }) same
  unfold stockCheckTank State.varianceNotice State.runAfter
  dsimp only
  by_cases gauges : (s.tank k).gauge = .good ∨ (s.tank k).gauge = .held
  · simp only [gauges, true_and]
    cases variance : (s.tank k).variance with
    | none => exact still.symm
    | some off =>
      dsimp only
      by_cases far : ((s.tankSet k).tolerance : Int) < off.natAbs
      · simp only [far, true_and, if_true]
        by_cases third : (s.tank k).runCount = 2
        · rw [if_pos third, if_pos ⟨by omega, by omega⟩]
          rfl
        · rw [if_neg third, if_neg (by omega)]
          rfl
      · simp only [far, false_and, if_false]
        rfl
  · simp only [gauges, false_and, if_false]
    cases (s.tank k).variance <;> exact still.symm

theorem postAll_append (ns ms : List Notice) (s : State) : postAll (ns ++ ms) s = postAll ms (postAll ns s) := forEach_append ..

theorem postAll_same (ns : List Notice) (s : State) : SameButLinks s (postAll ns s) :=
  forEach_induction (P := SameButLinks s) (fun n _ u hu => by
    unfold SameButLinks at hu ⊢
    have post := post_same n u
    unfold SameButLinks at post
    generalize u.post n = v at post
    rw [post, hu]) rfl

theorem postAll_links_congr (ns : List Notice) {s t : State} (links : t.links = s.links) (store : t.store = s.store)
    (clock : t.clock = s.clock) : (postAll ns t).links = (postAll ns s).links := by
  induction ns generalizing s t with
  | nil => exact links
  | cons n ns ih =>
    have post := post_same n s
    have post' := post_same n t
    refine ih (post_links_congr n links store clock) ?_ ?_
    · exact (congrArg State.store post' :).trans (store.trans (congrArg State.store post :).symm)
    · exact (congrArg State.clock post' :).trans (clock.trans (congrArg State.clock post :).symm)

theorem stockCheckTank_rest (k : TankId) (s : State) :
    let t := stockCheckTank k s
    t = { s with stock := { s.stock with tanks := t.stock.tanks }, links := t.links } ∧
      t.links = (postAll (s.varianceNotice k).toList s).links ∧
      ∀ j, t.tank j = if k = j then { s.tank k with runCount := s.runAfter k } else s.tank j := by
  intro t
  have once : t = _ := stockCheckTank_eq k s
  have posted : t = { s.updTank k fun x => { x with runCount := s.runAfter k } with links := t.links } := by
    have same := postAll_same (s.varianceNotice k).toList (s.updTank k fun x => { x with runCount := s.runAfter k })
    rw [← once] at same
    exact same
  refine ⟨?_, ?_, fun j => ?_⟩
  · generalize t = u at posted ⊢
    rw [posted]
    rfl
  · rw [once]
    exact postAll_links_congr _ rfl rfl rfl
  · generalize t = u at posted ⊢
    rw [posted]
    exact tank_updTank ..

theorem varianceNotice_congr {s t : State} {k : TankId} (tank : t.tank k = s.tank k) (set : t.tankSet k = s.tankSet k) :
    t.varianceNotice k = s.varianceNotice k := by
  simp only [State.varianceNotice, tank, set]

theorem runAfter_congr {s t : State} {k : TankId} (tank : t.tank k = s.tank k) (set : t.tankSet k = s.tankSet k) :
    t.runAfter k = s.runAfter k := by
  simp only [State.runAfter, tank, set]

/-- R77: a stock check of several tanks: their runs and their notices. -/
theorem stockChecks_eq {ks : List TankId} (distinct : ks.Nodup) (s : State) :
    let t := forEach ks stockCheckTank s
    t = { s with stock := { s.stock with tanks := t.stock.tanks }, links := t.links } ∧
      t.links = (postAll (ks.filterMap s.varianceNotice) s).links ∧
      ∀ k, t.tank k = if k ∈ ks then { s.tank k with runCount := s.runAfter k } else s.tank k := by
  induction ks generalizing s with
  | nil => exact ⟨rfl, rfl, fun k => by simp [forEach]⟩
  | cons k ks ih =>
    obtain ⟨fresh, distinct⟩ := List.nodup_cons.1 distinct
    intro t
    obtain ⟨same, posted, first⟩ := stockCheckTank_rest k s
    have rest : _ ∧ _ ∧ _ := ih distinct (stockCheckTank k s)
    have next : forEach ks stockCheckTank (stockCheckTank k s) = t := rfl
    rw [next] at rest
    obtain ⟨rest, links, tanks⟩ := rest
    generalize stockCheckTank k s = u at same posted first rest links tanks
    have set (j : TankId) : u.tankSet j = s.tankSet j := by rw [same]; rfl
    have later (j : TankId) (mem : j ∈ ks) : u.tank j = s.tank j := by
      rw [first, if_neg]
      rintro rfl
      exact fresh mem
    refine ⟨?_, ?_, fun j => ?_⟩
    · generalize t = v at rest ⊢
      rw [rest, same]
    · have notices : (k :: ks).filterMap s.varianceNotice = (s.varianceNotice k).toList ++ ks.filterMap u.varianceNotice := by
        rw [List.filterMap_congr fun j mem => varianceNotice_congr (later j mem) (set j)]
        cases notice : s.varianceNotice k <;> simp [notice]
      rw [links, notices, postAll_append]
      have once := postAll_same (s.varianceNotice k).toList s
      generalize postAll (s.varianceNotice k).toList s = v at posted once ⊢
      exact postAll_links_congr _ posted (by rw [same, once]) (by rw [same, once])
    · rw [tanks]
      by_cases mem : j ∈ ks
      · rw [if_pos mem, if_pos (List.mem_cons_of_mem _ mem), runAfter_congr (later j mem) (set j), later j mem]
      · rw [if_neg mem, first]
        by_cases here : k = j
        · subst here
          rw [if_pos rfl, if_pos (List.mem_cons_self ..)]
        · rw [if_neg here, if_neg (by simp [mem, Ne.symm here])]

/-! ## A level at the high cut (R93) -/

/-- R93: an inlet that is RECEIVING into a tank whose gauged net has reached its high cut. -/
def State.receivesHigh (s : State) (k : TankId) (i : InletId) : Bool :=
  (s.inlet i).state = .receiving && ((s.inlet i).delivery.any fun d => d.tank = k) && s.gaugeAtHighCut k

/-- R93: an inlet after a reading of a tank has been compared with the high cut. -/
def State.levelStopped (s : State) (k : TankId) (i : InletId) : InletUnit :=
  if s.receivesHigh k i then
    { s.inlet i with
      state := .stopping, valve := false, stopDue := some (s.clock + 5000), stoppingAt := s.clock, stopRequestAt := none
      delivery := (s.inlet i).delivery.map fun d => { d with termination := some .highLevel } }
  else s.inlet i

section
variable (k : TankId) (s : State)

theorem judgeInlet_eq (i : InletId) : (if s.receivesHigh k i then stopInlet .highLevel i s else s) =
    { s with inlets := put s.inlets i (s.levelStopped k i) } := by
  unfold State.levelStopped
  by_cases high : s.receivesHigh k i = true
  · rw [if_pos high, if_pos high]
    simp only [State.receivesHigh, Bool.and_eq_true, decide_eq_true_eq] at high
    obtain ⟨⟨receives, into⟩, -⟩ := high
    obtain ⟨d, delivery, -⟩ := (Option.any_eq_true ..).1 into
    rw [stopInlet_receiving receives delivery, delivery, Option.map_some]
  · rw [if_neg high, if_neg high, show put s.inlets i (s.inlet i) = s.inlets from put_look ..]

theorem judgeGaugeLevel_eq : judgeGaugeLevel k s = { s with inlets := Vector.ofFn (s.levelStopped k) } := by
  have other (u : InletUnit) : ({ s with inlets := put s.inlets 0 u } : State).levelStopped k 1 = s.levelStopped k 1 := by
    have unit : ({ s with inlets := put s.inlets 0 u } : State).inlet 1 = s.inlet 1 := look_put_ne _ _ (by decide)
    simp only [State.levelStopped, State.receivesHigh, unit]
    rfl
  have steps : judgeGaugeLevel k s =
      { s with inlets := put (put s.inlets 0 (s.levelStopped k 0)) 1 (s.levelStopped k 1) } := by
    have first := judgeInlet_eq k s 0
    have second := judgeInlet_eq k { s with inlets := put s.inlets 0 (s.levelStopped k 0) } 1
    rw [other] at second
    refine Eq.trans ?_ second
    rw [← first]
    rfl
  rw [steps]
  refine congrArg (fun inlets => { s with inlets := inlets }) ((inlets_eq_ofFn { s with inlets := _ }).trans ?_)
  refine congrArg Vector.ofFn (funext fun i => ?_)
  match i with
  | 0 => exact (look_put_ne _ _ (by decide)).trans (look_put_self ..)
  | 1 => exact look_put_self ..

theorem levelStopped_flag (i : InletId) : (s.levelStopped k i).delivery.map (fun d => (d.holdsFlag, d.tank)) =
    (s.inlet i).delivery.map fun d => (d.holdsFlag, d.tank) := by
  unfold State.levelStopped
  split
  · rw [Option.map_map]
    rfl
  · rfl

end

theorem receiving_eq (s : State) (t : TankId) : s.receiving t = allInlets.any fun i =>
    ((s.inlet i).delivery.map fun d => (d.holdsFlag, d.tank)).any fun x => x.1 && decide (x.2 = t) := by
  unfold State.receiving
  refine congrArg allInlets.any (funext fun i => ?_)
  cases (s.inlet i).delivery <;> rfl

/-- R73: a delivery that stops holds its RECEIVING flag. -/
theorem judgeGaugeLevel_receiving (k : TankId) (s : State) : (judgeGaugeLevel k s).receiving = s.receiving := by
  have unit (i : InletId) : (judgeGaugeLevel k s).inlet i = s.levelStopped k i := by
    rw [judgeGaugeLevel_eq]
    simp [State.inlet, look]
  funext t
  simp only [receiving_eq, unit, levelStopped_flag]

/-! ## A reading taken (R74 to R76) -/

/-- R74 to R76: a tank after a valid reading of its gauge, its book as it was. -/
def State.readTank (s : State) (k : TankId) (r : GaugeReport) : Tank :=
  { s.tank k with
    gauge := .good, gauged := some (s.gaugedNet k r.level r.temperature), stable := r.stable, lastGood := some s.seconds
    overStrap := decide ((look (s.tankSet k).strapping 11).level < r.level)
    quietStart := if (s.tank k).gauge = .fault ∨ (s.tank k).gauge = .waiting then s.seconds else (s.tank k).quietStart
    quietRef := if (s.tank k).gauge = .fault ∨ (s.tank k).gauge = .waiting then some (s.gaugedNet k r.level r.temperature)
      else (s.tank k).quietRef
    variance := some (s.gaugedNet k r.level r.temperature - decilitres (s.tank k).book) }

section
variable (k : TankId) (r : GaugeReport) (s : State)

theorem takeReading_eq : takeReading k r s = recomputeVariance k (rebase k
    (s.updTank k fun _ => { s.readTank k r with variance := (s.tank k).variance })) := by
  unfold takeReading State.readTank
  dsimp only
  split
  · simp only [restartQuiet, State.updTank, adjust_adjust]
    rfl
  · rfl

theorem takeReading_settled (settled : (s.tank k).rebasePending = false) :
    takeReading k r s = s.updTank k fun _ => s.readTank k r := by
  have pending : ((s.updTank k fun _ => { s.readTank k r with variance := (s.tank k).variance }).tank k).rebasePending = false := by
    rw [tank_updTank_self]
    exact settled
  rw [takeReading_eq, rebase]
  dsimp only
  rw [if_neg (by rw [pending]; decide), recomputeVariance, updTank_updTank]
  rfl

/-! ## A rebase (R85) -/

/-- R85: a tank that waits for its rebase, after its first valid reading. -/
def State.rebasedTank : Tank :=
  let rebooked : Tank := { s.readTank k r with
    book := s.gaugedNet k r.level r.temperature * 100000, rebased := true, rebasePending := false, quietStart := s.seconds
    quietRef := some (s.gaugedNet k r.level r.temperature), variance := some 0 }
  { rebooked with
    low := lowAfter (s.tankSet k) (s.isWaste (s.tankSet k).product) rebooked
    full := fullAfter (s.tankSet k) (s.isWaste (s.tankSet k).product) rebooked }

/-- R85: the tank as rebased, with the notice of its low alarm, before its chain check and its variance. -/
theorem rebase_tank (pending : (s.tank k).rebasePending = true) : ∃ u : State,
    SameButLinks (s.updTank k fun _ => { s.rebasedTank k r with variance := (s.tank k).variance }) u ∧ s.Noticed u ∧
      takeReading k r s = recomputeVariance k (chainCheck (s.tankSet k).product false u) := by
  set read := s.updTank k fun _ => { s.readTank k r with variance := (s.tank k).variance } with hread
  have tank : read.tank k = { s.readTank k r with variance := (s.tank k).variance } := tank_updTank_self ..
  set booked := read.updTank k fun x => { x with book := x.gauged.getD 0 * 100000, rebased := true, rebasePending := false }
    with hbooked
  set evaluated := evaluateConditions k booked with hevaluated
  have alarmed : SameButLinks evaluated (judgeLowAlarm k (read.tank k).book evaluated) ∧
      evaluated.Noticed (judgeLowAlarm k (read.tank k).book evaluated) := by
    unfold judgeLowAlarm
    dsimp only
    split
    · exact ⟨post_same _ _, post_noticed _ _⟩
    · exact ⟨rfl, .of_links rfl⟩
  obtain ⟨same, noticed⟩ := alarmed
  have rebases : takeReading k r s = recomputeVariance k (chainCheck
      ((judgeLowAlarm k (read.tank k).book evaluated).tankSet k).product false
      (restartQuiet k (judgeLowAlarm k (read.tank k).book evaluated))) := by
    rw [takeReading_eq, rebase, ← hread]
    exact congrArg (recomputeVariance k) (if_pos (by rw [tank]; exact pending))
  refine ⟨restartQuiet k (judgeLowAlarm k (read.tank k).book evaluated), ?_, noticed.once rfl, ?_⟩
  · generalize judgeLowAlarm k (read.tank k).book evaluated = v at same ⊢
    have rebased : (evaluated.updTank k fun x => { x with quietStart := s.seconds, quietRef := x.gauged }) =
        s.updTank k fun _ => { s.rebasedTank k r with variance := (s.tank k).variance } := by
      simp only [hevaluated, evaluateConditions, hbooked, hread, State.updTank, adjust, look_put_self, put_put]
      rfl
    unfold SameButLinks
    rw [← rebased, same]
    rfl
  · have set : (judgeLowAlarm k (read.tank k).book evaluated).tankSet k = s.tankSet k := by rw [same]; rfl
    rw [rebases, set]

end

/-- R69: whether a tank can serve does not depend on its variance. -/
theorem eligible_variance (k : TankId) (x : Tank) (v : Option Int) (s : State) :
    (s.updTank k fun _ => { x with variance := v }).eligible = (s.updTank k fun _ => x).eligible := by
  have ready : (s.updTank k fun _ => { x with variance := v }).ready = (s.updTank k fun _ => x).ready := by
    funext t
    by_cases own : k = t
    · subst own
      simp only [State.ready, State.tankShows, tank_updTank_self]
      rfl
    · simp only [State.ready, State.tankShows, tank_updTank, if_neg own]
      rfl
  funext j t
  simp only [State.eligible, ready]
  rfl

theorem rebased_variance (k : TankId) (r : GaugeReport) (s : State) :
    (s.rebasedTank k r).gauged.map (fun g => g - decilitres (s.rebasedTank k r).book) = some 0 := by
  have whole (g : Int) : decilitres (g * 100000) = g := by
    unfold decilitres
    omega
  change some (s.gaugedNet k r.level r.temperature - decilitres (s.gaugedNet k r.level r.temperature * 100000)) = some 0
  rw [whole, Int.sub_self]

/-- R85: a rebase, its exhaustion report not yet handed. -/
theorem takeReading_pending {k : TankId} {r : GaugeReport} {s : State} (pending : (s.tank k).rebasePending = true) :
    let t := takeReading k r s
    let product := (s.tankSet k).product
    t = { s with
      stock := { s.stock with
        tanks := put s.stock.tanks k (s.rebasedTank k r), draws := t.stock.draws, reports := t.stock.reports }
      links := t.links } ∧
    (∀ j, t.draw j = (chainCheck product false (s.updTank k fun _ => s.rebasedTank k r)).draw j) ∧
    t.stock.reports = s.stock.reports ++
      (if (s.draw product).current.isSome ∧ (t.draw product).current = none then [⟨product, s.exhaustionReason product⟩] else []) ∧
    s.Noticed t := by
  intro t product
  obtain ⟨u, same, noticed, steps⟩ := rebase_tank k r s pending
  have check := chainCheck_drawsMoved product false u
  have draws (j : ProductId) : t.draw j = (chainCheck product false u).draw j := by
    change (takeReading k r s).draw j = _
    rw [steps]
    rfl
  have draw (j : ProductId) : u.draw j = s.draw j := by rw [same]; rfl
  have after : u.drawAfter product false = (s.updTank k fun _ => s.rebasedTank k r).drawAfter product false := by
    have eligible : u.eligible = (s.updTank k fun _ => s.rebasedTank k r).eligible := by
      rw [← eligible_variance k _ (s.tank k).variance, same]
      rfl
    have set : u.productSet product = (s.updTank k fun _ => s.rebasedTank k r).productSet product := by rw [same]; rfl
    exact drawAfter_of_eligible eligible (draw product) set false
  have moved : t.draw product = (s.draw product).moved (u.drawAfter product false) := by
    rw [draws, chainCheck_draw, if_pos rfl, draw]
  refine ⟨?_, fun j => ?_, ?_, ?_⟩
  · have rest := check.rest
    have whole : t = recomputeVariance k (chainCheck product false u) := steps
    generalize chainCheck product false u = c at rest whole
    rw [whole, rest, same]
    simp only [recomputeVariance, State.updTank, adjust, look_put_self, put_put]
    rw [rebased_variance]
    rfl
  · rw [draws, chainCheck_draw, chainCheck_draw, after, draw, draw]
    rfl
  · have reports : t.stock.reports = (chainCheck product false u).stock.reports := by
      change (takeReading k r s).stock.reports = _
      rw [steps]
      rfl
    have reason : u.exhaustionReason product = s.exhaustionReason product := by rw [same]; rfl
    rw [reports, chainCheck_reports, moved, reason, draw, show u.stock.reports = s.stock.reports by rw [same]; rfl]
    rfl
  · change s.Noticed (takeReading k r s)
    rw [steps]
    exact (noticed.trans check.noticed).once rfl

end Sys2Proof.Machine

/-! # Gauge readings (O59) -/

namespace Sys2Proof.Machine

open Sys2Proof

section
variable {k : TankId} {r : GaugeReport} {j : ProductId} {s t : State}

theorem gaugeReadingEvent_invalid {report : Option GaugeReport} (invalid : ∀ r ∈ report, 65535 < r.level) :
    gaugeReadingEvent k report s = invalidReading k s := by
  have none : validReading report = none := by
    cases report with
    | none => rfl
    | some r => exact if_neg (Nat.not_le.2 (invalid r rfl))
  rw [gaugeReadingEvent, none]

theorem gaugeReadingEvent_valid (valid : r.level ≤ 65535) (t : State) (judged : judgeGaugeLevel k (handReports (takeReading k r s)) = t) :
    gaugeReadingEvent k (some r) s =
      if t.hasLost k then handCause (handing (.bund (t.tankSet k).bund) .tankLoss none) (restartQuiet k t) else t := by
  subst judged
  simp only [gaugeReadingEvent, validReading, if_pos valid]

theorem hasLost_iff {gauged : Int} (read : (t.tank k).gauged = some gauged) : t.hasLost k = true ↔
    t.receiving k = false ∧ (t.tank k).quietStart + t.store.timing.quietPeriod * 60 ≤ t.seconds ∧
      ∃ x ∈ (t.tank k).quietRef, ((t.tankSet k).leakThreshold : Int) < x - gauged := by
  unfold State.hasLost
  dsimp only
  rw [read]
  cases (t.tank k).quietRef <;> simp [and_assoc]

theorem judgeGaugeLevel_inlet (k : TankId) (s : State) (i : InletId) : (judgeGaugeLevel k s).inlet i = s.levelStopped k i := by
  rw [judgeGaugeLevel_eq]
  simp [State.inlet, look]

theorem levelStopped_high {i : InletId} (high : s.receivesHigh k i = true) :
    (s.levelStopped k i).state = .stopping ∧ (s.levelStopped k i).valve = false ∧
      (s.levelStopped k i).delivery.bind Delivery.termination = some .highLevel := by
  have held := high
  simp only [State.receivesHigh, Bool.and_eq_true] at held
  obtain ⟨⟨-, into⟩, -⟩ := held
  obtain ⟨d, delivery, -⟩ := (Option.any_eq_true ..).1 into
  rw [State.levelStopped, if_pos high]
  exact ⟨rfl, rfl, by simp only [delivery, Option.map_some, Option.bind_some]⟩

/-- R93: a tank with its gauged net just read. -/
theorem receivesHigh_iff {gauged : Int} (inlets : t.inlets = s.inlets) (read : (t.tank k).gauged = some gauged) (i : InletId) :
    t.receivesHigh k i = true ↔ (s.inlet i).state = .receiving ∧ (∃ d ∈ (s.inlet i).delivery, d.tank = k) ∧
      ((t.tankSet k).highCut : Int) ≤ gauged := by
  have unit : t.inlet i = s.inlet i := by simp only [State.inlet, inlets]
  simp only [State.receivesHigh, State.gaugeAtHighCut, unit, read, Option.any_some, Bool.and_eq_true, decide_eq_true_eq,
    Option.any_eq_true, and_assoc, Option.mem_def]

/-- R69: what a chain check makes of the draw tank of its product. -/
theorem chainCheck_first (none : (s.draw j).current = none) :
    ((chainCheck j false s).draw j).current = (s.productSet j).chain.find? (s.eligible j) := by
  rw [chainCheck_draw, if_pos rfl, ← drawAfter_first (.inl none)]
  rfl

theorem chainCheck_stays {old : TankId} (hold : (s.draw j).current = some old) (mem : old ∈ (s.productSet j).chain)
    (eligible : s.eligible j old = true) : (chainCheck j false s).draw j = s.draw j := by
  rw [chainCheck_draw, if_pos rfl, drawAfter_stays hold mem eligible, Draw.moved, hold, if_pos rfl, ← hold]

/-- R93: a comparison with the high cut, among the parts of a state. -/
theorem judgeGaugeLevel_winds (k : TankId) (s : State) : s.Winds (judgeGaugeLevel k s) := by
  have isSome (i : InletId) : (s.levelStopped k i).delivery.isSome = (s.inlet i).delivery.isSome := by
    unfold State.levelStopped
    split
    · exact Option.isSome_map
    · rfl
  refine State.Winds.of_inlets ?_ (fun i => ?_) (.of_links ?_) ?_
  · rw [judgeGaugeLevel_eq]
  · rw [judgeGaugeLevel_inlet, isSome]
  · rw [judgeGaugeLevel_eq]
  · rw [judgeGaugeLevel_eq]

/-- R74 to R76, R93: a reading of a tank that waits for no rebase, compared with the high cut. -/
def State.readAndJudged (s : State) (k : TankId) (r : GaugeReport) : State :=
  judgeGaugeLevel k (s.updTank k fun _ => s.readTank k r)

theorem gaugeReading_settled (ready : s.Ready) (valid : r.level ≤ 65535) (settled : (s.tank k).rebasePending = false) :
    exec (.gaugeReading k (some r)) s = .next (if (s.readAndJudged k r).hasLost k
      then handCause (handing (.bund (s.tankSet k).bund) .tankLoss none) (restartQuiet k (s.readAndJudged k r))
      else s.readAndJudged k r) := by
  have judged : judgeGaugeLevel k (handReports (takeReading k r s)) = s.readAndJudged k r := by
    rw [takeReading_settled k r s settled, handReports_none (show (s.updTank k _).stock.reports = [] from ready.2)]
    rfl
  have set : (s.readAndJudged k r).tankSet k = s.tankSet k := by rw [State.readAndJudged, judgeGaugeLevel_eq]; rfl
  have event := gaugeReadingEvent_valid valid _ judged
  rw [set] at event
  refine congrArg Host.Outcome.next ((takeEvent_eq ready.1 ?_).trans event)
  rw [event]
  split
  · exact handCause_reports ..
  · rw [State.readAndJudged, judgeGaugeLevel_eq]
    exact ready.2

theorem readAndJudged_rest (k : TankId) (r : GaugeReport) (s : State) : s.readAndJudged k r =
    { s.updTank k fun _ => s.readTank k r with inlets := (s.readAndJudged k r).inlets } := by
  unfold State.readAndJudged
  rw [judgeGaugeLevel_eq]

theorem readAndJudged_tank (k : TankId) (r : GaugeReport) (s : State) : (s.readAndJudged k r).tank k = s.readTank k r := by
  rw [readAndJudged_rest]
  exact tank_updTank_self ..

/-- R79: whether the loss watch finds that a reading has lost stock. -/
theorem readAndJudged_lost : (s.readAndJudged k r).hasLost k = true ↔
    s.receiving k = false ∧ (s.readTank k r).quietStart + s.store.timing.quietPeriod * 60 ≤ s.seconds ∧
      ∃ x ∈ (s.readTank k r).quietRef, ((s.tankSet k).leakThreshold : Int) < x - s.gaugedNet k r.level r.temperature := by
  have tank := readAndJudged_tank k r s
  have receiving : (s.readAndJudged k r).receiving k = s.receiving k := congrFun (judgeGaugeLevel_receiving ..) k
  rw [hasLost_iff (gauged := s.gaugedNet k r.level r.temperature) (by rw [tank]; rfl), tank, receiving]
  have rest := readAndJudged_rest k r s
  generalize s.readAndJudged k r = t at rest ⊢
  rw [rest]
  rfl

/-- R93: the inlets that a reading stops. -/
theorem readHigh_iff (i : InletId) : (s.updTank k fun _ => s.readTank k r).receivesHigh k i = true ↔
    (s.inlet i).state = .receiving ∧ (∃ d ∈ (s.inlet i).delivery, d.tank = k) ∧
      ((s.tankSet k).highCut : Int) ≤ s.gaugedNet k r.level r.temperature :=
  receivesHigh_iff (t := s.updTank k fun _ => s.readTank k r) rfl (by rw [tank_updTank_self]; rfl) i

theorem readAndJudged_still (still : ∀ i, (s.updTank k fun _ => s.readTank k r).receivesHigh k i = false) :
    s.readAndJudged k r = s.updTank k fun _ => s.readTank k r := by
  have same : (s.updTank k fun _ => s.readTank k r).levelStopped k = (s.updTank k fun _ => s.readTank k r).inlet := by
    funext i
    rw [State.levelStopped, still]
    rfl
  rw [State.readAndJudged, judgeGaugeLevel_eq, same, ← inlets_eq_ofFn]

theorem rebased_notLost {c : State} (tank : c.tank k = s.rebasedTank k r) : (judgeGaugeLevel k c).hasLost k = false := by
  have same : (judgeGaugeLevel k c).tank k = s.rebasedTank k r := by
    rw [judgeGaugeLevel_eq]
    exact tank
  refine Bool.eq_false_iff.2 fun loses => ?_
  obtain ⟨-, -, x, quiet, loss⟩ := (hasLost_iff (gauged := s.gaugedNet k r.level r.temperature) (by rw [same]; rfl)).1 loses
  rw [same] at quiet
  cases quiet
  omega

/-- R70, R85: the exhaustion report of a rebase handed to the points. -/
theorem rebase_handed (handed : s.stock.reports = []) (pending : (s.tank k).rebasePending = true)
    (spent : (s.draw (s.tankSet k).product).current = none ∨ s.WaitersCountedNothing) :
    let t := takeReading k r s
    let product := (s.tankSet k).product
    (handReports t).stock = { t.stock with reports := [] } ∧ (handReports t).inlets = s.inlets ∧
      ∀ u : State, (handReports t).Winds u → u.clock = s.clock → ∀ q, u.point q = (handReports t).point q →
        if (s.draw product).current.isSome ∧ (t.draw product).current = none ∧ ∃ o ∈ (s.point q).order, o.product = product then
          s.ReportTaken q (s.exhaustionReason product) u
        else u.point q = s.point q := by
  intro t product
  obtain ⟨rest, -, reports, -⟩ := takeReading_pending (r := r) pending
  rw [handed, List.nil_append] at reports
  have points : t.points = s.points := by
    change (takeReading k r s).points = _
    rw [rest]
  have inlets : t.inlets = s.inlets := by
    change (takeReading k r s).inlets = _
    rw [rest]
  have clock : t.clock = s.clock := by
    change (takeReading k r s).clock = _
    rw [rest]
  by_cases empties : (s.draw product).current.isSome ∧ (t.draw product).current = none
  · rw [if_pos empties] at reports
    have waiters : s.WaitersCountedNothing := spent.resolve_left fun none => by
      have draws := empties.1
      rw [none] at draws
      cases draws
    obtain ⟨stock, kept, taken⟩ := handReportsAt_one reports (State.Spent.of_waiters waiters points)
    refine ⟨stock, kept.trans inlets, fun u winds time q same => ?_⟩
    have each := taken u winds.journal (time.trans clock.symm) q same
    unfold State.ReportTaken at each ⊢
    rw [point_of_points points] at each
    simpa only [empties, true_and] using each
  · rw [if_neg empties] at reports
    rw [handReports_none reports]
    refine ⟨by rw [← reports], inlets, fun u _ _ q same => ?_⟩
    rw [if_neg fun h => empties ⟨h.1, h.2.1⟩, same, point_of_points points]

end

/-- Settles O59. -/
theorem gaugesAndStockChecks : Obligations.GaugesAndStockChecks := by
  refine ⟨fun k report s ready invalid => ?_, fun k r s ready valid => ?_, fun s ready => ?_⟩
  · intro tank unstable fails
    have event (t : State) (reads : invalidReading k s = t) (handed : t.stock.reports = []) :
        exec (.gaugeReading k report) s = .next t := by
      have taken := (gaugeReadingEvent_invalid (k := k) (s := s) invalid).trans reads
      refine congrArg Host.Outcome.next ((takeEvent_eq ready.1 ?_).trans taken)
      rw [taken, handed]
    have posted : fails.stock.reports = [] := by
      have post := post_same (.gaugeFault k tank.lastGood) ((unstable s).updTank k fun x =>
        { x with gauge := .fault, gauged := none, variance := none })
      exact (congrArg (fun t : State => t.stock.reports) post :).trans ready.2
    have last : ((unstable s).tank k).lastGood = tank.lastGood :=
      (congrArg Tank.lastGood (tank_updTank_self (s := s) k fun x => { x with stable := false }) :)
    have fall : gaugeFails k (unstable s) = fails := by rw [gaugeFails, last]
    refine ⟨fun fault => event _ ?_ ready.2, fun waiting => event _ ?_ ?_, fun last gauges good => event _ ?_ ?_⟩
    · rw [invalidReading, show (s.tank k).gauge = .fault from fault]
    · rw [invalidReading, show (s.tank k).gauge = .waiting from waiting, ← fall]
      rfl
    · split <;> [exact ready.2; exact posted]
    · have held : (unstable s).updTank k (fun x => { x with gauge := .held }) =
          s.updTank k fun x => { x with stable := false, gauge := .held } := updTank_updTank ..
      rw [invalidReading, ← held, ← fall]
      rcases gauges with h | h <;> rw [show (s.tank k).gauge = _ from h, show (s.tank k).lastGood = some last from good] <;> rfl
    · split <;> [exact ready.2; exact posted]
  · intro tank set gauged fresh ref start lost atHigh read
    have readEq : s.readTank k r = read := rfl
    have loses : (s.readAndJudged k r).hasLost k = true ↔ lost := readAndJudged_lost
    refine ⟨fun settled kept still => ?_, fun settled i high kept => ?_, fun settled loss => ?_, fun pending spent => ?_⟩
    · have none (i : InletId) : (s.updTank k fun _ => s.readTank k r).receivesHigh k i = false :=
        Bool.eq_false_iff.2 fun high => still i ((readHigh_iff i).1 high)
      rw [gaugeReading_settled ready valid settled, if_neg (loses.not.2 kept), readAndJudged_still none]
      rfl
    · obtain ⟨state, valve, termination⟩ := levelStopped_high ((readHigh_iff (r := r) i).2 high)
      refine ⟨_, (gaugeReading_settled ready valid settled).trans (congrArg _ (if_neg (loses.not.2 kept))), ?_⟩
      rw [readAndJudged_tank, State.readAndJudged, judgeGaugeLevel_inlet]
      exact ⟨state, rfl, termination, valve⟩
    · refine ⟨_, (gaugeReading_settled ready valid settled).trans (congrArg _ (if_pos (loses.2 loss))), ?_, fun normal => ?_⟩
      · exact decide_eq_true (handCause_isSet (handing (.bund set.bund) .tankLoss none) _)
      · refine handCause_first (h := handing (.bund set.bund) .tankLoss none) ?_
        rw [readAndJudged_rest]
        exact normal
    · intro draw waste rebooked rebased checked
      obtain ⟨rest, draws, -, -⟩ := takeReading_pending (r := r) pending
      obtain ⟨stock, inlets, taken⟩ := rebase_handed (r := r) ready.2 pending spent
      have moves := handReports_moves (takeReading k r s)
      set handed := handReports (takeReading k r s) with hhanded
      have tanks : handed.stock.tanks = put s.stock.tanks k rebased := by rw [stock, rest]; rfl
      have store : handed.store = s.store := by rw [moves.store, rest]
      have shutdown : handed.shutdown = s.shutdown := by rw [moves.shutdown, rest]
      have clock : handed.clock = s.clock := by rw [show handed.clock = _ from moves.same .clock, rest]
      have same := judgeGaugeLevel_eq k handed
      set t := judgeGaugeLevel k handed with ht
      have tank : handed.tank k = rebased := by rw [State.tank, tanks, look_put_self]
      have event := (gaugeReadingEvent_valid valid t rfl).trans (if_neg (by rw [rebased_notLost tank]; decide))
      have whole : t.stock = handed.stock := by rw [same]
      have drawn (j : ProductId) : t.draw j = checked.draw j := by
        refine Eq.trans ?_ (draws j)
        rw [State.draw, whole, stock]
        rfl
      have receiving : t.receiving = s.receiving := by
        rw [ht, judgeGaugeLevel_receiving]
        funext x
        simp only [receiving_eq, State.inlet, inlets]
      have eligible : t.eligible = (s.updTank k fun _ => rebased).eligible :=
        eligible_congr (by rw [same]; exact store) (by rw [whole]; exact tanks) (by rw [same]; exact shutdown) receiving
      have high (i : InletId) : handed.receivesHigh k i = true ↔ atHigh i := by
        rw [receivesHigh_iff inlets (by rw [tank]), State.tankSet, store]
        rfl
      refine ⟨t, ?_, ?_, ?_, fun other ne => ?_, ?_, fun j ne => ?_, drawn _, fun none => ?_, fun old hold mem fits => ?_, fun i => ?_,
        fun calm q => ?_⟩
      · refine congrArg Host.Outcome.next ((takeEvent_eq ready.1 ?_).trans event)
        rw [event, whole, stock]
      · rw [State.tank, whole]
        exact tank
      · rw [same, ← shutdown]
      · rw [State.tank, whole, tanks, look_put_ne _ _ ne.symm]
        rfl
      · rw [whole, stock]
      · rw [drawn]
        exact chainCheck_draw_ne (Ne.symm ne) ..
      · rw [drawn, eligible]
        exact chainCheck_first none
      · rw [drawn]
        exact chainCheck_stays hold mem (by rw [← eligible]; exact fits)
      · rw [ht, judgeGaugeLevel_inlet]
        by_cases stops : atHigh i
        · rw [if_pos stops]
          exact levelStopped_high ((high i).2 stops)
        · rw [if_neg stops, State.levelStopped, if_neg ((high i).not.2 stops), State.inlet, inlets]
          rfl
      · have reason : s.exhaustionReason set.product = s.emptyReason set.product := by
          rw [State.exhaustionReason, calm]
          rfl
        rw [← reason]
        have empties : (t.draw set.product).current = ((takeReading k r s).draw set.product).current := by rw [drawn, draws]; rfl
        rw [empties]
        exact taken t (judgeGaugeLevel_winds ..) (by rw [same]; exact clock) q (by rw [same]; rfl)
  · intro now
    set due : State := { now with stock := { now.stock with checkDue := now.clock + now.store.timing.checkPeriod * 60000 } } with hdue
    have checks : _ ∧ _ ∧ _ := stockChecks_eq (show allTanks.Nodup by decide) due
    have event : forEach allTanks stockCheckTank due = stockCheckEvent s := rfl
    rw [event] at checks
    obtain ⟨rest, links, tanks⟩ := checks
    have reached : now.stock = s.stock := State.reach_stock ..
    have store : now.store = s.store := State.reach_store ..
    have tank (k : TankId) : due.tank k = s.tank k := by rw [State.tank, hdue]; exact congrArg (fun x => look x.tanks k) reached
    have set (k : TankId) : due.tankSet k = s.tankSet k := by rw [State.tankSet, hdue]; exact congrArg (fun x => look x.tanks k) store
    have notice : due.varianceNotice = s.varianceNotice := funext fun k => varianceNotice_congr (tank k) (set k)
    have kept : due.stock = { s.stock with checkDue := now.clock + s.store.timing.checkPeriod * 60000 } := by
      rw [hdue, ← reached, ← store]
    have stock : (stockCheckEvent s).stock = { due.stock with tanks := (stockCheckEvent s).stock.tanks } := by
      generalize stockCheckEvent s = t at rest ⊢
      rw [rest]
    have clock : (stockCheckEvent s).clock = due.clock := by
      generalize stockCheckEvent s = t at rest ⊢
      rw [rest]
    rw [kept] at stock
    have reports : (stockCheckEvent s).stock.reports = s.stock.reports := by rw [stock]
    have taken : takeEvent stockCheckEvent s = stockCheckEvent s := takeEvent_eq ready.1 (reports.trans ready.2)
    refine ⟨stockCheckEvent s, congrArg Host.Outcome.next taken, clock, by rw [stock], by rw [stock],
      ?_, reports, ?_, fun k => ?_⟩
    · generalize stockCheckEvent s = t at rest ⊢
      rw [rest]
    · rw [links, notice]
      exact postAll_links_congr _ rfl rfl rfl
    · rw [tanks, if_pos (mem_allTanks k), tank, runAfter_congr (tank k) (set k)]
      rfl

end Sys2Proof.Machine

/-! # The close-time updates of an account: readings, fuel, lines (R114 to R124) -/

namespace Sys2Proof.Machine

open Sys2Proof

theorem plausible_iff (a : Account) (tolerance reading time : Nat) : plausible a tolerance reading time = true ↔
    reading ≤ 9999999 ∧ ∀ h ∈ a.hourMeter, h.value ≤ reading ∧ reading - h.value ≤ (time - h.time) * 10 / 3600 + tolerance := by
  have bound : Config.maxHours = 9999999 := rfl
  unfold plausible
  cases a.hourMeter <;> simp [bound]

/-! ## The reading of an order (R115) -/

section
variable {o : Order} {a : Account} {ok : Option Bool} {reading time : Nat}

theorem readingTaken_none : readingTaken o none a = a := rfl

theorem readingTaken_plausible (hours : o.hours = some reading) (at' : o.readingTime = some time) :
    readingTaken o (some true) a = { a with hourMeter := some ⟨reading, time⟩, implausibleRun := 0 } := by
  simp only [readingTaken, hours, at', storeReading, if_true]

theorem readingTaken_implausible (hours : o.hours = some reading) (at' : o.readingTime = some time) :
    readingTaken o (some false) a = { a with
      implausibleRun := min 3 (a.implausibleRun + 1)
      status := if 2 ≤ a.implausibleRun ∧ a.status = .active then .held .hours else a.status } := by
  have third : min 3 (a.implausibleRun + 1) = 3 ↔ 2 ≤ a.implausibleRun := by omega
  simp only [readingTaken, hours, at', storeReading, Bool.false_eq_true, if_false, third]

/-- R115: a reading changes the hour meter, the implausible run and the status, and nothing else. -/
theorem readingTaken_rest (o : Order) (ok : Option Bool) (a : Account) : readingTaken o ok a =
    { a with
      hourMeter := (readingTaken o ok a).hourMeter
      implausibleRun := (readingTaken o ok a).implausibleRun
      status := (readingTaken o ok a).status } := by
  unfold readingTaken
  split
  · next taken _ _ _ _ => cases taken <;> rfl
  · rfl

end

/-! ## Fuel and burn (R117 to R120) -/

section
variable {c : ClassRecord} {cause : Cause} {ok : Bool} {reading : Option Nat} {r ref n : Nat} {a : Account}

theorem fullToFull_other (other : cause ≠ .full) : fullToFull c cause ok reading n a =
    { a with fuelSinceFull := min 9999999 (a.fuelSinceFull + n) } := if_neg other

theorem fullToFull_unread (unread : ok = false ∨ reading = none) : fullToFull c .full ok reading n a =
    { a with fullRef := none, fuelSinceFull := 0 } := by
  unfold fullToFull
  rcases unread with rfl | rfl
  · rfl
  · cases ok <;> rfl

theorem fullToFull_sample (hold : a.fullRef = some ref) (far : ref + 10 ≤ r) : fullToFull c .full true (some r) n a =
    { judgeSample c (burnSample (a.fuelSinceFull + n) (r - ref)) a with fullRef := some r, fuelSinceFull := 0 } := by
  have apart : 10 ≤ r - ref := by omega
  simp only [fullToFull, hold, apart, if_true]

theorem fullToFull_first (near : ∀ ref ∈ a.fullRef, r < ref + 10) : fullToFull c .full true (some r) n a =
    { a with fullRef := some r, fuelSinceFull := 0 } := by
  cases hold : a.fullRef with
  | none => simp only [fullToFull, hold, if_true]
  | some ref =>
    have apart : ¬10 ≤ r - ref := by
      have := near ref hold
      omega
    simp only [fullToFull, hold, apart, if_false, if_true]

/-- R118: a FUEL order that ends FULL begins the full-to-full run anew. -/
theorem fullToFull_full (c : ClassRecord) (ok : Bool) (reading : Option Nat) (n : Nat) (a : Account) :
    (fullToFull c .full ok reading n a).fuelSinceFull = 0 ∧
      (fullToFull c .full ok reading n a).fullRef = if ok = true then reading else none := by
  cases ok <;> cases reading <;> exact ⟨rfl, rfl⟩

theorem judgeSample_in (band : c.bandMin ≤ n ∧ n ≤ c.bandMax) : judgeSample c n a =
    { a with samplesTaken := min 65535 (a.samplesTaken + 1), burnAverage := some (averageAfter a.burnAverage n) } := if_pos band

theorem judgeSample_out (band : n < c.bandMin ∨ c.bandMax < n) : judgeSample c n a =
    { a with samplesRejected := min 65535 (a.samplesRejected + 1) } := if_neg (by omega)

/-- R120: the average moves a quarter of the way to the sample, rounded toward the average. -/
theorem averageAfter_between (old sample : Nat) : (averageAfter (some old) sample : Int) = old + Int.tdiv ((sample : Int) - old) 4 ∧
    min old sample ≤ averageAfter (some old) sample ∧ averageAfter (some old) sample ≤ max old sample := by
  change ((old + Int.tdiv ((sample : Int) - old) 4).toNat : Int) = _ ∧ min old sample ≤ (old + Int.tdiv ((sample : Int) - old) 4).toNat ∧
    (old + Int.tdiv ((sample : Int) - old) 4).toNat ≤ max old sample
  rcases Int.le_total old sample with up | down
  · rw [Int.tdiv_eq_ediv_of_nonneg (by omega)]
    omega
  · rw [show (sample : Int) - old = -(old - sample) by omega, Int.neg_tdiv, Int.tdiv_eq_ediv_of_nonneg (by omega)]
    omega

/-- R117 to R120: a FUEL order changes the fuel figures of its account, and nothing else. -/
theorem fullToFull_rest (c : ClassRecord) (cause : Cause) (ok : Bool) (reading : Option Nat) (n : Nat) (a : Account) :
    let b := fullToFull c cause ok reading n a
    b = { a with
      fullRef := b.fullRef, fuelSinceFull := b.fuelSinceFull, samplesTaken := b.samplesTaken
      samplesRejected := b.samplesRejected, burnAverage := b.burnAverage } := by
  intro b
  have judged (n : Nat) : judgeSample c n a = { a with
      samplesTaken := (judgeSample c n a).samplesTaken, samplesRejected := (judgeSample c n a).samplesRejected
      burnAverage := (judgeSample c n a).burnAverage } := by
    unfold judgeSample
    split <;> rfl
  change fullToFull c cause ok reading n a = _
  by_cases full : cause = .full
  · subst full
    cases ok with
    | false => rw [show b = _ from fullToFull_unread (.inl rfl), fullToFull_unread (.inl rfl)]
    | true =>
      cases reading with
      | none => rw [show b = _ from fullToFull_unread (.inr rfl), fullToFull_unread (.inr rfl)]
      | some r =>
        by_cases near : ∀ ref ∈ a.fullRef, r < ref + 10
        · rw [show b = _ from fullToFull_first near, fullToFull_first near]
        · simp only [not_forall, Nat.not_lt] at near
          obtain ⟨ref, hold, far⟩ := near
          rw [show b = _ from fullToFull_sample hold far, fullToFull_sample hold far, judged]
  · rw [show b = _ from fullToFull_other full, fullToFull_other full]

end

/-! ## The steps of a close (R116) -/

section
variable (c : ClassRecord) (o : Order) (n : Nat) (cause : Cause) (ok : Option Bool) (a : Account)

/-- R122: a line as an order of its kind leaves it, before it is evaluated. -/
def lineCharged (o : Order) (n : Nat) (h : Option HourMeter) (l : ServiceLine) : ServiceLine :=
  if o.kind = .service ∧ l.product = o.product then
    { l with lastService := (h.map HourMeter.value).getD 0, topUp := 0, state := .ok }
  else if o.kind = .topup ∧ l.product = o.product then { l with topUp := min 9999999 (l.topUp + n) }
  else l

theorem kindCharged_fuel (fuel : o.kind = .fuel) : kindCharged c o n cause ok a =
    fullToFull c cause (decide (ok = some true)) o.hours n (addFuel n a) := by
  simp only [kindCharged, fuel]

theorem kindCharged_lines : (kindCharged c o n cause ok a).lines = a.lines.map (lineCharged o n a.hourMeter) := by
  unfold lineCharged
  cases kind : o.kind with
  | fuel =>
    rw [kindCharged_fuel _ _ _ _ _ _ kind, fullToFull_rest]
    simp [addFuel]
  | service => simp [kindCharged, kind, resetLines]
  | topup =>
    simp only [kindCharged, kind, topUpLines, reduceCtorEq, false_and, if_false, true_and]
    rfl
  | waste => simp [kindCharged, kind]

theorem kindCharged_other (other : o.kind ≠ .fuel) : kindCharged c o n cause ok a =
    { a with lines := a.lines.map (lineCharged o n a.hourMeter) } := by
  rw [← kindCharged_lines c o n cause ok a]
  cases kind : o.kind with
  | fuel => exact absurd kind other
  | service | topup | waste => simp only [kindCharged, kind, resetLines, topUpLines]

/-- R116: what an order of its kind changes of its account. -/
theorem kindCharged_rest :
    let b := kindCharged c o n cause ok a
    b = { a with
      shiftUsed := b.shiftUsed, fuelTotal := b.fuelTotal, fullRef := b.fullRef, fuelSinceFull := b.fuelSinceFull
      samplesTaken := b.samplesTaken, samplesRejected := b.samplesRejected, burnAverage := b.burnAverage, lines := b.lines } := by
  intro b
  by_cases fuel : o.kind = .fuel
  · have charged : b = fullToFull c cause (decide (ok = some true)) o.hours n (addFuel n a) := kindCharged_fuel _ _ _ _ _ _ fuel
    rw [charged, fullToFull_rest]
    rfl
  · rw [show b = _ from kindCharged_other _ _ _ _ _ _ fuel]

end

end Sys2Proof.Machine

/-! # The close-time updates of an account and of the account table (O44) -/

namespace Sys2Proof.Machine

open Sys2Proof

/-! ## An account at the close of one of its orders -/

/-- R121, R123: the notices of lines evaluated. -/
theorem mem_reevaluate (x : Account) (n : Notice) : n ∈ (reevaluate x).2 ↔
    ∃ (place : Nat) (before after : ServiceLine),
      x.lines[place]? = some before ∧ (reevaluate x).1.lines[place]? = some after ∧
      (before.state = .ok ∧ after.state ≠ .ok ∨ before.state = .due ∧ after.state = .overdue) ∧
      n = .serviceDue x.machine (place + 1) after.product after.state (hoursSince x.hourMeter after) := by
  have evaluated (place : Nat) : (reevaluate x).1.lines[place]? =
      x.lines[place]?.map fun l => { l with state := lineStateAt l (hoursSince x.hourMeter l) } := by
    rw [reevaluate_eq]
    exact List.getElem?_map
  have notices := congrArg Prod.snd (reevaluate_eq x)
  dsimp only at notices
  rw [notices]
  simp only [List.mem_filterMap, Prod.exists, evaluated, Option.map_eq_some_iff]
  constructor
  · rintro ⟨l, place, mem, posted⟩
    obtain ⟨low, at'⟩ := List.mk_mem_zipIdx_iff_le_and_getElem?_sub.1 mem
    split at posted
    · next up =>
      cases posted
      exact ⟨place - 1, l, _, at', ⟨l, at', rfl⟩, (movesUp_iff _ _).1 up, by rw [Nat.sub_add_cancel low]; rfl⟩
    · cases posted
  · rintro ⟨place, before, -, at', ⟨l, same, rfl⟩, up, rfl⟩
    cases at'.symm.trans same
    refine ⟨before, place + 1, List.mk_mem_zipIdx_iff_le_and_getElem?_sub.2 ⟨Nat.le_add_left .., at'⟩, ?_⟩
    rw [if_pos ((movesUp_iff _ _).2 up)]
    rfl

section
variable {c : ClassRecord} {o : Order} {netDl : Nat} {cause : Cause} {ok : Option Bool} {a : Account}

/-- R116: an account at the close of one of its orders, before its lines are evaluated. -/
def accountCharged (c : ClassRecord) (o : Order) (netDl : Nat) (cause : Cause) (ok : Option Bool) (a : Account) : Account :=
  kindCharged c o netDl cause ok (readingTaken o ok a)

theorem updateAtClose_charged (c : ClassRecord) (o : Order) (netDl : Nat) (cause : Cause) (ok : Option Bool) (a : Account) :
    updateAtClose c o netDl cause ok a = reevaluate (accountCharged c o netDl cause ok a) := rfl

/-- R116: what a close leaves of an account as it was. -/
theorem accountCharged_rest (c : ClassRecord) (o : Order) (netDl : Nat) (cause : Cause) (ok : Option Bool) (a : Account) :
    let e := accountCharged c o netDl cause ok a
    let x := readingTaken o ok a
    e = { a with
      hourMeter := x.hourMeter, implausibleRun := x.implausibleRun, status := x.status
      shiftUsed := e.shiftUsed, fuelTotal := e.fuelTotal, fullRef := e.fullRef, fuelSinceFull := e.fuelSinceFull
      samplesTaken := e.samplesTaken, samplesRejected := e.samplesRejected, burnAverage := e.burnAverage
      lines := a.lines.map (lineCharged o netDl x.hourMeter) } := by
  obtain ⟨h, r, status, taken⟩ : ∃ h r status, readingTaken o ok a = { a with hourMeter := h, implausibleRun := r, status := status } :=
    ⟨_, _, _, readingTaken_rest o ok a⟩
  simp only [accountCharged, taken]
  have rest := kindCharged_rest c o netDl cause ok { a with hourMeter := h, implausibleRun := r, status := status }
  simp only [kindCharged_lines] at rest
  exact rest

/-- R121, R124: an account at the close of one of its orders, field by field. -/
theorem updateAtClose_rest (c : ClassRecord) (o : Order) (netDl : Nat) (cause : Cause) (ok : Option Bool) (a : Account) :
    let e := accountCharged c o netDl cause ok a
    (updateAtClose c o netDl cause ok a).1 = { e with
      lines := e.lines.map fun l => { l with state := lineStateAt l (hoursSince e.hourMeter l) }
      status := applyAction (evaluatedLines e) } :=
  congrArg Prod.fst (reevaluate_eq _)

/-- R115: the status of an account once a reading has been judged. -/
theorem readingTaken_status (given : ok.isSome → o.hours.isSome ∧ o.readingTime.isSome) :
    (readingTaken o ok a).status =
      if ok = some false ∧ 2 ≤ a.implausibleRun ∧ a.status = .active then .held .hours else a.status := by
  cases ok with
  | none => rw [if_neg (by simp)]; rfl
  | some good =>
    obtain ⟨hours, time⟩ := given rfl
    obtain ⟨x, hours⟩ := Option.isSome_iff_exists.1 hours
    obtain ⟨t, time⟩ := Option.isSome_iff_exists.1 time
    cases good with
    | false =>
      rw [readingTaken_implausible hours time]
      simp only [true_and]
    | true =>
      rw [readingTaken_plausible hours time, if_neg (by simp)]

/-- R117: the fuel figures of a FUEL order, before its sample. -/
theorem accountCharged_fuel (fuel : o.kind = .fuel) (c : ClassRecord) (netDl : Nat) (cause : Cause) (ok : Option Bool) (a : Account) :
    accountCharged c o netDl cause ok a =
      fullToFull c cause (decide (ok = some true)) o.hours netDl (addFuel netDl (readingTaken o ok a)) :=
  kindCharged_fuel _ _ _ _ _ _ fuel

end

/-! ## The deferred changes of a machine applied (R127, R142) -/

theorem writesAmong_written (entries : List DeferredEntry) :
    writesAmong (entries.filter fun e => e.change ≠ .delete) = writesAmong entries := by
  unfold writesAmong
  rw [List.filterMap_filter]
  refine List.filterMap_congr fun e _ => ?_
  cases e.change <;> rfl

theorem account_removeAccount (machine n : Nat) (s : State) :
    (s.removeAccount machine).account n = if n = machine then none else s.account n := by
  simp only [State.account, State.removeAccount, State.setTable, List.find?_filter]
  split
  · next same =>
    subst same
    rw [List.find?_eq_none]
    intro a _
    simp
  · next other =>
    refine congrArg (s.accounts.table.find? ·) (funext fun a => ?_)
    by_cases here : a.machine = n
    · simp [here, other]
    · simp [here]

theorem forEach_postTo_links {es : List DeferredEntry} {s t : State} (links : t.links = s.links) (store : t.store = s.store)
    (clock : t.clock = s.clock) :
    (forEach es (fun e => State.postTo e.source (.deferredApplied e)) t).links =
      (forEach es (fun e => State.postTo e.source (.deferredApplied e)) s).links := by
  induction es generalizing s t with
  | nil => exact links
  | cons e es ih =>
    refine ih (s := s.postTo e.source (.deferredApplied e)) (t := t.postTo e.source (.deferredApplied e)) ?_ store clock
    simp only [State.postTo, State.updLink, State.seconds, links, store, clock]

/-- R127, R142: the accounts and the notices that an application of a machine's deferred changes leaves. -/
theorem applyDeferred_eq {machine : Nat} {s : State} {a : Account} (found : s.account machine = some a) :
    let mine := s.accounts.deferred.filter fun e => e.machine = machine
    let applied := (mine.filter fun e => e.change ≠ .delete) ++ mine.filter fun e => e.change = .delete
    let t := applyDeferred machine s
    t.links = (postAll (applyWrites s.seconds (writesAmong mine) a).2
        (forEach applied (fun e => State.postTo e.source (.deferredApplied e)) s)).links ∧
      (∀ n, t.account n = if n = machine then
          if mine.any fun e => e.change = .delete then none
          else some (a.numberedAs (applyWrites s.seconds (writesAmong mine) a).1)
        else s.account n) := by
  intro mine applied t
  set kept := (s.setDeferred (s.accounts.deferred.filter fun e => e.machine ≠ machine)).updAccount machine
    fun _ => (applyWrites s.seconds (writesAmong mine) a).1 with hkept
  set v := if (mine.filter fun e => e.change = .delete).isEmpty then kept else kept.removeAccount machine with hv
  have applies : t = postAll (applyWrites s.seconds (writesAmong mine) a).2
      (forEach applied (fun e => State.postTo e.source (.deferredApplied e)) v) := by
    have lookup : (s.setDeferred (s.accounts.deferred.filter fun e => e.machine ≠ machine)).account machine = some a := found
    change applyDeferred machine s = _
    unfold applyDeferred
    dsimp only
    simp only [lookup, writesAmong_written]
    rfl
  have frame : v.links = s.links ∧ v.store = s.store ∧ v.clock = s.clock := by
    rw [hv]
    split <;> exact ⟨rfl, rfl, rfl⟩
  obtain ⟨links, store, clock⟩ := frame
  have posted (es : List DeferredEntry) (u : State) : Moves [.links] ∅ u
      (forEach es (fun e => State.postTo e.source (.deferredApplied e)) u) := Moves.forEach _ _ (fun e _ t => postTo_moves _ _ t) u
  refine ⟨?_, fun n => ?_⟩
  · rw [applies]
    exact postAll_links_congr _ (forEach_postTo_links links store clock)
      (((posted applied v).store).trans (store.trans (posted applied s).store.symm))
      (((posted applied v).same .clock).trans (clock.trans ((posted applied s).same .clock).symm))
  · have accounts : t.accounts = v.accounts := by rw [applies, postAll_accounts, (posted applied v).accounts]
    have written (m : Nat) : kept.account m = if m = machine then some (a.numberedAs (applyWrites s.seconds (writesAmong mine) a).1)
        else s.account m := by
      rw [hkept, account_updAccount]
      refine if_congr Iff.rfl ?_ rfl
      exact congrArg (Option.map _) found
    have whole : t.account n = v.account n := by simp only [State.account, accounts]
    have deleted : (mine.filter fun e => e.change = .delete).isEmpty = !(mine.any fun e => e.change = .delete) := by
      rw [Bool.eq_iff_iff]
      simp [List.filter_eq_nil_iff]
    rw [whole, hv, deleted]
    by_cases deletes : (mine.any fun e => e.change = .delete) = true
    · rw [deletes, if_neg (by decide), account_removeAccount, written]
      split <;> simp_all
    · rw [Bool.eq_false_iff.2 deletes, if_pos (by decide), written]
      rfl

/-! ## The account table at a close (R116, R127) -/

theorem Moves.accountsAndLinks {H : Set Law} {s t : State} (h : Moves [.table, .deferred, .links] H s t) :
    t = { s with accounts := t.accounts, links := t.links } := by
  have clock : t.clock = s.clock := h.same .clock
  have points : t.points = s.points := h.same .points
  have pumps : t.pumps = s.pumps := h.same .pumps
  have inlets : t.inlets = s.inlets := h.same .inlets
  have journal : t.journal = s.journal := h.same .journal
  rw [← clock, ← h.bay, ← h.store, ← points, ← pumps, ← inlets, ← h.stock, ← h.shutdown, ← journal, ← h.pending]

section
variable {s : State} {o : Order} {machine : Nat} {a : Account} (netDl : Nat) (cause : Cause) (ok : Option Bool)

/-- R116, R123: the state once the account's record is updated, the notices of its lines last. -/
theorem closeUpdates_stands (names : o.machine = some machine) (found : s.account machine = some a) (stands : o.number ∈ a.openSet) :
    closeUpdates o netDl cause ok s =
      postAll (updateAtClose (look s.accounts.classes a.klass) o netDl cause ok a).2
        (if (s.accountClosed o netDl cause ok a).openSet.isEmpty then
          applyDeferred machine (s.updAccount machine fun _ => s.accountClosed o netDl cause ok a)
        else s.updAccount machine fun _ => s.accountClosed o netDl cause ok a) := by
  simp only [closeUpdates, names, found, List.contains_iff_mem, stands, if_true]
  rfl

theorem closeUpdates_frame (o : Order) (s : State) :
    Moves [.table, .deferred, .links] accountLaws s (closeUpdates o netDl cause ok s) := by
  rcases closeUpdates_cases o netDl cause ok s with h | ⟨machine, a, names, found, stands⟩
  · rw [h]
    exact .refl ..
  · rw [closeUpdates_stands netDl cause ok names found (by simpa using stands)]
    split
    · exact ((setTable_moves ..).andThen ((applyDeferred_frame ..).andThen ((postAll_moves ..).weaken _))).mono (by decide)
    · exact ((setTable_moves ..).andThen ((postAll_moves ..).weaken _)).mono (by decide)

theorem tableApplied_congr {s t : State} (accounts : t.accounts = s.accounts) (clock : t.clock = s.clock) :
    t.tableApplied machine = s.tableApplied machine := by
  have account : t.account machine = s.account machine := by simp only [State.account, accounts]
  have seconds : t.seconds = s.seconds := by simp only [State.seconds, clock]
  rw [State.tableApplied, State.tableApplied, account, accounts, seconds]

/-- R116: the accounts that a close leaves follow from the accounts before it and the time. -/
theorem closeUpdates_congr {t : State} (accounts : t.accounts = s.accounts) (clock : t.clock = s.clock) (o : Order) :
    (closeUpdates o netDl cause ok t).accounts = (closeUpdates o netDl cause ok s).accounts := by
  have account (m : Nat) : t.account m = s.account m := by simp only [State.account, accounts]
  by_cases apart : ∀ machine ∈ o.machine, ∀ a, s.account machine = some a → o.number ∉ a.openSet
  · rw [closeUpdates_apart apart, closeUpdates_apart (by simpa only [account] using apart), accounts]
  · simp only [not_forall, not_not] at apart
    obtain ⟨machine, names, a, found, stands⟩ := apart
    have closed : t.accountClosed o netDl cause ok a = s.accountClosed o netDl cause ok a := by
      simp only [State.accountClosed, accounts]
    rw [closeUpdates_stands netDl cause ok names found stands,
      closeUpdates_stands netDl cause ok names ((account machine).trans found) stands, postAll_accounts, postAll_accounts, closed]
    have updated : (t.updAccount machine fun _ => s.accountClosed o netDl cause ok a).accounts =
        (s.updAccount machine fun _ => s.accountClosed o netDl cause ok a).accounts := by
      simp only [State.updAccount, State.setTable, accounts]
    split
    · rw [applyDeferred_accounts, applyDeferred_accounts, updated, tableApplied_congr updated clock]
    · exact updated

end

@[simp] theorem applyWrites_machine (now : Nat) (ws : List AccountWrite) (a : Account) :
    (applyWrites now ws a).1.machine = a.machine := by
  have one (w : AccountWrite) (a : Account) : (applyWrite now w a).1.machine = a.machine := by cases w <;> rfl
  induction ws generalizing a with
  | nil => rfl
  | cons w ws ih => rw [applyWrites_cons, ih, one]

theorem numberedAs_same {a b : Account} (h : b.machine = a.machine) : a.numberedAs b = b := by
  rw [Account.numberedAs, ← h]

theorem accountClosed_machine (s : State) (o : Order) (netDl : Nat) (cause : Cause) (ok : Option Bool) (a : Account) :
    (s.accountClosed o netDl cause ok a).machine = a.machine := by
  simp only [State.accountClosed, updateAtClose_rest]
  rw [accountCharged_rest]

/-- R127: the order leaves its account's open-order set. -/
theorem accountClosed_eq (s : State) (o : Order) (netDl : Nat) (cause : Cause) (ok : Option Bool) (a : Account) :
    s.accountClosed o netDl cause ok a = { (updateAtClose (look s.accounts.classes a.klass) o netDl cause ok a).1 with
      openSet := a.openSet.filter fun n => n ≠ o.number } := by
  have same : (updateAtClose (look s.accounts.classes a.klass) o netDl cause ok a).1.openSet = a.openSet := by
    rw [updateAtClose_rest]
    dsimp only
    rw [accountCharged_rest]
  rw [State.accountClosed, same]

/-- R116: the accounts that the close of an order leaves. -/
theorem finishClose_accounts {p : PointId} {s : State} {o : Order} (h : (s.point p).order = some o) :
    (finishClose p s).accounts =
      (closeUpdates o (decilitres o.net).toNat (o.termination.getD .stopped) (s.assess o) s).accounts := by
  have released := releasePump_moves p (s.pointSet p).pump s
  set u := releasePump p (s.pointSet p).pump s
  have assess : u.assess o = s.assess o := assess_of_same (released.same .table) (released.same .accountsRest).1
  have whole : finishClose p s =
      settledReportsAfterClose ((recordOrder p o (o.termination.getD .stopped) u).updPoint p PointUnit.closed) := by
    rw [finishClose, h]
  rw [whole]
  refine (settledReportsAfterClose_moves _).accounts.trans ?_
  rw [State.updPoint_accounts]
  unfold recordOrder
  dsimp only
  rw [assess]
  refine closeUpdates_congr _ _ _ ?_ ?_ o
  · rw [State.post_accounts]
    exact released.accounts
  · rw [State.post_clock]
    exact released.same .clock

end Sys2Proof.Machine

/-! # The close-time updates (O44) -/

namespace Sys2Proof.Machine

open Sys2Proof

/-- Settles O44. -/
theorem closeTimeUpdates : Obligations.CloseTimeUpdates := by
  refine ⟨plausible_iff, fun s o machine reading time a names found stands => ⟨fun hours at' => ?_, fun none => ?_⟩,
    fun l h => ⟨by cases h <;> rfl, rfl⟩, fun c o netDl cause ok a given => ?_, fun o netDl cause ok s => ?_,
    fun p reading o c due s ready => ?_⟩
  · simp only [State.assess, names, Option.bind_some, found, hours, at', List.contains_iff_mem, stands, if_true]
  · simp only [State.assess, names, Option.bind_some, found, none]
  · intro b read overdue reset
    have closes : b = _ := updateAtClose_rest c o netDl cause ok a
    have charged := accountCharged_rest c o netDl cause ok a
    have taken := readingTaken_rest o ok a
    have judged : (readingTaken o ok a).status = read := readingTaken_status given
    set x := readingTaken o ok a with hx
    set e := accountCharged c o netDl cause ok a with he
    have hourMeter : b.hourMeter = x.hourMeter := by rw [closes, charged]
    have run : b.implausibleRun = x.implausibleRun := by rw [closes, charged]
    have lines : e.lines = a.lines.map reset := by
      rw [charged]
      have resets : reset = lineCharged o netDl b.hourMeter := rfl
      rw [resets, hourMeter]
    have status : b.status = applyAction (evaluatedLines e) := by rw [closes]
    have before : (evaluatedLines e).status = read := by rw [← judged, evaluatedLines, charged]
    have overdues : Overdue (evaluatedLines e) ↔ a.action = .hold ∧ overdue := by
      have action : (evaluatedLines e).action = a.action := by rw [evaluatedLines, charged]
      have same : (evaluatedLines e).lines = b.lines := by rw [closes]; rfl
      rw [Overdue, action, same]
    refine ⟨fun good r time hours at' => ?_, fun bad => ?_, fun none => ?_, fun fuel => ?_, fun other => ?_, ?_, fun n => ?_,
      fun active => ?_, fun service => ?_, fun notActive notService => ?_, ?_, ?_, ?_, ?_, ?_⟩
    · rw [hourMeter, run, hx, good, readingTaken_plausible hours at']
      exact ⟨rfl, rfl⟩
    · obtain ⟨hours, time⟩ := given (by rw [bad]; rfl)
      obtain ⟨r, hours⟩ := Option.isSome_iff_exists.1 hours
      obtain ⟨t, time⟩ := Option.isSome_iff_exists.1 time
      rw [hourMeter, run, hx, bad, readingTaken_implausible hours time]
      exact ⟨rfl, rfl⟩
    · rw [hourMeter, run, hx, none]
      exact ⟨rfl, rfl⟩
    · have fuelled : e = _ := accountCharged_fuel fuel c netDl cause ok a
      have added : addFuel netDl x = { a with
          hourMeter := x.hourMeter, implausibleRun := x.implausibleRun, status := x.status
          shiftUsed := min 9999999 (a.shiftUsed + netDl), fuelTotal := min 4294967295 (a.fuelTotal + netDl) } := by
        rw [addFuel, taken]
        rfl
      rw [← hx, added] at fuelled
      set y : Account := { a with
          hourMeter := x.hourMeter, implausibleRun := x.implausibleRun, status := x.status
          shiftUsed := min 9999999 (a.shiftUsed + netDl), fuelTotal := min 4294967295 (a.fuelTotal + netDl) }
      have figures : b.shiftUsed = e.shiftUsed ∧ b.fuelTotal = e.fuelTotal ∧ b.fullRef = e.fullRef ∧
          b.fuelSinceFull = e.fuelSinceFull ∧ b.samplesTaken = e.samplesTaken ∧ b.samplesRejected = e.samplesRejected ∧
          b.burnAverage = e.burnAverage := by
        rw [closes]
        exact ⟨rfl, rfl, rfl, rfl, rfl, rfl, rfl⟩
      obtain ⟨shiftUsed, fuelTotal, fullRef, fuelSinceFull, samplesTaken, samplesRejected, burnAverage⟩ := figures
      rw [shiftUsed, fuelTotal, fullRef, fuelSinceFull, samplesTaken, samplesRejected, burnAverage, fuelled]
      refine ⟨by rw [fullToFull_rest], by rw [fullToFull_rest], fun other => ?_, fun full => ?_, fun full good r ref hours hold far => ?_,
        fun none => ?_⟩
      · rw [fullToFull_other other]
        exact ⟨rfl, rfl⟩
      · subst full
        obtain ⟨since, ref⟩ := fullToFull_full c (decide (ok = some true)) o.hours netDl y
        exact ⟨since, ref.trans (if_congr decide_eq_true_iff rfl rfl)⟩
      · intro h sample
        have sampled : fullToFull c cause (decide (ok = some true)) o.hours netDl y =
            { judgeSample c sample y with fullRef := some r, fuelSinceFull := 0 } := by
          rw [full, good, hours]
          exact fullToFull_sample hold far
        rw [sampled]
        refine ⟨fun band => ?_, fun out => ?_⟩
        · rw [judgeSample_in band]
          refine ⟨rfl, rfl, fun first => ?_, fun old averaged => ⟨averageAfter (some old) sample, ?_, averageAfter_between old sample⟩⟩
          · exact congrArg some (congrArg (averageAfter · sample) first)
          · exact congrArg some (congrArg (averageAfter · sample) averaged)
        · rw [judgeSample_out out]
          exact ⟨rfl, rfl, rfl⟩
      · have kept (h : ∃ ref since, fullToFull c cause (decide (ok = some true)) o.hours netDl y =
            { y with fullRef := ref, fuelSinceFull := since }) :
            (fullToFull c cause (decide (ok = some true)) o.hours netDl y).samplesTaken = a.samplesTaken ∧
            (fullToFull c cause (decide (ok = some true)) o.hours netDl y).samplesRejected = a.samplesRejected ∧
            (fullToFull c cause (decide (ok = some true)) o.hours netDl y).burnAverage = a.burnAverage := by
          obtain ⟨ref, since, eq⟩ := h
          rw [eq]
          exact ⟨rfl, rfl, rfl⟩
        refine kept ?_
        by_cases full : cause = .full
        · subst full
          by_cases good : ok = some true
          · have near := (none.resolve_left (fun h => h rfl)).resolve_left fun h => h good
            rw [good]
            cases hours : o.hours with
            | none => exact ⟨_, _, fullToFull_unread (.inr rfl)⟩
            | some r => exact ⟨_, _, fullToFull_first fun ref hold => near r ref hours hold⟩
          · exact ⟨_, _, fullToFull_unread (.inl (decide_eq_false good))⟩
        · exact ⟨_, _, fullToFull_other full⟩
    · have kept : e = { x with lines := x.lines.map (lineCharged o netDl x.hourMeter) } := kindCharged_other _ _ _ _ _ _ other
      rw [closes, kept, taken]
      exact ⟨rfl, rfl, rfl, rfl, rfl, rfl, rfl⟩
    · rw [hourMeter, ← lines]
      rw [closes, charged]
    · have notices : updateAtClose c o netDl cause ok a = reevaluate e := rfl
      have machine : e.machine = a.machine := by rw [charged]
      have meter : e.hourMeter = b.hourMeter := by rw [hourMeter, charged]
      rw [notices, mem_reevaluate, lines, machine, meter]
      rfl
    · rw [status, applyAction_active (before.trans active)]
      exact if_congr overdues rfl rfl
    · have same : (evaluatedLines e).implausibleRun = b.implausibleRun := by rw [closes]; rfl
      rw [status, applyAction_service (before.trans service), same]
      exact if_congr overdues rfl rfl
    · rw [status, applyAction_other (before ▸ notActive) (before ▸ notService), before]
    all_goals rw [closes, charged]
  · intro t
    have frame := closeUpdates_frame netDl cause ok o s
    have rest := frame.accountsAndLinks
    obtain ⟨classes, cursors, -⟩ := frame.same .accountsRest
    refine ⟨fun x => ?_, classes, cursors, fun apart => closeUpdates_apart (fun m names a found => apart m a names found) .., fun machine a names found stands => ?_⟩
    · change { closeUpdates o netDl cause ok s with accounts := x, links := s.links } = _
      generalize closeUpdates o netDl cause ok s = t at rest ⊢
      rw [rest]
    · intro updated b mine applied due
      set u := s.updAccount machine fun _ => b with hu
      have closes : t = postAll due (if b.openSet.isEmpty then applyDeferred machine u else u) := by
        have eq := closeUpdates_stands netDl cause ok names found stands
        rwa [accountClosed_eq] at eq
      have account (m : Nat) : u.account m = if m = machine then some b else s.account m := by
        rw [hu, account_updAccount, found]
        exact if_congr Iff.rfl (congrArg some (numberedAs_same (b := b) (accountClosed_machine s o netDl cause ok a))) rfl
      have own : u.account machine = some b := (account machine).trans (if_pos rfl)
      obtain ⟨links, accounts⟩ := applyDeferred_eq own
      have open' (held : b.openSet ≠ []) : t = postAll due u := by
        rw [closes, if_neg (by simpa using held)]
      have closed (empty : b.openSet = []) : t = postAll due (applyDeferred machine u) := by
        rw [closes, if_pos (by simpa using empty)]
      have posted (v : State) (m : Nat) : (postAll due v).account m = v.account m := by
        simp only [State.account, postAll_accounts]
      refine ⟨fun other ne => ?_, fun held => ⟨?_, ?_, ?_⟩, fun empty => ⟨?_, ?_, fun writes => ?_, fun deletes => ?_⟩⟩
      · by_cases held : b.openSet = []
        · rw [closed held, posted, accounts, if_neg ne, account, if_neg ne]
        · rw [open' held, posted, account, if_neg ne]
      · rw [open' held, posted, own]
      · rw [open' held, postAll_accounts]
        rfl
      · rw [open' held]
        exact postAll_links_congr _ rfl rfl rfl
      · rw [closed empty, postAll_append]
        have applies := applyDeferred_frame machine u
        have writes := postAll_moves (applyWrites s.seconds (writesAmong mine) b).2 (applied.foldl (fun s e => s.postTo e.source (.deferredApplied e)) s)
        have posts (v : State) : Moves [.links] ∅ v (applied.foldl (fun s e => s.postTo e.source (.deferredApplied e)) v) :=
          Moves.forEach applied _ (fun e _ t => postTo_moves _ _ t) v
        refine postAll_links_congr _ (links.trans (postAll_links_congr _ (forEach_postTo_links rfl rfl rfl) ?_ ?_)) ?_ ?_
        · exact (posts u).store.trans (posts s).store.symm
        · exact ((posts u).same .clock).trans ((posts s).same .clock).symm
        · rw [applies.store, writes.store, (posts s).store]
          rfl
        · rw [show (applyDeferred machine u).clock = _ from applies.same .clock,
            show (postAll _ _).clock = _ from writes.same .clock, show (applied.foldl _ s).clock = _ from (posts s).same .clock]
          rfl
      · rw [closed empty, postAll_accounts, applyDeferred_accounts]
        rfl
      · rw [closed empty, posted, accounts, if_pos rfl, if_neg]
        · exact congrArg some (numberedAs_same (applyWrites_machine ..))
        · rw [Bool.not_eq_true, List.any_eq_false]
          exact fun e mem => by simpa using writes e mem
      · rw [closed empty, posted, accounts, if_pos rfl, if_pos]
        rw [List.any_eq_true]
        exact deletes.imp fun e h => ⟨h.1, decide_eq_true h.2⟩
  · intro u stops order cause nothing runs now calm
    have unit : now.point p = u := congrFun (point_of_points (State.reach_points ..)) p
    have event : stopTimerEvent p reading s = pointStopExpires p reading false now := by
      rw [stopTimerEvent_due runs, if_neg]
      rintro ⟨x, pulse, late⟩
      exact absurd (calm x pulse) (Nat.not_le.2 late)
    obtain ⟨r, gross, net, ended⟩ := endWindow_nothing (s := now) (p := p) (by rw [unit]; exact nothing) reading
    have handed : (endWindow p reading now).stock.reports = [] := by
      rw [ended]
      exact (congrArg StockUnit.reports (State.reach_stock ..)).trans ready.2
    have closes : pointStopExpires p reading false now =
        finishClose p (now.updPoint p fun u => { u with meter := .idle, order := u.order.map (addResult r) }) := by
      rw [← ended]
      exact congrArg (finishClose p) (handReports_none handed)
    have stands : ((now.updPoint p fun u => { u with meter := .idle, order := u.order.map (addResult r) }).point p).order =
        some (addResult r o) := by
      rw [point_updPoint_self, unit]
      exact congrArg (Option.map (addResult r)) order
    have moves := finishClose_moves p (now.updPoint p fun u => { u with meter := .idle, order := u.order.map (addResult r) })
    have taken : takeEvent (stopTimerEvent p reading) s = pointStopExpires p reading false now := by
      refine (takeEvent_eq ready.1 ?_).trans event
      rw [event, closes]
      exact (moves.same .reports).trans ((congrArg StockUnit.reports (State.reach_stock ..)).trans ready.2)
    refine ⟨_, _, congrArg Host.Outcome.next taken, by rw [closes, finishClose_journal stands]; exact List.getLast?_concat .., rfl, rfl, ?_⟩
    rw [closes, finishClose_accounts stands]
    have figures : (addResult r o).net = o.net ∧ (addResult r o).termination = some c := ⟨by rw [addResult, net]; rfl, cause⟩
    rw [figures.1, figures.2]
    have measured (n : Nat) (ok : Option Bool) (t : State) : closeUpdates (addResult r o) n c ok t = closeUpdates o n c ok t := rfl
    refine (congrArg State.accounts (measured ..)).trans ?_
    exact closeUpdates_congr (s := now) (t := now.updPoint p _) (decilitres o.net).toNat c (now.assess o) rfl rfl o

end Sys2Proof.Machine

/-! # Pulses, and the window ends of an inlet (O55) -/

namespace Sys2Proof.Machine

open Sys2Proof

/-! ## Pulses (R5) -/

theorem countPulse_idle {m : Meter} (idle : m.working = none) (now : Nat) : countPulse now m = m := by
  simp [countPulse, idle]

theorem countPulse_below {m : Meter} (metering : m.working.isSome) (room : m.pulses < 65535) (now : Nat) :
    countPulse now m = { m with pulses := m.pulses + 1, lastPulse := some now } := by
  obtain ⟨w, working⟩ := Option.isSome_iff_exists.1 metering
  have bound : m.pulses < Config.maxPulses := room
  simp [countPulse, working, bound]

theorem countPulse_full {m : Meter} (metering : m.working.isSome) (full : 65535 ≤ m.pulses) (now : Nat) :
    countPulse now m = { m with overrange := true, lastPulse := some now } := by
  obtain ⟨w, working⟩ := Option.isSome_iff_exists.1 metering
  have bound : ¬m.pulses < Config.maxPulses := Nat.not_lt.2 full
  simp [countPulse, working, bound]

/-! ## At most one report (R70) -/

/-- R14, R70: an event with at most one report, where no order that waits posts anything as it closes, leaves the stock and
the inlets as they are. -/
theorem handReportsAt_few {ended : Option PointId} {s : State} (few : s.stock.reports = [] ∨ ∃ r, s.stock.reports = [r])
    (spent : ∀ q, s.Spent ended q) : (handReportsAt ended s).stock = { s.stock with reports := [] } ∧
      (handReportsAt ended s).inlets = s.inlets := by
  rcases few with none | ⟨r, one⟩
  · have same : handReportsAt ended s = s := by
      unfold handReportsAt handReportsUpTo
      rw [none]
    rw [same]
    exact ⟨by rw [← none], rfl⟩
  · obtain ⟨stock, inlets, -⟩ := handReportsAt_one one spent
    exact ⟨stock, inlets⟩

/-! ## Several causes at an inlet (R92, R97) -/

section
variable {i : InletId} {s : State} {d : Delivery}

theorem stopInlets_stops (stops : (s.inlet i).state = .stopping) (delivery : (s.inlet i).delivery = some d) (cs : List Cause) :
    forEach cs (fun c => stopInlet c i) s = { s with inlets := put s.inlets i { s.inlet i with
      delivery := some { d with secondaries := cs.foldl (addCause d.termination) d.secondaries } } } := by
  induction cs generalizing s d with
  | nil =>
    have same : put s.inlets i { s.inlet i with delivery := some d } = s.inlets := by
      rw [← delivery]
      exact put_look ..
    change s = { s with inlets := put s.inlets i { s.inlet i with delivery := some d } }
    rw [same]
  | cons c cs ih =>
    have first := stopInlet_stops (c := c) stops delivery
    have unit : (stopInlet c i s).inlet i = { s.inlet i with
        delivery := some { d with secondaries := addCause d.termination d.secondaries c } } := by
      rw [first]
      exact look_put_self ..
    refine (ih (s := stopInlet c i s) (by rw [unit]; exact stops) (by rw [unit])).trans ?_
    rw [unit, first]
    simp only [put_put, List.foldl_cons]

theorem stopInlets_receives (receives : (s.inlet i).state = .receiving) (delivery : (s.inlet i).delivery = some d) (c : Cause) (cs : List Cause) :
    forEach (c :: cs) (fun c => stopInlet c i) s = { s with inlets := put s.inlets i { s.inlet i with
      state := .stopping, valve := false, stopDue := some (s.clock + 5000), stoppingAt := s.clock, stopRequestAt := none
      delivery := some { d with termination := some c, secondaries := cs.foldl (addCause (some c)) d.secondaries } } } := by
  have first := stopInlet_receiving (c := c) receives delivery
  have unit : (stopInlet c i s).inlet i = { s.inlet i with
      state := .stopping, valve := false, stopDue := some (s.clock + 5000), stoppingAt := s.clock
      stopRequestAt := none, delivery := some { d with termination := some c } } := by
    rw [first]
    exact look_put_self ..
  refine (stopInlets_stops (s := stopInlet c i s) (by rw [unit]) (by rw [unit]) cs).trans ?_
  rw [unit, first]
  simp only [put_put]

/-! ## A window credited (R71, R73) -/

theorem receiving_of_flags {t : State} (flags : ∀ j, (t.inlet j).delivery.map (fun d => (d.holdsFlag, d.tank)) =
    (s.inlet j).delivery.map fun d => (d.holdsFlag, d.tank)) : t.receiving = s.receiving := by
  funext k
  simp only [receiving_eq, flags]

/-- R71: the stock after a window of an operation, its amount posted when its net is not 0. -/
structure State.Credited (s : State) (k : TankId) (net : Nat) (amount : Int) (t : State) : Prop where
  none : net = 0 → t.stock = s.stock ∧ t.links = s.links
  some : net ≠ 0 → t.stock = { s.stock with
    tanks := put s.stock.tanks k (s.posted k amount), draws := t.stock.draws, reports := t.stock.reports }
  draws : net ≠ 0 → ∀ j, t.draw j = s.drawPosted k amount j
  reports : t.stock.reports = s.stock.reports ++
    if net ≠ 0 ∧ s.exhausts k amount = true then [⟨(s.tankSet k).product, s.exhaustionReason (s.tankSet k).product⟩] else []
  noticed : s.Noticed t

/-- R13, R71, R73: a window result credited to the target tank and added to the delivery. -/
theorem takeDeliveryResult_credits (delivery : (s.inlet i).delivery = some d) (m : Meter) (r : WindowResult) :
    let t := takeDeliveryResult i r (s.updInlet i fun u => { u with meter := m })
    t = { s with
      inlets := put s.inlets i { s.inlet i with meter := m, delivery := some (addDeliveryResult r d) }
      stock := t.stock, links := t.links } ∧ s.Credited d.tank r.net r.net t := by
  intro t
  set x := s.updInlet i fun u => { u with meter := m } with hx
  have held : (x.inlet i).delivery = some d := by rw [hx, inlet_updInlet_self]; exact delivery
  have inlets : (x.updDelivery i (addDeliveryResult r)).inlets =
      put s.inlets i { s.inlet i with meter := m, delivery := some (addDeliveryResult r d) } := by
    simp only [hx, State.updDelivery, State.updInlet, adjust_adjust]
    simp only [adjust, show (look s.inlets i).delivery = some d from delivery, Option.map_some]
    rfl
  have credits : t = (postDeliveryWindow i r.net x).updDelivery i (addDeliveryResult r) := rfl
  by_cases nothing : r.net = 0
  · have same : t = x.updDelivery i (addDeliveryResult r) := by
      rw [credits, postDeliveryWindow, if_pos nothing]
    refine ⟨?_, fun _ => ?_, fun h => absurd nothing h, fun h => absurd nothing h, ?_, .of_links ?_⟩
    · rw [← inlets, same]
      rfl
    · rw [same]
      exact ⟨rfl, rfl⟩
    · rw [if_neg fun h => h.1 nothing, List.append_nil, same]
      rfl
    · rw [same]
      rfl
  · have posts : postDeliveryWindow i r.net x = postToTank d.tank r.net x := by
      rw [postDeliveryWindow, if_neg nothing, held]
    have receiving : x.receiving = s.receiving := receiving_of_flags fun j => by
      rw [hx, inlet_updInlet]
      split
      · next same => rw [same]
      · rfl
    obtain ⟨rest, draws, reports, noticed⟩ := (postToTank_posted d.tank r.net x).of_sameStock (s := s)
      ⟨rfl, rfl, receiving, rfl, rfl⟩
    rw [← posts] at rest draws reports noticed
    have stock : t.stock = (postDeliveryWindow i r.net x).stock := rfl
    have kept : (postDeliveryWindow i r.net x).inlets = x.inlets := by rw [rest]
    refine ⟨?_, fun h => absurd h nothing, fun _ => ?_, fun _ => draws, ?_, noticed.once rfl⟩
    · rw [← inlets]
      have whole : t = { postDeliveryWindow i r.net x with inlets := (x.updDelivery i (addDeliveryResult r)).inlets } := by
        rw [credits]
        simp only [State.updDelivery, State.updInlet, kept]
      generalize postDeliveryWindow i r.net x = y at rest whole
      rw [whole, rest]
      rfl
    · rw [stock]
      generalize postDeliveryWindow i r.net x = y at rest ⊢
      rw [rest]
    · rw [stock, reports]
      simp only [ne_eq, nothing, not_false_eq_true, true_and]

theorem State.Credited.tank {t : State} {k : TankId} {net : Nat} {amount : Int} (h : s.Credited k net amount t) :
    t.tank k = if net = 0 then s.tank k else s.posted k amount := by
  by_cases nothing : net = 0
  · rw [if_pos nothing, State.tank, (h.none nothing).1]
    rfl
  · rw [if_neg nothing, State.tank, h.some nothing, look_put_self]

theorem State.Credited.tank_ne {t : State} {k j : TankId} {net : Nat} {amount : Int} (h : s.Credited k net amount t) (ne : j ≠ k) :
    t.tank j = s.tank j := by
  by_cases nothing : net = 0
  · rw [State.tank, (h.none nothing).1]
    rfl
  · rw [State.tank, h.some nothing, look_put_ne _ _ ne.symm]
    rfl

theorem State.Credited.draw {t : State} {k : TankId} {net : Nat} {amount : Int} (h : s.Credited k net amount t) (j : ProductId) :
    t.draw j = if net = 0 then s.draw j else s.drawPosted k amount j := by
  by_cases nothing : net = 0
  · rw [if_pos nothing, State.draw, (h.none nothing).1]
    rfl
  · rw [if_neg nothing, h.draws nothing]

/-- R71: the book of the target tank after a window. -/
theorem State.Credited.book {t : State} {k : TankId} {net : Nat} (h : s.Credited k net net t) :
    (t.tank k).book = (s.tank k).book + net := by
  rw [h.tank]
  split
  · next nothing => rw [nothing]; simp
  · rfl

/-! ## A window judged (R92, R94, R97) -/

/-- R92, R94: an inlet that has met some causes at a window end. -/
def InletUnit.meets (u : InletUnit) (now : Nat) (met : List Cause) : InletUnit :=
  match u.state, met with
  | .receiving, c :: rest => { u with
      state := .stopping, valve := false, stopDue := some (now + 5000), stoppingAt := now, stopRequestAt := none
      delivery := u.delivery.map fun d =>
        { d with termination := some c, secondaries := rest.foldl (addCause (some c)) d.secondaries } }
  | .stopping, met => { u with
      delivery := u.delivery.map fun d => { d with secondaries := met.foldl (addCause d.termination) d.secondaries } }
  | _, _ => u

theorem InletUnit.meets_nothing (u : InletUnit) (now : Nat) : u.meets now [] = u := by
  unfold InletUnit.meets
  split
  · next found => cases found
  · exact congrArg (fun x => { u with delivery := x }) Option.map_id'
  · rfl

/-- R92, R97: what a window end that has met some causes leaves of an inlet as it was. -/
theorem InletUnit.meets_rest (u : InletUnit) (now : Nat) (met : List Cause) :
    let v := u.meets now met
    v = { u with
      state := v.state, valve := v.valve, stopDue := v.stopDue, stoppingAt := v.stoppingAt
      stopRequestAt := v.stopRequestAt, delivery := v.delivery } := by
  unfold InletUnit.meets
  dsimp only
  split <;> rfl

theorem stopInlets_meets (judged : (s.inlet i).state = .receiving ∨ (s.inlet i).state = .stopping)
    (delivery : (s.inlet i).delivery = some d) (met : List Cause) :
    forEach met (fun c => stopInlet c i) s = { s with inlets := put s.inlets i ((s.inlet i).meets s.clock met) } := by
  rcases judged with receives | stops
  · cases met with
    | nil =>
      rw [InletUnit.meets_nothing, show put s.inlets i (s.inlet i) = s.inlets from put_look ..]
      rfl
    | cons c rest =>
      rw [stopInlets_receives receives delivery]
      simp only [InletUnit.meets, receives, delivery, Option.map_some]
  · rw [stopInlets_stops stops delivery]
    simp only [InletUnit.meets, stops, delivery, Option.map_some]

/-- R92, R94: an inlet whose window has just been credited, judged. -/
def judgeInletWindow (i : InletId) (was : InletUnit) (flow : Nat) (s : State) : State :=
  if was.judged s.clock then
    forEach (inletWindowCauses i (s.updInlet i (countInletWindow (s.inletSet i) flow))) (fun c => stopInlet c i)
      (s.updInlet i (countInletWindow (s.inletSet i) flow))
  else s

/-- R92: the causes that a window end meets at an inlet. -/
def State.metAtInlet (s : State) (i : InletId) (u : InletUnit) (d : Delivery) : List Cause :=
  (if microlitres (s.tankSet d.tank).highCut ≤ (s.tank d.tank).book then [.highLevel] else []) ++
    (if u.flowBegun = true ∧ (s.inletSet i).noFlowTime * 5 ≤ u.lowFlow then [.emptied] else [])

theorem inletWindowCauses_met (delivery : (s.inlet i).delivery = some d) :
    inletWindowCauses i s = s.metAtInlet i (s.inlet i) d := by
  simp only [inletWindowCauses, delivery, State.metAtInlet, State.bookAtHighCut, decide_eq_true_eq, Bool.and_eq_true]

theorem judgeInletWindow_judged {was : InletUnit} {flow : Nat} (judged : was.judged s.clock = true)
    (stands : (s.inlet i).state = .receiving ∨ (s.inlet i).state = .stopping) (delivery : (s.inlet i).delivery = some d) :
    judgeInletWindow i was flow s = { s with
      inlets := put s.inlets i ((countInletWindow (s.inletSet i) flow (s.inlet i)).meets s.clock
        (s.metAtInlet i (countInletWindow (s.inletSet i) flow (s.inlet i)) d)) } := by
  set counted := countInletWindow (s.inletSet i) flow (s.inlet i) with hcounted
  have updated : s.updInlet i (countInletWindow (s.inletSet i) flow) = { s with inlets := put s.inlets i counted } := rfl
  have unit : ({ s with inlets := put s.inlets i counted } : State).inlet i = counted := look_put_self ..
  have held : counted.delivery = some d := delivery
  rw [judgeInletWindow, if_pos judged, updated, inletWindowCauses_met (d := d) (by rw [unit, held]),
    stopInlets_meets (by rw [unit]; exact stands) (by rw [unit, held])]
  rw [unit]
  simp only [put_put]
  rfl

theorem judgeInletWindow_passes {was : InletUnit} (passes : was.judged s.clock = false) (flow : Nat) :
    judgeInletWindow i was flow s = s := by
  rw [judgeInletWindow, if_neg (by rw [passes]; decide)]

/-- R13, R92: an inlet that has taken a window, its counts moved when the window is judged. -/
def InletUnit.windowed (u : InletUnit) (m : Meter) (d : Delivery) (judged : Bool) (set : InletSettings) (flow : Nat) : InletUnit :=
  if judged then countInletWindow set flow { u with meter := m, delivery := some d } else { u with meter := m, delivery := some d }

theorem InletUnit.windowed_rest (u : InletUnit) (m : Meter) (d : Delivery) (judged : Bool) (set : InletSettings) (flow : Nat) :
    let v := u.windowed m d judged set flow
    v = { u with meter := m, delivery := some d, flowBegun := v.flowBegun, lowFlow := v.lowFlow } := by
  unfold InletUnit.windowed
  dsimp only
  split <;> rfl

/-- R13, R92, R94, R97: a window credited and judged. -/
theorem inletWindow_judged {m : Meter} {r : WindowResult} (delivery : (s.inlet i).delivery = some d)
    (stands : (s.inlet i).judged s.clock = true → (s.inlet i).state = .receiving ∨ (s.inlet i).state = .stopping) :
    let c := takeDeliveryResult i r (s.updInlet i fun u => { u with meter := m })
    let v := (s.inlet i).windowed m (addDeliveryResult r d) ((s.inlet i).judged s.clock) (s.inletSet i) r.flow
    judgeInletWindow i (s.inlet i) r.flow c = { s with
      inlets := put s.inlets i
        (v.meets s.clock (if (s.inlet i).judged s.clock then c.metAtInlet i v (addDeliveryResult r d) else []))
      stock := c.stock, links := c.links } := by
  intro c v
  have rest : c = _ := (takeDeliveryResult_credits delivery m r).1
  have unit : c.inlet i = { s.inlet i with meter := m, delivery := some (addDeliveryResult r d) } := by
    rw [rest]
    exact look_put_self ..
  have clock : c.clock = s.clock := by rw [rest]
  have set : c.inletSet i = s.inletSet i := by rw [rest]; rfl
  have inlets : c.inlets = put s.inlets i { s.inlet i with meter := m, delivery := some (addDeliveryResult r d) } := by rw [rest]
  cases judged : (s.inlet i).judged s.clock with
  | true =>
    have same : v = countInletWindow (c.inletSet i) r.flow (c.inlet i) := by
      simp only [v, InletUnit.windowed, judged, if_true, unit, set]
    rw [judgeInletWindow_judged (by rw [clock]; exact judged) (by rw [unit]; exact stands judged) (by rw [unit]), ← same, clock, if_pos rfl]
    generalize v.meets s.clock (c.metAtInlet i v (addDeliveryResult r d)) = x
    rw [inlets, put_put]
    generalize c = y at rest
    rw [rest]
  | false =>
    have same : v = { s.inlet i with meter := m, delivery := some (addDeliveryResult r d) } := by
      simp only [v, InletUnit.windowed, judged, Bool.false_eq_true, if_false]
    rw [judgeInletWindow_passes (by rw [clock]; exact judged), if_neg (by decide), InletUnit.meets_nothing, same]
    exact rest

theorem inletWindowEnd_eq (w : Working) (reading : Option Int) : inletWindowEnd i w reading s =
    let now := s.reach ((s.inlet i).meter.windowStart + Config.windowMs)
    judgeInletQuiet (s.inlet i).state i (judgeInletWindow i (s.inlet i) (windowResult (s.inlet i).meter w reading false).flow
      (takeDeliveryResult i (windowResult (s.inlet i).meter w reading (now.lastAtInlet i))
        (now.updInlet i fun u => { u with meter := nextWindow (now.inlet i).meter w reading }))) := rfl

end

/-! ## The flag let go (R73, R96) -/

section
variable {i : InletId} {s : State} {d : Delivery}

/-- R96, R98: an inlet that begins its settle. -/
def State.settlingInlet (s : State) (i : InletId) (d : Delivery) : InletUnit :=
  (s.inlet i).settling { d with extensions := 0, holdsFlag := false } (s.clock + (s.inletSet i).settleTime * 60000)

/-- R73, R96: the state in which the settle of an inlet begins, before the check that its flag calls for. -/
def State.letGo (s : State) (i : InletId) (d : Delivery) : State := { s with inlets := put s.inlets i (s.settlingInlet i d) }

theorem enterSettling_eq (delivery : (s.inlet i).delivery = some d) : enterSettling i s =
    if d.holdsFlag = true ∧ (s.letGo i d).receiving d.tank = false then
      chainCheck (s.tankSet d.tank).product false (restartQuiet d.tank (s.letGo i d))
    else s.letGo i d := by
  set y := (s.updInlet i fun u => { u with
    state := .settling, valve := false, meter := .idle, stopDue := none
    settleDue := some (s.after ((s.inletSet i).settleTime * 60)) }).updDelivery i fun d => { d with extensions := 0 } with hy
  have held : (y.inlet i).delivery = some { d with extensions := 0 } := by
    rw [hy, inlet_updDelivery_self, inlet_updInlet_self, delivery]
    rfl
  have due : s.after ((s.inletSet i).settleTime * 60) = s.clock + (s.inletSet i).settleTime * 60000 := by
    rw [State.after]
    omega
  have gone : y.updDelivery i (fun d => { d with holdsFlag := false }) = s.letGo i d := by
    simp only [hy, State.updDelivery, State.updInlet, adjust_adjust, State.letGo, State.settlingInlet, due]
    simp only [adjust, show (look s.inlets i).delivery = some d from delivery, Option.map_some]
    rfl
  have settles : enterSettling i s = clearReceiving i y := rfl
  rw [settles, clearReceiving, held]
  dsimp only
  rw [gone]
  simp only [Bool.and_eq_true, Bool.not_eq_true']
  rfl

/-- R73, R78: the settle of an inlet clears the RECEIVING flag of its tank. -/
def State.FlagLetGo (s : State) (i : InletId) (d : Delivery) : Prop :=
  d.holdsFlag = true ∧ (s.letGo i d).receiving d.tank = false

/-- R69, R73, R78, R96: what the beginning of a settle leaves, its exhaustion report not yet handed. -/
structure State.Settles (s : State) (i : InletId) (d : Delivery) (t : State) : Prop where
  rest : t = { s with inlets := put s.inlets i (s.settlingInlet i d), stock := t.stock, links := t.links }
  quiet : s.FlagLetGo i d → t.stock.tanks = (restartQuiet d.tank (s.letGo i d)).stock.tanks
  tanks : ∀ k, (s.FlagLetGo i d ∧ k = d.tank →
      t.tank k = { s.tank k with quietStart := s.seconds, quietRef := (s.tank k).gauged }) ∧
    (¬(s.FlagLetGo i d ∧ k = d.tank) → t.tank k = s.tank k)
  draws : ∀ j, (s.FlagLetGo i d ∧ j = (s.tankSet d.tank).product →
      t.draw j = (s.draw j).moved ((restartQuiet d.tank (s.letGo i d)).drawAfter j false)) ∧
    (¬(s.FlagLetGo i d ∧ j = (s.tankSet d.tank).product) → t.draw j = s.draw j)
  kept : ((s.draw (s.tankSet d.tank).product).current.isSome → (t.draw (s.tankSet d.tank).product).current.isSome) →
    t.stock.reports = s.stock.reports
  few : t.stock.reports = s.stock.reports ∨ (s.draw (s.tankSet d.tank).product).current.isSome ∧
    ∃ r, t.stock.reports = s.stock.reports ++ [r]

theorem enterSettling_settles (delivery : (s.inlet i).delivery = some d) : s.Settles i d (enterSettling i s) := by
  have eq := enterSettling_eq delivery
  set product := (s.tankSet d.tank).product with hproduct
  by_cases lets : s.FlagLetGo i d
  · replace eq := eq.trans (if_pos lets)
    have check := chainCheck_drawsMoved product false (restartQuiet d.tank (s.letGo i d))
    have draw (j : ProductId) : (enterSettling i s).draw j = if product = j then
        (s.draw j).moved ((restartQuiet d.tank (s.letGo i d)).drawAfter j false) else s.draw j := by
      rw [eq, chainCheck_draw]
      by_cases own : product = j
      · rw [if_pos own, if_pos own, ← own]
        rfl
      · rw [if_neg own, if_neg own]
        rfl
    have reports : (enterSettling i s).stock.reports = s.stock.reports ++
        if (s.draw product).current.isSome ∧ ((enterSettling i s).draw product).current = none then
          [⟨product, (restartQuiet d.tank (s.letGo i d)).exhaustionReason product⟩] else [] := by
      rw [draw, if_pos rfl, eq, chainCheck_reports]
      rfl
    have tanks : (enterSettling i s).stock.tanks = (restartQuiet d.tank (s.letGo i d)).stock.tanks := by
      rw [eq]
      have rest := check.rest
      generalize chainCheck product false (restartQuiet d.tank (s.letGo i d)) = t at rest ⊢
      rw [rest]
    have tank (k : TankId) : (enterSettling i s).tank k = (restartQuiet d.tank (s.letGo i d)).tank k := by
      rw [State.tank, tanks]
      rfl
    refine ⟨?_, fun _ => tanks, fun k => ⟨fun h => ?_, fun h => ?_⟩, fun j => ⟨fun h => ?_, fun h => ?_⟩, fun held => ?_, ?_⟩
    · rw [eq]
      have rest := check.rest
      generalize chainCheck product false (restartQuiet d.tank (s.letGo i d)) = t at rest ⊢
      rw [rest]
      rfl
    · rw [tank, h.2]
      exact tank_updTank_self (s := s.letGo i d) d.tank _
    · rw [tank, restartQuiet, tank_updTank, if_neg fun same => h ⟨lets, same.symm⟩]
      rfl
    · rw [draw, if_pos h.2.symm]
    · rw [draw, if_neg fun same => h ⟨lets, same.symm⟩]
    · rw [reports, if_neg, List.append_nil]
      rintro ⟨holds, none⟩
      have some := held holds
      rw [none] at some
      cases some
    · rw [reports]
      split
      · next h => exact .inr ⟨h.1, _, rfl⟩
      · exact .inl (List.append_nil _)
  · rw [eq.trans (if_neg lets)]
    exact ⟨rfl, fun h => absurd h lets, fun k => ⟨fun h => absurd h.1 lets, fun _ => rfl⟩, fun j => ⟨fun h => absurd h.1 lets, fun _ => rfl⟩, fun _ => rfl, .inl rfl⟩

end

end Sys2Proof.Machine

/-! # The window ends of an inlet (O55) -/

namespace Sys2Proof.Machine

open Sys2Proof

theorem inletWindowEvent_metering {i : InletId} {w : Working} {s : State} (working : (s.inlet i).meter.working = some w)
    (reading : Option Int) : inletWindowEvent i reading s = handReports (inletWindowEnd i w reading s) := by
  rw [inletWindowEvent, working]

theorem judgeInletQuiet_waits {i : InletId} {was : InletState} {s : State}
    (waits : ¬(was = .stopping ∧ max (s.inlet i).stoppingAt ((s.inlet i).meter.lastPulse.getD 0) + 1000 ≤ s.clock)) :
    judgeInletQuiet was i s = s := by
  refine if_neg (c := was = .stopping ∧ isQuiet s.clock (s.inlet i).meter (s.inlet i).stoppingAt = true) ?_
  rintro ⟨stops, quiet⟩
  exact waits ⟨stops, of_decide_eq_true quiet⟩

theorem judgeInletQuiet_quiet {i : InletId} {was : InletState} {s : State}
    (quiet : was = .stopping ∧ max (s.inlet i).stoppingAt ((s.inlet i).meter.lastPulse.getD 0) + 1000 ≤ s.clock) :
    judgeInletQuiet was i s = enterSettling i s :=
  if_pos (c := was = .stopping ∧ isQuiet s.clock (s.inlet i).meter (s.inlet i).stoppingAt = true)
    ⟨quiet.1, decide_eq_true quiet.2⟩

theorem nothing_or_cons {α : Type} (xs : List α) : xs = [] ∨ ∃ x rest, xs = x :: rest := by
  cases xs with
  | nil => exact .inl rfl
  | cons x rest => exact .inr ⟨x, rest, rfl⟩

/-- Settles O55. -/
theorem inletWindows : Obligations.InletWindows := by
  refine ⟨fun i s ready => ?_, fun i reading s ready idle => ?_, fun i reading d w s ready calm waiters => ?_⟩
  · intro m counted
    have event (m' : Meter) (counts : countPulse s.clock (s.inlet i).meter = m') : exec (.meterPulse (.inlet i)) s = .next (counted m') := by
      have taken : meterPulseEvent (.inlet i) s = counted m' := by
        rw [← counts]
        rfl
      refine congrArg Host.Outcome.next ((takeEvent_eq ready.1 ?_).trans taken)
      rw [taken]
      exact ready.2
    refine ⟨fun idle => ?_, fun metering room => event _ (countPulse_below metering room _),
      fun metering full => event _ (countPulse_full metering full _)⟩
    rw [event m (countPulse_idle idle _)]
    exact congrArg (fun inlets => Host.Outcome.next { s with inlets := inlets }) (put_look s.inlets i)
  · have still : inletWindowEvent i reading s = s := by rw [inletWindowEvent, idle]
    exact congrArg Host.Outcome.next ((takeEvent_eq ready.1 (by rw [show windowEndEvent (.inlet i) reading s = s from still]; exact ready.2)).trans still)
  · intro u set state delivery working now r product exhausted high judged begun low dry quiet met added stopped
    have unit : now.inlet i = u := congrFun (inlet_of_inlets (State.reach_inlets ..)) i
    have store : now.store = s.store := State.reach_store ..
    have stock : now.stock = s.stock := State.reach_stock ..
    have sets : now.inletSet i = set := by rw [State.inletSet, store]; rfl
    have tankSets : now.tankSet d.tank = s.tankSet d.tank := by rw [State.tankSet, store]; rfl
    have tank : now.tank d.tank = s.tank d.tank := by rw [State.tank, stock]; rfl
    set last := windowResult u.meter w reading (now.lastAtInlet i) with hlast
    have held : (now.inlet i).delivery = some d := by rw [unit]; exact delivery
    obtain ⟨crest, credited⟩ := takeDeliveryResult_credits held (nextWindow (now.inlet i).meter w reading) last
    have window := inletWindow_judged (m := nextWindow (now.inlet i).meter w reading) (r := last) held
      (by
        rw [unit]
        intro h
        simp only [InletUnit.judged, Bool.or_eq_true, Bool.and_eq_true, decide_eq_true_eq] at h
        exact h.imp id And.left)
    set c := takeDeliveryResult i last (now.updInlet i fun x => { x with meter := nextWindow (now.inlet i).meter w reading }) with hc
    rw [unit, sets] at window
    set v := u.windowed (nextWindow u.meter w reading) added (u.judged now.clock) set r.flow with hv
    have judges : u.judged now.clock = true ↔ judged := by
      simp only [InletUnit.judged, Bool.or_eq_true, Bool.and_eq_true, decide_eq_true_eq]
      exact Iff.rfl
    have vrest : v = { u with
        meter := nextWindow u.meter w reading, delivery := some added, flowBegun := v.flowBegun, lowFlow := v.lowFlow } :=
      u.windowed_rest (nextWindow u.meter w reading) added (u.judged now.clock) set r.flow
    have flowBegun : v.flowBegun = if judged then begun else u.flowBegun := by
      simp only [hv, InletUnit.windowed, judges]
      split <;> rfl
    have lowFlow : v.lowFlow = if judged then low else u.lowFlow := by
      simp only [hv, InletUnit.windowed, judges]
      split
      · simp only [countInletWindow, Bool.and_eq_true, decide_eq_true_eq]
        rfl
      · rfl
    have meets : (if u.judged now.clock then c.metAtInlet i v added else []) = met := by
      have level : microlitres (c.tankSet d.tank).highCut ≤ (c.tank d.tank).book ↔ high := by
        rw [credited.book, tank, show c.tankSet d.tank = s.tankSet d.tank by rw [crest]; exact tankSets]
        exact Iff.rfl
      have inletSet : c.inletSet i = set := by rw [crest]; exact sets
      by_cases asks : judged
      · have emptied : v.flowBegun = true ∧ (c.inletSet i).noFlowTime * 5 ≤ v.lowFlow ↔ dry := by
          rw [flowBegun, lowFlow, if_pos asks, if_pos asks, inletSet]
        rw [if_pos (judges.2 asks)]
        simp only [met, asks, true_and]
        exact congrArg₂ (· ++ ·) (if_congr level rfl rfl) (if_congr emptied rfl rfl)
      · rw [if_neg (judges.not.2 asks)]
        simp only [met, asks, false_and, if_false, List.append_nil]
    set J := judgeInletWindow i u last.flow c with hJ
    replace window : J = { now with
        inlets := put now.inlets i (v.meets now.clock met), stock := c.stock, links := c.links } := by
      rw [← meets]
      exact window
    set k := v.meets now.clock met with hk
    have krest : k = { v with
        state := k.state, valve := k.valve, stopDue := k.stopDue, stoppingAt := k.stoppingAt
        stopRequestAt := k.stopRequestAt, delivery := k.delivery } := v.meets_rest now.clock met
    have ended : inletWindowEnd i w reading s = judgeInletQuiet u.state i J := inletWindowEnd_eq w reading
    have kunit : J.inlet i = k := by rw [window]; exact look_put_self ..
    have others (j : InletId) (ne : j ≠ i) : J.inlet j = s.inlet j := by
      rw [window]
      exact (look_put_ne _ _ (Ne.symm ne)).trans (congrFun (inlet_of_inlets (State.reach_inlets ..)) j)
    have reports : J.stock.reports = if exhausted then [⟨product, s.emptyReason product⟩] else [] := by
      have reason : now.exhaustionReason product = s.emptyReason product := by
        rw [State.exhaustionReason, stock, calm, State.isWaste, State.productSet, store]
        rfl
      rw [show J.stock = c.stock by rw [window], credited.reports, stock, ready.2, tankSets, reason, List.nil_append]
      rfl
    have kstops (stops : u.state = .stopping) : k = { v with delivery := some stopped } := by
      have : v.state = .stopping := by rw [vrest]; exact stops
      simp only [hk, InletUnit.meets, this]
      rw [vrest]
      rfl
    have kreceives (receives : u.state = .receiving) : met = [] ∧ k = v ∨ ∃ c rest, met = c :: rest ∧ k = { v with
        state := .stopping, valve := false, stopDue := some (now.clock + 5000), stoppingAt := now.clock, stopRequestAt := none
        delivery := some { added with termination := some c, secondaries := rest.foldl (addCause (some c)) d.secondaries } } := by
      have : v.state = .receiving := by rw [vrest]; exact receives
      rcases nothing_or_cons met with none | ⟨c, rest, causes⟩
      · exact .inl ⟨none, by rw [hk, none, InletUnit.meets_nothing]⟩
      · refine .inr ⟨c, rest, causes, ?_⟩
        simp only [hk, InletUnit.meets, this, causes]
        rw [vrest]
        rfl
    have judgesQuiet : (u.state = .stopping ∧ max (J.inlet i).stoppingAt ((J.inlet i).meter.lastPulse.getD 0) + 1000 ≤ J.clock) ↔ quiet := by
      refine and_congr_right fun stops => ?_
      rw [kunit, kstops stops, vrest, show J.clock = now.clock by rw [window]]
      rfl
    have noReports (still : ¬exhausted) : J.stock.reports = [] := by rw [reports, if_neg still]
    have points : J.points = s.points := by
      rw [window]
      exact State.reach_points ..
    have spent := State.Spent.of_waiters waiters points
    have few : J.stock.reports = [] ∨ ∃ r, J.stock.reports = [r] := by
      rw [reports]
      split
      · exact .inr ⟨_, rfl⟩
      · exact .inl rfl
    have drawn (j : ProductId) : now.draw j = s.draw j := by rw [State.draw, stock]; rfl
    by_cases stills : quiet
    · have stops : u.state = .stopping := stills.1
      have kd : (J.inlet i).delivery = some stopped := by rw [kunit, kstops stops]
      have settles := enterSettling_settles kd
      have ends : inletWindowEvent i reading s = handReports (enterSettling i J) := by
        rw [inletWindowEvent_metering working, ended, judgeInletQuiet_quiet (judgesQuiet.2 stills)]
      set x := enterSettling i J with hx
      have run : exec (.windowEnd (.inlet i) reading) s = .next (handReports x) :=
        congrArg Host.Outcome.next ((takeEvent_eq ready.1 (by
          rw [show windowEndEvent (.inlet i) reading s = handReports x from ends]
          exact handReports_reports x)).trans ends)
      have jset : J.tankSet d.tank = s.tankSet d.tank := by rw [window]; exact tankSets
      have cstock : J.stock = c.stock := by rw [window]
      have jdraw (j : ProductId) : J.draw j = if r.net = 0 then s.draw j else now.drawPosted d.tank r.net j := by
        rw [State.draw, cstock, ← drawn]
        exact credited.draw j
      have emptied (h : exhausted) : (J.draw product).current = none := by
        obtain ⟨some, empties⟩ := h
        rw [jdraw, if_neg some]
        simp only [State.exhausts, tankSets, Bool.and_eq_true, Option.isNone_iff_eq_none] at empties
        exact empties.2
      have xfew : x.stock.reports = [] ∨ ∃ r, x.stock.reports = [r] := by
        rcases settles.few with same | ⟨draws, r, more⟩
        · rw [same]
          exact few
        · have still : ¬exhausted := fun h => by
            rw [show (J.tankSet stopped.tank).product = product from congrArg TankSettings.product jset, emptied h] at draws
            cases draws
          exact .inr ⟨r, by rw [more, noReports still, List.nil_append]⟩
      have xpoints : x.points = s.points := by rw [settles.rest]; exact points
      obtain ⟨xstock, xinlets⟩ := handReportsAt_few xfew (State.Spent.of_waiters waiters xpoints)
      have moves := handReports_moves x
      set t := handReports x with ht
      change t.stock = _ at xstock
      change t.inlets = _ at xinlets
      refine ⟨t, run, ?_, ?_, ?_, ?_, fun j ne => ?_, fun h => absurd stills h, fun awaits => ?_, fun receives => ?_, fun receives => ?_,
        fun _ h => absurd stills h, fun _ => ?_⟩
      · rw [show t.clock = _ from moves.same .clock, settles.rest, window]
      · rw [moves.store, settles.rest, window]
        exact store
      · rw [moves.shutdown, settles.rest, window]
        exact State.reach_shutdown ..
      · rw [moves.bay, settles.rest, window]
        exact State.reach_bay ..
      · rw [← others j ne, State.inlet, xinlets, settles.rest]
        exact look_put_ne _ _ (Ne.symm ne)
      · cases stops.symm.trans awaits
      · cases stops.symm.trans receives
      · cases stops.symm.trans receives
      · intro released posted draws
        have jproduct : (J.tankSet stopped.tank).product = product := congrArg TankSettings.product jset
        have tunit : t.inlet i = J.settlingInlet i stopped := by
          rw [State.inlet, xinlets, settles.rest]
          exact look_put_self ..
        have jclock : J.clock = now.clock := by rw [window]
        have jtank (j : TankId) : J.tank j = c.tank j := by rw [State.tank, cstock]; rfl
        have ttank (j : TankId) : t.tank j = x.tank j := by rw [State.tank, xstock]; rfl
        have tdraw (j : ProductId) : t.draw j = x.draw j := by rw [State.draw, xstock]; rfl
        have receiving : t.receiving = (J.letGo i stopped).receiving := by
          funext a
          simp only [receiving_eq, State.inlet, xinlets]
          rw [settles.rest]
          rfl
        have lets : J.FlagLetGo i stopped ↔ released := by
          simp only [State.FlagLetGo, ← receiving]
          exact Iff.rfl
        have jposted : J.tank d.tank = posted := by
          rw [jtank, credited.tank, tank]
          rfl
        rw [tunit]
        refine ⟨rfl, rfl, rfl, rfl, ?_, rfl, fun j ne => ?_, ?_, fun j => ?_, fun still held => ?_⟩
        · have jset : J.inletSet i = set := by rw [window]; exact sets
          simp only [State.settlingInlet, InletUnit.settling, jclock, jset]
        · rw [ttank, (settles.tanks j).2 fun h => ne h.2, jtank, credited.tank_ne ne, State.tank, stock]
          rfl
        · rw [ttank]
          by_cases lets' : released
          · rw [(settles.tanks d.tank).1 ⟨lets.2 lets', rfl⟩, if_pos lets', jposted, State.seconds, jclock]
            rfl
          · rw [(settles.tanks d.tank).2 fun h => lets' (lets.1 h.1), if_neg lets', jposted]
        · rw [tdraw]
          by_cases own : released ∧ j = product
          · obtain ⟨lets', rfl⟩ := own
            set T : State := { t with stock := { t.stock with draws := Vector.ofFn draws } } with hT
            have Tdraw : T.draw product = J.draw product := by
              rw [jdraw, State.draw, hT]
              simp [look, draws]
            have eligible : (restartQuiet d.tank (J.letGo i stopped)).eligible = T.eligible := by
              refine eligible_congr ?_ ?_ ?_ ?_
              · rw [show T.store = x.store from moves.store, settles.rest]
                rfl
              · rw [show T.stock.tanks = x.stock.tanks by rw [hT, xstock]]
                exact (settles.quiet (lets.2 lets')).symm
              · rw [show T.shutdown = x.shutdown from moves.shutdown, settles.rest]
                rfl
              · exact receiving.symm
            have chain : (restartQuiet d.tank (J.letGo i stopped)).productSet product = T.productSet product := by
              rw [State.productSet, State.productSet, show T.store = x.store from moves.store, settles.rest]
              rfl
            rw [(settles.draws product).1 ⟨lets.2 lets', jproduct.symm⟩, if_pos ⟨lets', rfl⟩, chainCheck_draw, if_pos rfl, Tdraw]
            exact congrArg _ (drawAfter_of_eligible eligible Tdraw.symm chain false)
          · rw [(settles.draws j).2 fun h => own ⟨lets.1 h.1, h.2.trans jproduct⟩, if_neg own, jdraw]
        · have none : x.stock.reports = [] := by
            rw [settles.kept, noReports still]
            rw [jproduct, jdraw, ← tdraw]
            exact held
          rw [ht, handReports_none none, settles.rest, window]
          exact ⟨State.reach_points .., State.reach_pumps .., State.reach_accounts .., State.reach_journal ..⟩
    · have ends : inletWindowEvent i reading s = handReports J := by
        rw [inletWindowEvent_metering working, ended, judgeInletQuiet_waits (judgesQuiet.not.2 stills)]
      have run : exec (.windowEnd (.inlet i) reading) s = .next (handReports J) :=
        congrArg Host.Outcome.next ((takeEvent_eq ready.1 (by
          rw [show windowEndEvent (.inlet i) reading s = handReports J from ends]
          exact handReports_reports J)).trans ends)
      obtain ⟨jstock, jinlets⟩ := handReportsAt_few few spent
      have moves := handReports_moves J
      set t := handReports J with ht
      change t.stock = _ at jstock
      change t.inlets = _ at jinlets
      have tunit : t.inlet i = k := by rw [← kunit, State.inlet, State.inlet, jinlets]
      have cstock : J.stock = c.stock := by rw [window]
      have tank (j : TankId) : t.tank j = c.tank j := by rw [State.tank, jstock, cstock]; rfl
      refine ⟨t, run, ?_, ?_, ?_, ?_, fun j ne => ?_, fun _ => ⟨fun nothing => ?_, fun some => ⟨?_, fun j ne => ?_, fun j => ?_, ?_⟩,
        fun still => ?_, fun q => ?_, ?_, ?_, ?_, ?_⟩, fun awaits => ?_, fun receives none => ?_, fun receives cause rest causes => ?_,
        fun stops _ => ?_, fun h => absurd h stills⟩
      · rw [show t.clock = _ from moves.same .clock, window]
      · rw [moves.store, window]
        exact store
      · rw [moves.shutdown, window]
        exact State.reach_shutdown ..
      · rw [moves.bay, window]
        exact State.reach_bay ..
      · rw [← others j ne, State.inlet, State.inlet, jinlets]
      · rw [jstock, cstock, (credited.none nothing).1, stock]
        exact (StockUnit.mk.injEq ..).mpr ⟨rfl, rfl, rfl, ready.2.symm, rfl⟩
      · rw [tank, credited.tank, if_neg (show ¬last.net = 0 from some)]
        rfl
      · rw [tank, credited.tank_ne ne]
      · rw [State.draw, jstock, cstock]
        exact credited.draws some j
      · rw [jstock]
      · rw [ht, handReports_none (noReports still), window]
        exact ⟨State.reach_points .., State.reach_pumps .., State.reach_accounts .., State.reach_journal ..⟩
      · by_cases empties : exhausted
        · rw [if_pos empties] at reports
          obtain ⟨-, -, taken⟩ := handReportsAt_one reports spent
          have each := taken t (.refl _) (moves.same .clock) q rfl
          unfold State.ReportTaken at each ⊢
          rw [point_of_points points] at each
          simpa only [empties, true_and] using each
        · rw [if_neg fun h => empties h.1, ht, handReports_none (noReports empties), point_of_points points]
      · rw [tunit, krest, vrest]
      · rw [tunit, krest, vrest]
      · rw [tunit, krest, flowBegun]
      · rw [tunit, krest, lowFlow]
      · have unjudged : ¬judged := by
          rintro (receives | ⟨stops, -⟩)
          · cases awaits.symm.trans receives
          · cases awaits.symm.trans stops
        have none : met = [] := by simp only [met, unjudged, false_and, if_false, List.append_nil]
        rw [tunit, hk, none, InletUnit.meets_nothing, vrest, flowBegun, lowFlow, if_neg unjudged, if_neg unjudged]
      · rcases kreceives receives with ⟨-, eq⟩ | ⟨c, rest, causes, -⟩
        · rw [tunit, eq, vrest]
          exact ⟨receives, rfl, rfl⟩
        · cases none.symm.trans causes
      · rcases kreceives receives with ⟨none, -⟩ | ⟨c, rest', causes', eq⟩
        · cases none.symm.trans causes
        · cases causes.symm.trans causes'
          rw [tunit, eq]
          exact ⟨rfl, rfl, rfl, rfl, rfl⟩
      · rw [tunit, kstops stops, vrest]
        exact ⟨stops, rfl, rfl, rfl⟩

end Sys2Proof.Machine

/-! # The window end of a point: what stops it (R24, R33 to R40) -/

namespace Sys2Proof.Machine

open Sys2Proof

/-! ## Several causes at a point (R40, R42) -/

/-- R33, R39, R40: a point whose window is judged, after one cause. -/
def PointUnit.meets (now : Nat) (u : PointUnit) (c : Cause) : PointUnit :=
  match u.state with
  | .priming | .flowing => u.stopped now c
  | .stopping => u.takesSecondary c
  | .disabled | .idle | .identifying | .awaitPump => u

section
variable {u : PointUnit} {now : Nat} {o : Order}

theorem meets_flows (flows : u.state = .priming ∨ u.state = .flowing) (c : Cause) : u.meets now c = u.stopped now c := by
  rcases flows with h | h <;> simp only [PointUnit.meets, h]

theorem meets_stops (stops : u.state = .stopping) (c : Cause) : u.meets now c = u.takesSecondary c := by
  simp only [PointUnit.meets, stops]

theorem meets_stopping (judged : u.state.judged = true) (c : Cause) : (u.meets now c).state = .stopping := by
  unfold PointUnit.meets
  cases state : u.state with
  | priming | flowing => rfl
  | stopping => exact state
  | disabled | idle | identifying | awaitPump => rw [state] at judged; cases judged

theorem judged_of_stopping (stops : u.state = .stopping) : u.state.judged = true := by rw [stops]; rfl

theorem foldl_meets_judged (judged : u.state.judged = true) (cs : List Cause) :
    (cs.foldl (PointUnit.meets now) u).state.judged = true := by
  induction cs generalizing u with
  | nil => exact judged
  | cons c cs ih => exact ih (judged_of_stopping (meets_stopping judged c))

/-- R42: the secondaries of an order that is STOPPING. -/
theorem foldl_meets_stops (stops : u.state = .stopping) (order : u.order = some o) (cs : List Cause) :
    cs.foldl (PointUnit.meets now) u =
      { u with order := some { o with secondaries := cs.foldl (addCause o.termination) o.secondaries } } := by
  induction cs generalizing u o with
  | nil =>
    change u = { u with order := some o }
    rw [← order]
  | cons c cs ih =>
    have first : u.meets now c = { u with order := some { o with secondaries := addCause o.termination o.secondaries c } } := by
      rw [meets_stops stops, PointUnit.takesSecondary, order]
      rfl
    rw [List.foldl_cons, first]
    exact ih (u := { u with order := some { o with secondaries := addCause o.termination o.secondaries c } }) stops rfl

/-- R40, R42: the first cause of an order that flows is its termination cause, and the others join its secondaries. -/
theorem foldl_meets_flows (flows : u.state = .priming ∨ u.state = .flowing) (order : u.order = some o) (c : Cause) (cs : List Cause) :
    (c :: cs).foldl (PointUnit.meets now) u =
      { u with
        state := .stopping, valve := false, primeDue := none, attendDue := none
        stopDue := some (now + 5000), stoppingAt := now, lowFlow := 0
        order := some { o with termination := some c, secondaries := cs.foldl (addCause (some c)) o.secondaries } } := by
  have first : u.meets now c = { u with
      state := .stopping, valve := false, primeDue := none, attendDue := none
      stopDue := some (now + 5000), stoppingAt := now, lowFlow := 0, order := some { o with termination := some c } } := by
    rw [meets_flows flows, PointUnit.stopped, order]
    rfl
  rw [List.foldl_cons, first]
  exact foldl_meets_stops (u := { u with
      state := .stopping, valve := false, primeDue := none, attendDue := none
      stopDue := some (now + 5000), stoppingAt := now, lowFlow := 0, order := some { o with termination := some c } }) rfl rfl cs

/-- R42: a cause that an order has met is its termination cause, stands among its secondaries, or finds them full. -/
theorem mem_foldl_addCause {termination : Option Cause} {c : Cause} {cs : List Cause} (mem : c ∈ cs) (xs : List Cause) :
    termination = some c ∨ c ∈ cs.foldl (addCause termination) xs ∨ 3 ≤ (cs.foldl (addCause termination) xs).length := by
  have keeps (cs : List Cause) (xs : List Cause) (h : termination = some c ∨ c ∈ xs ∨ 3 ≤ xs.length) :
      termination = some c ∨ c ∈ cs.foldl (addCause termination) xs ∨ 3 ≤ (cs.foldl (addCause termination) xs).length := by
    induction cs generalizing xs with
    | nil => exact h
    | cons d cs ih =>
      obtain ⟨more, added⟩ := addCause_append termination xs d
      refine ih _ (h.imp_right (Or.imp (fun mem => ?_) fun full => ?_))
      · rw [added]
        exact List.mem_append_left _ mem
      · rw [added, List.length_append]
        omega
  induction cs generalizing xs with
  | nil => cases mem
  | cons d cs ih =>
    rcases List.mem_cons.1 mem with rfl | mem
    · refine keeps cs _ ?_
      rw [addCause_eq]
      split
      · next h => exact h.elim (Or.imp_right .inl) (fun full => .inr (.inr full))
      · exact .inr (.inl (List.mem_append_right _ (List.mem_singleton_self _)))
    · exact ih mem _

end

section
variable {p : PointId} {s : State} {o : Order}

theorem stopPoint_meets (judged : (s.point p).state.judged = true) (ended : Option PointId) (c : Cause) :
    stopPoint ended c p s = { s with points := put s.points p ((s.point p).meets s.clock c) } := by
  cases state : (s.point p).state with
  | priming | flowing => rw [stopPoint_flows (by simp [state]), meets_flows (by simp [state])]
  | stopping => rw [stopPoint_stopping state, meets_stops state]
  | disabled | idle | identifying | awaitPump => rw [state] at judged; cases judged

theorem stopPoints_meet (judged : (s.point p).state.judged = true) (cs : List Cause) :
    forEach cs (fun c => stopPoint none c p) s = { s with points := put s.points p (cs.foldl (PointUnit.meets s.clock) (s.point p)) } := by
  induction cs generalizing s with
  | nil =>
    change s = { s with points := put s.points p (s.point p) }
    rw [show put s.points p (s.point p) = s.points from put_look ..]
  | cons c cs ih =>
    have first := stopPoint_meets judged none c
    have unit : (stopPoint none c p s).point p = (s.point p).meets s.clock c := by
      rw [first]
      exact look_put_self ..
    refine (ih (s := stopPoint none c p s) (by rw [unit]; exact judged_of_stopping (meets_stopping judged c))).trans ?_
    rw [unit, first]
    simp only [put_put, List.foldl_cons]

/-- R39, R70: a report at a point whose window is judged. -/
theorem takeReport_meets (judged : (s.point p).state.judged = true) (ended : Option PointId) (r : Exhaustion) :
    (takeReport ended r s).point p =
      if (s.point p).order.any (fun o => o.product = r.product) then (s.point p).meets s.clock r.reason else s.point p := by
  obtain ⟨as, bs, before, after, round⟩ := forEach_round (show allPoints.Nodup by decide) (mem_allPoints p) (reportAt ended r)
  have others {ps : List PointId} (out : p ∉ ps) (u : State) : (forEach ps (reportAt ended r) u).point p = u.point p :=
    forEach_induction (P := fun v => v.point p = u.point p)
      (fun q mem v hv => (reportAt_point_ne v (ne_of_mem_of_not_mem mem out)).trans hv) rfl
  have unit := others before s
  have time : (forEach as (reportAt ended r) s).clock = s.clock :=
    (Moves.forEach (K := orderParts) (H := ∅) as _ (fun p _ u => reportAt_moves p u) s).same .clock
  rw [takeReport_eq, round, others after, reportAt, unit]
  split
  · rw [stopPoint_meets (by rw [unit]; exact judged), unit, time]
    exact look_put_self ..
  · exact unit

/-- R39, R70: the reports of an event at a point whose window is judged, as the causes that it takes. -/
theorem handReportsUpTo_meets (judged : (s.point p).state.judged = true) (ended : Option PointId) (n : Nat) :
    ∃ cs : List Cause, (handReportsUpTo ended n s).point p = cs.foldl (PointUnit.meets s.clock) (s.point p) := by
  induction n generalizing s with
  | zero => exact ⟨[], rfl⟩
  | succ n ih =>
    unfold handReportsUpTo
    split
    · exact ⟨[], rfl⟩
    · next r rest _ =>
      set x : State := { s with stock := { s.stock with reports := rest } } with hx
      have taken := takeReport_meets (s := x) (p := p) judged ended r
      have clock : (takeReport ended r x).clock = s.clock :=
        (Moves.forEach (K := orderParts) (H := ∅) allPoints _ (fun p _ u => reportAt_moves (ended := ended) (r := r) p u) x).same .clock
      obtain ⟨one, met⟩ : ∃ one : List Cause, (takeReport ended r x).point p = one.foldl (PointUnit.meets s.clock) (s.point p) := by
        rw [taken]
        split
        · exact ⟨[r.reason], rfl⟩
        · exact ⟨[], rfl⟩
      obtain ⟨cs, more⟩ := ih (s := takeReport ended r x) (by rw [met]; exact foldl_meets_judged judged one)
      exact ⟨one ++ cs, by rw [more, met, clock, List.foldl_append]⟩

end

end Sys2Proof.Machine

/-! # The window end of a point: its posting and its steps (R13, R14, R71 to R73) -/

namespace Sys2Proof.Machine

open Sys2Proof

/-! ## A window of an order posted -/

/-- R73: an inlet whose delivery enters a dispense posting to its tank in its debit tally. -/
def InletUnit.debitedBy (u : InletUnit) (k : TankId) (amount : Int) : InletUnit :=
  { u with delivery := u.delivery.map fun d => if d.tank = k then { d with tally := d.tally - amount } else d }

theorem addTallies_inlet (k : TankId) (amount : Int) (s : State) (i : InletId) :
    (addTallies k amount s).inlet i = (s.inlet i).debitedBy k amount := by
  have one (j : InletId) (u : State) := inlet_updDelivery (s := u) (i := j) (j := i)
    (f := fun d => if d.tank = k then { d with tally := d.tally - amount } else d)
  have others {is : List InletId} (out : i ∉ is) (u : State) : (forEach is (fun j => State.updDelivery j fun d =>
      if d.tank = k then { d with tally := d.tally - amount } else d) u).inlet i = u.inlet i :=
    forEach_induction (P := fun v => v.inlet i = u.inlet i)
      (fun j mem v hv => by rw [one, if_neg (ne_of_mem_of_not_mem mem out), hv]) rfl
  obtain ⟨as, bs, before, after, round⟩ := forEach_round (show allInlets.Nodup by decide) (mem_allInlets i)
    fun j => State.updDelivery j fun d => if d.tank = k then { d with tally := d.tally - amount } else d
  rw [addTallies, round, others after, one, if_pos rfl, others before]
  rfl

theorem debitedBy_zero (u : InletUnit) (k : TankId) : u.debitedBy k 0 = u := by
  have same : (fun d : Delivery => if d.tank = k then { d with tally := d.tally - 0 } else d) = id := by
    funext d
    split
    · simp
    · rfl
  rw [InletUnit.debitedBy, same, Option.map_id]
  rfl

theorem addTallies_rest (k : TankId) (amount : Int) (s : State) :
    addTallies k amount s = { s with inlets := (addTallies k amount s).inlets } :=
  forEach_induction (P := fun u => u = { s with inlets := u.inlets }) (fun _ _ u hu => by rw [hu]; rfl) rfl

theorem addTallies_receiving (k : TankId) (amount : Int) (s : State) : (addTallies k amount s).receiving = s.receiving := by
  refine receiving_of_flags fun i => ?_
  rw [addTallies_inlet]
  simp only [InletUnit.debitedBy, Option.map_map, Function.comp_def]
  refine congrArg (Option.map · _) (funext fun d => ?_)
  split <;> rfl

section
variable {p : PointId} {s : State} {o : Order} {k : TankId}

/-- R13, R72: an order with a window that goes to a tank. -/
def Order.windowed (o : Order) (r : WindowResult) (k : TankId) : Order :=
  { addResult r o with entries := if r.net = 0 then o.entries else addEntry k (signedNet o.kind r.net) o.entries }

/-- R13, R71 to R73: a window result of an order, added to its record and posted. -/
theorem takeResult_posts (order : (s.point p).order = some o) (posting : s.postingTank o.product = some k) (m : Meter) (r : WindowResult) :
    let t := takeResult p r (s.updPoint p fun u => { u with meter := m })
    t = { s with
      points := put s.points p { s.point p with meter := m, order := some (o.windowed r k) }
      inlets := t.inlets, stock := t.stock, links := t.links } ∧
    (∀ i, t.inlet i = (s.inlet i).debitedBy k (signedNet o.kind r.net)) ∧ s.Credited k r.net (signedNet o.kind r.net) t := by
  intro t
  set x := (s.updPoint p fun u => { u with meter := m }).updOrder p (addResult r) with hx
  have held : (x.point p).order = some (addResult r o) := by
    rw [hx, point_updOrder_self, point_updPoint_self, order]
    rfl
  have takes : t = postOrderWindow p r.net x := rfl
  by_cases nothing : r.net = 0
  · have same : t = x := by rw [takes, postOrderWindow, if_pos nothing]
    have points : x.points = put s.points p { s.point p with meter := m, order := some (o.windowed r k) } := by
      simp only [hx, State.updOrder, State.updPoint, adjust_adjust]
      simp only [adjust, show (look s.points p).order = some o from order, Option.map_some, Order.windowed, nothing, if_true]
      rfl
    have zero : signedNet o.kind r.net = 0 := by
      rw [nothing]
      unfold signedNet
      split <;> rfl
    refine ⟨?_, fun i => ?_, fun _ => ?_, fun h => absurd nothing h, fun h => absurd nothing h, ?_, .of_links ?_⟩
    · rw [same, ← points]
      rfl
    · rw [same, zero, debitedBy_zero]
      rfl
    · rw [same]
      exact ⟨rfl, rfl⟩
    · rw [if_neg fun h => h.1 nothing, List.append_nil, same]
      rfl
    · rw [same]
      rfl
  · set y := x.updOrder p fun o' => { o' with entries := addEntry k (signedNet o.kind r.net) o'.entries } with hy
    have posts : t = postToTank k (signedNet o.kind r.net) (addTallies k (signedNet o.kind r.net) y) := by
      have tank : x.postingTank o.product = some k := posting
      rw [takes, postOrderWindow, if_neg nothing, held]
      dsimp only
      rw [show x.postingTank (addResult r o).product = some k from tank]
      rfl
    have points : y.points = put s.points p { s.point p with meter := m, order := some (o.windowed r k) } := by
      simp only [hy, hx, State.updOrder, State.updPoint, adjust_adjust]
      simp only [adjust, show (look s.points p).order = some o from order, Option.map_some, Order.windowed, nothing, if_false]
      rfl
    set z := addTallies k (signedNet o.kind r.net) y with hz
    have tallied : z = { y with inlets := z.inlets } := addTallies_rest ..
    have receiving : z.receiving = s.receiving := addTallies_receiving k _ y
    obtain ⟨rest, draws, reports, noticed⟩ := (postToTank_posted k (signedNet o.kind r.net) z).of_sameStock (s := s)
      ⟨by rw [tallied]; rfl, by rw [tallied]; rfl, receiving, by rw [tallied]; rfl, by rw [tallied]; rfl⟩
    rw [← posts] at rest draws reports noticed
    refine ⟨?_, fun i => ?_, fun h => absurd h nothing, fun _ => ?_, fun _ => draws, ?_, ?_⟩
    · rw [← points]
      generalize t = t' at rest
      rw [rest, tallied]
      rfl
    · have inlets : t.inlets = z.inlets := by
        generalize t = t' at rest
        rw [rest]
      rw [State.inlet, inlets]
      exact addTallies_inlet k _ y i
    · generalize t = t' at rest
      rw [rest]
    · rw [reports]
      simp only [ne_eq, nothing, not_false_eq_true, true_and]
    · exact .trans (.of_links rfl) (takeResult_noticed p r (s.updPoint p fun u => { u with meter := m }))

end

/-! ## The steps of a window end -/

/-- R4, R13, R35, R36: a point whose window has been handed and posted, and counted. -/
def State.windowCounted (s : State) (p : PointId) (w : Working) (reading : Option Int) : State :=
  let u := s.point p
  let now := s.reach (u.meter.windowStart + Config.windowMs)
  let r := windowResult u.meter w reading (now.lastAtPoint p (windowResult u.meter w reading false).net)
  let t := takeResult p r (now.updPoint p fun x => { x with meter := nextWindow (now.point p).meter w reading })
  t.updPoint p (countWindow u.state (t.pointSet p) r.flow)

/-- R34: a point that flows on after a window at or above the no-flow threshold. -/
def PointUnit.flowsOn (was : PointState) (threshold flow : Nat) (u : PointUnit) : PointUnit :=
  if was = .priming ∧ u.state = .priming ∧ threshold ≤ flow then { u with state := .flowing, primeDue := none, lowFlow := 0 } else u

/-- R24, R34 to R36: a window end of a point up to its quiet: what it has met after the reports of its posting. -/
def State.windowJudged (s : State) (p : PointId) (w : Working) (reading : Option Int) : State :=
  let u := s.point p
  judgeFlowing u.state p (windowResult u.meter w reading false).flow
    (forEach ((s.windowCounted p w reading).causesAtWindow u.state p) (fun c => stopPoint none c p)
      (handReportsAt (some p) (s.windowCounted p w reading)))

section
variable {p : PointId} {w : Working} {s : State}

theorem pointWindowEnd_eq (reading : Option Int) :
    pointWindowEnd p w reading s = judgeQuiet (s.point p).state p (s.windowJudged p w reading) := rfl

theorem judgeFlowing_eq (was : PointState) (flow : Nat) : judgeFlowing was p flow s =
    { s with points := put s.points p ((s.point p).flowsOn was (s.pointSet p).noFlowThreshold flow) } := by
  unfold judgeFlowing PointUnit.flowsOn
  split
  · rfl
  · rw [show put s.points p (s.point p) = s.points from put_look ..]

/-- R24, R34 to R36: the causes of a judged window at its point. -/
theorem judgeFlowing_meets (judged : (s.point p).state.judged = true) (was : PointState) (flow : Nat) (met : List Cause) :
    judgeFlowing was p flow (forEach met (fun c => stopPoint none c p) s) =
      { s with
        points := put s.points p
          ((met.foldl (PointUnit.meets s.clock) (s.point p)).flowsOn was (s.pointSet p).noFlowThreshold flow) } := by
  have unit (u : PointUnit) : ({ s with points := put s.points p u } : State).point p = u := look_put_self ..
  rw [stopPoints_meet judged, judgeFlowing_eq, unit]
  simp only [put_put]
  rfl

theorem flowsOn_stopping {u : PointUnit} (stops : u.state = .stopping) (was : PointState) (threshold flow : Nat) :
    u.flowsOn was threshold flow = u :=
  if_neg fun h => by
    rw [stops] at h
    cases h.2.1

theorem windowCounted_point (reading : Option Int) : ∃ f : Order → Order,
    (∀ o, (f o).number = o.number ∧ (f o).termination = o.termination ∧ (f o).secondaries = o.secondaries) ∧
    (s.windowCounted p w reading).point p = countWindow (s.point p).state (s.pointSet p)
      (windowResult (s.point p).meter w reading false).flow
      { s.point p with meter := nextWindow (s.point p).meter w reading, order := (s.point p).order.map f } := by
  unfold State.windowCounted
  extract_lets u now r t
  have unit : now.point p = u := congrFun (point_of_points (State.reach_points ..)) p
  set x := now.updPoint p fun x => { x with meter := nextWindow (now.point p).meter w reading } with hx
  have sets : t.pointSet p = s.pointSet p := by
    have moved : Moves ([.clock] ++ ([.points] ++ postingParts)) ∅ s t :=
      (reach_moves ..).andThen ((nextWindow_moves ..).andThen (takeResult_moves ..))
    rw [State.pointSet, moved.store]
    rfl
  have taken : t.point p = { u with meter := nextWindow u.meter w reading, order := u.order.map (x.orderAfter r) } := by
    change (takeResult p r x).point p = _
    rw [takeResult_point, if_pos rfl, hx, point_updPoint_self, unit]
  refine ⟨x.orderAfter r, fun o => ⟨rfl, rfl, rfl⟩, ?_⟩
  rw [point_updPoint_self, taken, sets]
  rfl

end

end Sys2Proof.Machine

/-! # The window end of a point: its record, its causes and its reports (R24, R35, R36, R39, R70) -/

namespace Sys2Proof.Machine

open Sys2Proof

section
variable {p : PointId} {s : State} {o : Order}

theorem finishClose_journaled (order : (s.point p).order = some o) : s.Journaled (finishClose p s) :=
  journalWrite_journaled (finishClose_journal order)
    (openOperations_of_closed ((finishClose_moves p s).same .inlets) (by simp [order]) (finishClose_order p s)
      fun q other => by rw [finishClose_point_ne s (Ne.symm other)])

/-! ## The window counted -/

/-- R35, R36: a point with a window of its order counted and posted to a tank. -/
def PointUnit.windowed (u : PointUnit) (set : PointSettings) (w : Working) (reading : Option Int) (o : Order) (k : TankId) : PointUnit :=
  let r := windowResult u.meter w reading false
  countWindow u.state set r.flow { u with meter := nextWindow u.meter w reading, order := some (o.windowed r k) }

/-- R13, R35, R36, R71 to R73: the window of an order counted and posted. -/
theorem windowCounted_posts {w : Working} {reading : Option Int} {k : TankId} {now : State} {r : WindowResult}
    (instant : now = s.reach ((s.point p).meter.windowStart + Config.windowMs))
    (result : r = windowResult (s.point p).meter w reading false)
    (order : (s.point p).order = some o) (posting : s.postingTank o.product = some k) :
    s.windowCounted p w reading = { now with
      points := put now.points p ((s.point p).windowed (s.pointSet p) w reading o k)
      inlets := (s.windowCounted p w reading).inlets
      stock := (s.windowCounted p w reading).stock, links := (s.windowCounted p w reading).links } ∧
    (∀ i, (s.windowCounted p w reading).inlet i = (s.inlet i).debitedBy k (signedNet o.kind r.net)) ∧
    now.Credited k r.net (signedNet o.kind r.net) (s.windowCounted p w reading) := by
  subst instant result
  set now := s.reach ((s.point p).meter.windowStart + Config.windowMs) with hnow
  have unit : now.point p = s.point p := congrFun (point_of_points (State.reach_points ..)) p
  have draw : now.postingTank o.product = some k := by
    rw [← posting, State.postingTank, State.draw, show now.stock = s.stock from State.reach_stock ..]
    rfl
  set last := windowResult (s.point p).meter w reading (now.lastAtPoint p (windowResult (s.point p).meter w reading false).net) with hlast
  obtain ⟨rest, inlets, credited⟩ := takeResult_posts (by rw [unit]; exact order) draw (nextWindow (now.point p).meter w reading) last
  set t := takeResult p last (now.updPoint p fun x => { x with meter := nextWindow (now.point p).meter w reading }) with ht
  have counted : s.windowCounted p w reading = t.updPoint p (countWindow (s.point p).state (t.pointSet p) last.flow) := rfl
  have store : t.store = s.store := by
    rw [rest]
    exact State.reach_store ..
  have sets : t.pointSet p = s.pointSet p := by rw [State.pointSet, store]; rfl
  have taken : t.point p = { s.point p with meter := nextWindow (s.point p).meter w reading, order := some (o.windowed last k) } := by
    rw [State.point, rest, look_put_self, unit]
  refine ⟨?_, fun i => ?_, ?_⟩
  · rw [counted, sets, State.updPoint, adjust, show look t.points p = t.point p from rfl, taken]
    generalize t = t' at rest
    rw [rest]
    simp only [put_put]
    rfl
  · rw [counted]
    refine (inlets i).trans ?_
    rw [show now.inlet i = s.inlet i from congrFun (inlet_of_inlets (State.reach_inlets ..)) i]
    rfl
  · rw [counted]
    exact ⟨credited.none, credited.some, credited.draws, credited.reports, credited.noticed⟩

theorem windowed_judged {u : PointUnit} (judged : u.state.judged = true) (set : PointSettings) (w : Working) (reading : Option Int) (k : TankId) :
    u.windowed set w reading o k = { u with
      meter := nextWindow u.meter w reading, order := some (o.windowed (windowResult u.meter w reading false) k)
      hoseBreak := if set.maxFlow * 5 < (windowResult u.meter w reading false).flow * 4 then u.hoseBreak + 1 else 0
      lowFlow :=
        if u.state = .flowing then
          if (windowResult u.meter w reading false).flow < set.noFlowThreshold then u.lowFlow + 1 else 0
        else 0 } := if_pos judged

theorem windowed_unjudged {u : PointUnit} (waits : u.state.judged = false) (set : PointSettings) (w : Working) (reading : Option Int) (k : TankId) :
    u.windowed set w reading o k = { u with
      meter := nextWindow u.meter w reading, order := some (o.windowed (windowResult u.meter w reading false) k) } :=
  if_neg (by rw [waits]; decide)

/-! ## The causes met -/

theorem causesAtWindow_judged {was : PointState} (judged : was.judged = true) (order : (s.point p).order = some o) :
    s.causesAtWindow was p = windowCauses was p o s := by
  simp only [State.causesAtWindow, judged, order]

theorem causesAtWindow_unjudged {was : PointState} (waits : was.judged = false) : s.causesAtWindow was p = [] := by
  simp only [State.causesAtWindow, waits]

theorem atThreshold_iff : s.atThreshold p o = true ↔
    ∃ limit, o.limit = some limit ∧ max 1 (limit - (s.pointSet p).stopAllowance) * 100000 ≤ o.net := by
  unfold State.atThreshold
  cases o.limit with
  | none => exact ⟨nofun, fun ⟨_, limit, _⟩ => nomatch limit⟩
  | some limit => exact ⟨fun h => ⟨limit, rfl, of_decide_eq_true h⟩, fun ⟨_, same, h⟩ => by cases same; exact decide_eq_true h⟩

/-- R24, R35, R36: the causes of a window that an order has taken. -/
theorem windowCauses_windowed {u : PointUnit} {set : PointSettings} {w : Working} {reading : Option Int} {k : TankId} {r : WindowResult}
    (result : r = windowResult u.meter w reading false) (judged : u.state.judged = true)
    (unit : s.point p = u.windowed set w reading o k) (sets : s.pointSet p = set) (cause : o.limit.isSome → o.limitCause.isSome) :
    windowCauses u.state p (o.windowed r k) s =
      (if (u.state = .priming ∨ u.state = .flowing) ∧
          ∃ limit, o.limit = some limit ∧ max 1 (limit - set.stopAllowance) * 100000 ≤ o.net + r.net then
        o.limitCause.toList else []) ++
      (if set.maxFlow * 5 < r.flow * 4 ∧ 1 ≤ u.hoseBreak then [.hoseBreak] else []) ++
      (if u.state = .flowing ∧
          set.noFlowTime * 5 ≤ (if u.state = .flowing ∧ r.flow < set.noFlowThreshold then u.lowFlow + 1 else 0) then
        [if set.nozzleFitted = true ∧ o.kind = .fuel ∧ u.receiver ≠ .uncoupled then .full else .idleStop]
      else []) := by
  rw [windowed_judged judged, ← result] at unit
  have limit : (o.windowed r k).limit = o.limit := rfl
  have limitCause : (o.windowed r k).limitCause = o.limitCause := rfl
  have kind : (o.windowed r k).kind = o.kind := rfl
  have net : (o.windowed r k).net = o.net + r.net := rfl
  simp only [windowCauses, State.noFlowCause, unit, sets, limit, limitCause, kind, net, Bool.and_eq_true, Bool.or_eq_true, decide_eq_true_eq, atThreshold_iff]
  refine congrArg₂ (· ++ ·) (congrArg₂ (· ++ ·) ?_ (if_congr ?_ rfl rfl)) ?_
  · split
    · next reached =>
      obtain ⟨-, limit, held, -⟩ := reached
      obtain ⟨c, named⟩ := Option.isSome_iff_exists.1 (cause (by rw [held]; rfl))
      rw [named]
      rfl
    · rfl
  · split <;> omega
  · refine if_congr (and_congr_right fun flows => ?_) (congrArg (fun c => [c]) (if_congr and_assoc rfl rfl)) rfl
    simp only [flows, if_true, true_and]

/-! ## The reports at the point -/

/-- R39, R70: the only report of a window end at its point, in a state whose windows are judged. -/
theorem handReportsAt_meets {r : Exhaustion} (judged : (s.point p).state.judged = true) (order : (s.point p).order = some o)
    (product : o.product = r.product) (one : s.stock.reports = [r]) (spent : ∀ q, s.Spent (some p) q) :
    (handReportsAt (some p) s).point p = (s.point p).meets s.clock r.reason := by
  have dropped : ∀ q, (dropReports s).Spent (some p) q := spent
  obtain ⟨stock, -, -⟩ := takeReport_taken (r := r) dropped
  rw [handReportsAt_single one (by rw [stock]; rfl), takeReport_meets (s := dropReports s) judged, if_pos]
  · rfl
  · exact (Option.any_eq_true ..).2 ⟨o, order, by simpa using product⟩

theorem handReportsAt_none {ended : Option PointId} (none : s.stock.reports = []) : handReportsAt ended s = s :=
  handReportsUpTo_none none ..

/-! ## The window judged -/

theorem windowJudged_unjudged {w : Working} (waits : (s.point p).state.judged = false) (reading : Option Int) :
    s.windowJudged p w reading = handReportsAt (some p) (s.windowCounted p w reading) := by
  rw [State.windowJudged, causesAtWindow_unjudged waits]
  refine if_neg fun h => ?_
  rw [h.1] at waits
  cases waits

/-- R24, R34 to R36, R39, R70: a window judged at its point, after the reports of its posting. -/
theorem windowJudged_meets {w : Working} {reading : Option Int} {u : PointUnit} {told met : List Cause} {c : State}
    (counted : s.windowCounted p w reading = c) (judged : u.state.judged = true)
    (told' : (handReportsAt (some p) c).point p = told.foldl (PointUnit.meets c.clock) u)
    (reports : (handReportsAt (some p) c).clock = c.clock) (sets : (handReportsAt (some p) c).pointSet p = s.pointSet p)
    (causes : c.causesAtWindow (s.point p).state p = met) :
    s.windowJudged p w reading = { handReportsAt (some p) c with
      points := put (handReportsAt (some p) c).points p
        (((told ++ met).foldl (PointUnit.meets c.clock) u).flowsOn (s.point p).state (s.pointSet p).noFlowThreshold
          (windowResult (s.point p).meter w reading false).flow) } := by
  have reached : ((handReportsAt (some p) c).point p).state.judged = true := by
    rw [told']
    exact foldl_meets_judged judged told
  unfold State.windowJudged
  dsimp only
  rw [counted, causes, judgeFlowing_meets reached, told', reports, sets, List.foldl_append]

/-! ## The records of a window end -/

theorem State.Journaled.of_orders {s t : State} (journal : t.journal = s.journal) (inlets : t.inlets = s.inlets)
    (orders : ∀ q, (t.point q).order.isSome = (s.point q).order.isSome) : s.Journaled t := by
  refine .of_same journal (Nat.le_of_eq ?_)
  rw [openOperations_length, openOperations_length]
  exact congrArg₂ (· + ·) (List.countP_congr fun q _ => by rw [orders q])
    (List.countP_congr fun i _ => by rw [State.inlet, inlets]; rfl)

theorem flowsOn_order (u : PointUnit) (was : PointState) (threshold flow : Nat) : (u.flowsOn was threshold flow).order = u.order := by
  unfold PointUnit.flowsOn
  split <;> rfl

theorem judgeFlowing_journaled (was : PointState) (p : PointId) (flow : Nat) (s : State) :
    s.Journaled (judgeFlowing was p flow s) := by
  rw [judgeFlowing_eq]
  refine .of_orders rfl rfl fun q => ?_
  by_cases own : q = p
  · rw [own, State.point, look_put_self, flowsOn_order]
  · rw [State.point, look_put_ne _ _ (Ne.symm own)]
    rfl

/-- R171: a window judged closes nothing but what its reports have closed. -/
theorem windowJudged_journaled (p : PointId) (w : Working) (reading : Option Int) (s : State) :
    (handReportsAt (some p) (s.windowCounted p w reading)).Journaled (s.windowJudged p w reading) :=
  (State.Winds.forEach (fun c u => stopPoint_winds none c p u)
    ((s.windowCounted p w reading).causesAtWindow (s.point p).state p) _).journal.trans (judgeFlowing_journaled ..)

end

end Sys2Proof.Machine

/-! # The window end of a point that hands HOSE_BREAK (R36, R156) -/

namespace Sys2Proof.Machine

open Sys2Proof

/-! ## The order that meets a cause (R40, R42) -/

/-- R40, R42: a point in STOPPING whose order `o` has met some causes: each is its termination cause or stands among its
secondaries, or they are full. -/
structure PointUnit.HasMet (u : PointUnit) (o : Order) (cs : List Cause) (v : PointUnit) (x : Order) : Prop where
  order : v.order = some x
  state : v.state = .stopping
  number : x.number = o.number
  hoseBreak : v.hoseBreak = u.hoseBreak
  valve : u.state ≠ .stopping → v.valve = false
  stopped : u.state = .stopping → x.termination = o.termination ∧ v.meter = u.meter ∧ v.stoppingAt = u.stoppingAt
  met : ∀ c ∈ cs, x.termination = some c ∨ c ∈ x.secondaries ∨ 3 ≤ x.secondaries.length

section
variable {u : PointUnit} {now : Nat} {o : Order} {p : PointId} {s : State}

theorem foldl_meets_hasMet (judged : u.state.judged = true) (order : u.order = some o) {c : Cause} {cs : List Cause} (mem : c ∈ cs) :
    ∃ x, u.HasMet o cs (cs.foldl (PointUnit.meets now) u) x := by
  obtain ⟨d, rest, rfl⟩ : ∃ d rest, cs = d :: rest := List.exists_cons_of_ne_nil (List.ne_nil_of_mem mem)
  cases state : u.state with
  | priming | flowing =>
    rw [foldl_meets_flows (by simp [state]) order]
    refine ⟨_, rfl, rfl, rfl, rfl, fun _ => rfl, fun stops => absurd (state.symm.trans stops) (by decide), fun c mem => ?_⟩
    rcases List.mem_cons.1 mem with rfl | mem
    · exact .inl rfl
    · exact mem_foldl_addCause mem _
  | stopping =>
    rw [foldl_meets_stops state order]
    exact ⟨_, rfl, state, rfl, rfl, fun h => absurd state h, fun _ => ⟨rfl, rfl, rfl⟩, fun c mem => mem_foldl_addCause mem _⟩
  | disabled | idle | identifying | awaitPump => rw [state] at judged; cases judged

/-! ## The hand-on of HOSE_BREAK (R156) -/

/-- R155, R156: the latch of a point hands a cause on to its point, but where its own cause has set it. -/
theorem handOn_ownPoint {h : Handing} (latch : h.latch = .point p) (leaves : Bool) (s : State) :
    handOn h leaves s = handReports (if h.exemptPoint = some p then s else stopPoint none .trip p s) := by
  have stock : handOnStock h leaves s = s := by
    have other : (h.latch = .bay) = False := by rw [latch]; exact eq_false nofun
    have none : s.productsOf (.point p) = [] := by simp [State.productsOf, State.tanksOf]
    simp only [handOnStock, other, decide_false, Bool.and_false, Bool.false_eq_true, if_false, checkProducts]
    rw [latch, none]
    rfl
  have inlets : s.inletsTripped h = [] := by
    simp only [State.inletsTripped, State.inletsOf, State.tanksOf, latch]
    simp
  rw [handOn_eq, stock, inlets, latch]
  by_cases own : h.exemptPoint = some p <;> simp [pointsOf, own, forEach]

theorem stopPoint_settled (settled : (s.point p).state = .stopping ∨ (s.point p).state = .idle) (c : Cause) :
    stopPoint none c p s = { s with points := put s.points p ((s.point p).meets s.clock c) } := by
  rcases settled with h | h
  · exact stopPoint_meets (judged_of_stopping h) none c
  · have same : (s.point p).meets s.clock c = s.point p := by simp only [PointUnit.meets, h]
    rw [stopPoint_free (.inl h), same]
    exact congrArg (fun points => { s with points := points }) (put_look s.points p).symm

/-- R39, R156: HOSE_BREAK handed to the latch of a point whose order is STOPPING or has been closed. -/
theorem handHoseBreak_point {n : Nat} (handed : s.stock.reports = []) (settled : (s.point p).state = .stopping ∨ (s.point p).state = .idle) :
    (handHoseBreak p n s).point p = (if s.isSet (.point p) then [Cause.trip] else []).foldl (PointUnit.meets s.clock) (s.point p) ∧
      (handHoseBreak p n s).journal = s.journal := by
  unfold handHoseBreak
  set h : Handing := { handing (.point p) .hoseBreak none with
    exemptPoint := if s.isSet (.point p) then none else some p, already := n } with hh
  obtain ⟨x, before, after⟩ := handCause_around h s
  have points : x.point p = s.point p := congrFun (point_of_points (before.same .points)) p
  have reports : x.stock.reports = [] := (before.same .reports).trans handed
  rw [handOn_ownPoint (p := p) rfl] at after
  rw [point_of_points (after.same .points), after.same .journal]
  have exempt : h.exemptPoint = some p ↔ ¬s.isSet (.point p) = true := by
    rw [hh]
    split <;> simp_all
  rw [← points] at settled
  by_cases set : s.isSet (.point p) = true
  · rw [if_neg fun e => exempt.1 e set, if_pos set, stopPoint_settled settled, points,
      handReports_none (s := { x with points := put x.points p ((s.point p).meets x.clock .trip) }) reports,
      show x.clock = s.clock from before.same .clock]
    exact ⟨look_put_self .., before.same .journal⟩
  · rw [if_pos (exempt.2 set), if_neg set, handReports_none reports]
    exact ⟨points, before.same .journal⟩

/-! ## The window judged -/

theorem windowCounted_moves (p : PointId) (w : Working) (reading : Option Int) (s : State) :
    Moves (([.points] ++ postingParts) ++ [.points]) ∅ (s.reach ((s.point p).meter.windowStart + Config.windowMs)) (s.windowCounted p w reading) := by
  unfold State.windowCounted
  extract_lets u now r t
  exact ((nextWindow_moves p w reading now).andThen (takeResult_moves p r _)).andThen (countWindow_moves ..)

/-- R36, R40: a window that meets the hose-break condition. -/
theorem windowJudged_hoseBreak {w : Working} {reading : Option Int} (judged : (s.point p).state.judged = true) (order : (s.point p).order = some o)
    (once : (s.point p).hoseBreak = 1)
    (gushes : (s.pointSet p).maxFlow * 5 < (windowResult (s.point p).meter w reading false).flow * 4) :
    ∃ (U : PointUnit) (x : Order) (cs : List Cause), (s.windowJudged p w reading).point p = cs.foldl (PointUnit.meets (s.windowJudged p w reading).clock) U ∧
      .hoseBreak ∈ cs ∧ U.state = (s.point p).state ∧ U.hoseBreak = 2 ∧ U.stoppingAt = (s.point p).stoppingAt ∧
      U.meter = nextWindow (s.point p).meter w reading ∧ U.order = some x ∧ x.number = o.number ∧ x.termination = o.termination ∧
      (s.windowJudged p w reading).clock = (s.reach ((s.point p).meter.windowStart + Config.windowMs)).clock ∧
      (s.windowJudged p w reading).stock.reports = [] := by
  obtain ⟨f, kept, unit⟩ := windowCounted_point (p := p) (w := w) (s := s) reading
  set c := s.windowCounted p w reading with hc
  set U := countWindow (s.point p).state (s.pointSet p) (windowResult (s.point p).meter w reading false).flow
    { s.point p with meter := nextWindow (s.point p).meter w reading, order := (s.point p).order.map f } with hU
  have counted : U.hoseBreak = hoseBreakAfter (s.point p).hoseBreak (windowResult (s.point p).meter w reading false).flow (s.pointSet p).maxFlow := by
    rw [hU, countWindow, if_pos judged]
  replace hU : U = { s.point p with
      meter := nextWindow (s.point p).meter w reading, order := (s.point p).order.map f, hoseBreak := U.hoseBreak, lowFlow := U.lowFlow } := by
    rw [hU, countWindow, if_pos judged]
  have twice : U.hoseBreak = 2 := by
    rw [counted]
    exact (if_pos gushes).trans (congrArg (· + 1) once)
  have judges : U.state.judged = true := by rw [hU]; exact judged
  obtain ⟨cs, told⟩ := handReportsUpTo_meets (by rw [unit]; exact judges) (some p) 16 (s := c)
  rw [unit] at told
  have rmoves := handReportsAt_moves (some p) c
  have cmoves := windowCounted_moves p w reading s
  have csets : c.pointSet p = s.pointSet p := by
    rw [State.pointSet, cmoves.store, State.reach_store]
    rfl
  have whole := windowJudged_meets (p := p) (s := s) (reading := reading) (w := w) hc.symm judges told (rmoves.same .clock)
    (by rw [State.pointSet, rmoves.store]; exact csets) rfl
  have held : U.order = some (f o) := by
    rw [hU, order]
    rfl
  have met : .hoseBreak ∈ cs ++ c.causesAtWindow (s.point p).state p := by
    rw [causesAtWindow_judged judged (by rw [unit]; exact held)]
    refine List.mem_append_right _ (List.mem_append_left _ (List.mem_append_right _ ?_))
    rw [unit, if_pos (Nat.le_of_eq twice.symm)]
    exact List.mem_singleton_self _
  have clock : (s.windowJudged p w reading).clock = c.clock := by
    rw [whole]
    exact rmoves.same .clock
  obtain ⟨number, termination, -⟩ := kept o
  refine ⟨U, f o, cs ++ c.causesAtWindow (s.point p).state p, ?_, met, by rw [hU], twice, by rw [hU], by rw [hU], held, number, termination,
    clock.trans (cmoves.same .clock), ?_⟩
  · obtain ⟨x, has⟩ := foldl_meets_hasMet (now := c.clock) judges held met
    rw [clock, whole]
    exact (look_put_self ..).trans (flowsOn_stopping has.state ..)
  · rw [whole]
    exact handReportsUpTo_reports ..

/-- R36: the window end of a point that hands HOSE_BREAK. -/
theorem pointWindowEvent_hoseBreak {w : Working} (working : (s.point p).meter.working = some w) (judged : (s.point p).state.judged = true)
    (order : (s.point p).order = some o) (once : (s.point p).hoseBreak = 1) (reading : Option Int)
    (gushes : (s.pointSet p).maxFlow * 5 < (windowResult (s.point p).meter w reading false).flow * 4) :
    ∃ n, pointWindowEvent p reading s = handHoseBreak p n ((pointWindowEnd p w reading (s.marked true)).marked false) := by
  have hands : s.handsHoseBreak p w = true := by
    simp only [State.handsHoseBreak, judged, order, Option.isSome_some, Bool.true_and, decide_eq_true_eq]
    exact (if_pos gushes).trans (congrArg (· + 1) once)
  rw [pointWindowEvent, working]
  dsimp only
  rw [hands]
  exact ⟨_, rfl⟩

theorem foldl_meets_idle (idle : u.state = .idle) (cs : List Cause) : cs.foldl (PointUnit.meets now) u = u := by
  induction cs with
  | nil => rfl
  | cons c cs ih =>
    have same : u.meets now c = u := by simp only [PointUnit.meets, idle]
    rw [List.foldl_cons, same, ih]

theorem marked_reach_clock (b : Bool) (instant : Nat) : ((s.marked b).reach instant).clock = (s.reach instant).clock := by
  unfold State.reach
  split <;> split
  · rfl
  · next earlier late => exact absurd earlier late
  · next late earlier => exact absurd earlier late
  · rfl

end

end Sys2Proof.Machine

/-! # The window ends of a point (O54) -/

namespace Sys2Proof.Machine

open Sys2Proof

theorem judgeQuiet_waits {p : PointId} {was : PointState} {s : State}
    (waits : ¬(was = .stopping ∧ max (s.point p).stoppingAt ((s.point p).meter.lastPulse.getD 0) + 1000 ≤ s.clock)) :
    judgeQuiet was p s = s := by
  refine if_neg (c := was = .stopping ∧ isQuiet s.clock (s.point p).meter (s.point p).stoppingAt = true) ?_
  rintro ⟨stops, quiet⟩
  exact waits ⟨stops, of_decide_eq_true quiet⟩

theorem judgeQuiet_quiet {p : PointId} {was : PointState} {s : State}
    (quiet : was = .stopping ∧ max (s.point p).stoppingAt ((s.point p).meter.lastPulse.getD 0) + 1000 ≤ s.clock) :
    judgeQuiet was p s = finishClose p s :=
  if_pos (c := was = .stopping ∧ isQuiet s.clock (s.point p).meter (s.point p).stoppingAt = true)
    ⟨quiet.1, decide_eq_true quiet.2⟩

/-- Settles O54. -/
theorem pointWindows : Obligations.PointWindows := by
  refine ⟨fun p s ready => ?_, fun p reading s ready idle => ?_, fun set x => ?_, ?_,
    fun p reading o w k s ready calm waiters => ?_⟩
  · intro m counted
    have event (m' : Meter) (counts : countPulse s.clock (s.point p).meter = m') :
        exec (.meterPulse (.point p)) s = .next (counted m') := by
      have taken : meterPulseEvent (.point p) s = counted m' := by
        rw [← counts]
        rfl
      refine congrArg Host.Outcome.next ((takeEvent_eq ready.1 ?_).trans taken)
      rw [taken]
      exact ready.2
    refine ⟨fun idle => ?_, fun metering room => event _ (countPulse_below metering room _),
      fun metering full => event _ (countPulse_full metering full _)⟩
    rw [event m (countPulse_idle idle _)]
    exact congrArg (fun points => Host.Outcome.next { s with points := points }) (put_look s.points p)
  · have still : pointWindowEvent p reading s = s := by rw [pointWindowEvent, idle]
    exact congrArg Host.Outcome.next ((takeEvent_eq ready.1 (by rw [show windowEndEvent (.point p) reading s = s from still]; exact ready.2)).trans still)
  · intro low high hysteresis
    have sum : ((set.lowCut + set.hysteresis : Nat) : Int) * 100000 = low + hysteresis := by rw [Int.natCast_add, Int.add_mul]
    refine ⟨?_, ?_, rfl, rfl⟩
    · simp only [lowAfter, microlitres, sum, Bool.false_eq_true, if_false]
      rfl
    · simp only [fullAfter, microlitres, Bool.not_true, Bool.false_eq_true, if_false]
      rfl
  · intro p reading o w s ready u now quiet order working once gushes state
    have judged : u.state.judged = true := by rcases state with h | h | h <;> rw [h] <;> rfl
    obtain ⟨n, event⟩ := pointWindowEvent_hoseBreak working judged order once reading gushes
    obtain ⟨U, x, cs, junit, mem, ustate, twice, stoppingAt, meter, held, number, term, jclock, reports⟩ :=
      windowJudged_hoseBreak (s := s.marked true) (w := w) (reading := reading) judged order once gushes
    have ended : pointWindowEnd p w reading (s.marked true) = judgeQuiet u.state p ((s.marked true).windowJudged p w reading) :=
      pointWindowEnd_eq reading
    have latches : ((pointWindowEnd p w reading (s.marked true)).marked false).latch = s.latch :=
      latch_of_shutdown (pointWindowEnd_moves p w reading (s.marked true)).shutdown
    set J := (s.marked true).windowJudged p w reading with hJ
    set y := (pointWindowEnd p w reading (s.marked true)).marked false with hy
    have judges : U.state.judged = true := by rw [ustate]; exact judged
    have jnow : J.clock = now.clock := jclock.trans (marked_reach_clock ..)
    obtain ⟨x', has⟩ := foldl_meets_hasMet (now := J.clock) judges held mem
    rw [← junit] at has
    have judgesQuiet : (u.state = .stopping ∧ max (J.point p).stoppingAt ((J.point p).meter.lastPulse.getD 0) + 1000 ≤ J.clock) ↔ quiet := by
      refine and_congr_right fun stops => ?_
      obtain ⟨-, meter', stopping⟩ := has.stopped (ustate.trans stops)
      rw [meter', stopping, stoppingAt, meter, jnow]
      rfl
    have yreports : y.stock.reports = [] := by
      refine Eq.trans (congrArg (fun z : State => (z.marked false).stock.reports) ended) (Eq.trans ?_ reports)
      exact (judgeQuiet_moves ..).same .reports
    have set : y.isSet (.point p) = true ↔ (s.latch (.point p)).state ≠ .normal := by
      rw [State.isSet, latches]
      exact decide_eq_true_iff
    have handed : (handHoseBreak p n y).isSet (.point p) = true := decide_eq_true (handCause_isSet { handing (.point p) .hoseBreak none with
      exemptPoint := if y.isSet (.point p) then none else some p, already := n } y)
    refine ⟨handHoseBreak p n y, congrArg Host.Outcome.next ((takeEvent_eq ready.1 ?_).trans event), handed, fun normal => ?_,
      fun awake => ?_, fun still => ?_⟩
    · rw [show windowEndEvent (.point p) reading s = _ from event]
      exact handCause_reports ..
    · exact handCause_first (h := { handing (.point p) .hoseBreak none with
        exemptPoint := if y.isSet (.point p) then none else some p, already := n }) (by rw [latches]; exact normal)
    · have same : y.point p = cs.foldl (PointUnit.meets J.clock) U := by
        rw [← junit, hy, ended, judgeQuiet_waits (judgesQuiet.not.2 awake)]
        rfl
      have yclock : y.clock = J.clock := by
        rw [hy, ended, judgeQuiet_waits (judgesQuiet.not.2 awake)]
        rfl
      obtain ⟨unit, -⟩ := handHoseBreak_point (n := n) yreports (.inl (by rw [same, ← junit]; exact has.state))
      rw [same, yclock, ← List.foldl_append] at unit
      obtain ⟨x, has⟩ := foldl_meets_hasMet (now := J.clock) judges held (List.mem_append_left (if y.isSet (.point p) then [.trip] else []) mem)
      rw [← unit] at has
      refine ⟨x, has.order, has.state, has.hoseBreak.trans twice, fun open' => has.valve (by rw [ustate]; exact open'),
        fun stops => (has.stopped (ustate.trans stops)).1.trans term, has.met _ (List.mem_append_left _ mem), fun set' => ?_⟩
      rw [if_pos (set.2 set')] at has
      exact has.met _ (List.mem_append_right _ (List.mem_singleton_self _))
    · have stops : U.state = .stopping := ustate.trans still.1
      have whole : pointWindowEnd p w reading (s.marked true) = finishClose p J := ended.trans (judgeQuiet_quiet (judgesQuiet.2 still))
      have closed : y.point p = (J.point p).closed := by
        rw [hy, whole]
        exact (finishClose_point has.order p).trans (if_pos rfl)
      obtain ⟨unit, journal⟩ := handHoseBreak_point (n := n) yreports (.inr (by rw [closed]; rfl))
      rw [foldl_meets_idle (by rw [closed]; rfl), closed] at unit
      have records : (handHoseBreak p n y).journal = (finishClose p J).journal := by
        rw [journal, hy, whole]
        rfl
      rw [finishClose_journal has.order] at records
      have last : x'.termination = o.termination := (has.stopped stops).1.trans term
      refine ⟨by rw [unit]; rfl, by rw [unit]; rfl, _, by rw [records]; exact List.mem_of_getLast? (List.getLast?_concat ..), has.number.trans number, rfl, congrArg (Option.getD · _) last, ?_⟩
      exact (has.met _ mem).imp_left fun cause => congrArg (Option.getD · .stopped) cause
  · intro u set enabled busy order working posting product cause noFlow now r amount waiting gushes tame exhausted reason metered
      reached breaks low dry quiet met causes added taken counted stopped flows
    have unit : now.point p = u := congrFun (point_of_points (State.reach_points ..)) p
    have store : now.store = s.store := State.reach_store ..
    have stock : now.stock = s.stock := State.reach_stock ..
    have sets : now.pointSet p = set := by rw [State.pointSet, store]; rfl
    have tankSets : now.tankSet k = s.tankSet k := by rw [State.tankSet, store]; rfl
    obtain ⟨crest, cinlets, credited⟩ := windowCounted_posts (w := w) (reading := reading) (now := now) (r := r) rfl rfl order posting
    change now.Credited k r.net amount _ at credited
    set c := s.windowCounted p w reading with hc
    set U := u.windowed set w reading o k with hU
    have cunit : c.point p = U := by
      rw [crest]
      exact look_put_self ..
    have cothers (q : PointId) (ne : q ≠ p) : c.point q = s.point q := by
      rw [crest]
      exact (look_put_ne _ _ ne.symm).trans (congrFun (point_of_points (State.reach_points ..)) q)
    have cclock : c.clock = now.clock := by rw [crest]
    have cset : c.pointSet p = set := by
      rw [State.pointSet, show c.store = now.store by rw [crest]]
      exact sets
    have reports : c.stock.reports = if exhausted then [⟨o.product, reason⟩] else [] := by
      have why : now.exhaustionReason o.product = reason := by
        rw [State.exhaustionReason, stock, calm, State.isWaste, State.productSet, store]
        rfl
      rw [credited.reports, stock, ready.2, tankSets, product, why, List.nil_append]
    have few : c.stock.reports = [] ∨ ∃ r, c.stock.reports = [r] := by
      rw [reports]
      split
      · exact .inr ⟨_, rfl⟩
      · exact .inl rfl
    have spent (q : PointId) : c.Spent (some p) q := fun waits => by
      by_cases own : q = p
      · exact .inl (congrArg some own.symm)
      · rw [cothers q own] at waits ⊢
        exact .inr (waiters q own waits)
    obtain ⟨rstock, rinlets⟩ := handReportsAt_few few spent
    have rmoves := handReportsAt_moves (some p) c
    have still (no : ¬exhausted) : handReportsAt (some p) c = c := handReportsAt_none (by rw [reports, if_neg no])
    have uorder : U.order = some added := by
      rw [hU, PointUnit.windowed, countWindow]
      split <;> rfl
    have ustate : U.state = u.state := by
      rw [hU, PointUnit.windowed, countWindow]
      split <;> rfl
    have rtaken (yes : exhausted) (t : State) (records : (handReportsAt (some p) c).Journaled t) (time : t.clock = c.clock)
        (q : PointId) (same : t.point q = (handReportsAt (some p) c).point q) :
        if ∃ x ∈ (c.point q).order, x.product = o.product then c.ReportTaken q reason t else t.point q = c.point q :=
      (handReportsAt_one (reports.trans (if_pos yes)) spent).2.2 t records time q same
    set R := handReportsAt (some p) c with hR
    set J := s.windowJudged p w reading with hJ
    have jjudged (judged : u.state.judged = true) : J = { R with
        points := put R.points p
          ((causes.foldl (PointUnit.meets now.clock) U).flowsOn u.state set.noFlowThreshold r.flow) } := by
      have judges : U.state.judged = true := by rw [ustate]; exact judged
      have metAt : c.causesAtWindow u.state p = met := by
        have open' : ¬waiting := fun waits => by rcases waits with h | h <;> · rw [h] at judged; cases judged
        rw [causesAtWindow_judged judged (cunit ▸ uorder)]
        refine (windowCauses_windowed (r := r) (k := k) rfl judged cunit cset cause).trans ?_
        have gush : (set.maxFlow * 5 < r.flow * 4 ∧ 1 ≤ u.hoseBreak) ↔ breaks :=
          and_congr_left' ⟨fun h => ⟨open', h⟩, And.right⟩
        exact congrArg (_ ++ · ++ _) (if_congr gush rfl rfl)
      have told : R.point p = (if exhausted then [reason] else []).foldl (PointUnit.meets c.clock) U := by
        by_cases yes : exhausted
        · rw [if_pos yes, ← cunit]
          exact handReportsAt_meets (o := added) (r := ⟨o.product, reason⟩) (by rw [cunit]; exact judges) (cunit ▸ uorder) rfl (reports.trans (if_pos yes)) spent
        · rw [if_neg yes, still yes]
          exact cunit
      have whole := windowJudged_meets rfl judges told (rmoves.same .clock) (by rw [State.pointSet, rmoves.store]; exact cset) metAt
      have all : (if exhausted then [reason] else []) ++ met = causes := by
        simp only [causes]
        split <;> rfl
      rw [all, cclock] at whole
      exact whole
    have junjudged (judged : u.state.judged = false) : J = R := windowJudged_unjudged judged reading
    have jrest : J = { R with points := put R.points p (J.point p) } := by
      cases judged : u.state.judged with
      | true =>
        rw [jjudged judged]
        simp only [State.point, look_put_self]
      | false =>
        rw [junjudged judged]
        exact congrArg (fun points => { R with points := points }) (put_look R.points p).symm
    have junit (judged : u.state.judged = true) :
        J.point p = (causes.foldl (PointUnit.meets now.clock) U).flowsOn u.state set.noFlowThreshold r.flow := by
      rw [jjudged judged]
      exact look_put_self ..
    have jothers (q : PointId) (ne : q ≠ p) : J.point q = R.point q := by
      rw [jrest]
      exact look_put_ne _ _ ne.symm
    have judgedU (judged : u.state.judged = true) := windowed_judged (o := o) judged set w reading k
    have jstops (stops : u.state = .stopping) : J.point p = { U with order := some stopped } := by
      have stopping : U.state = .stopping := ustate.trans stops
      have folded := foldl_meets_stops (now := now.clock) stopping uorder causes
      rw [junit (judged_of_stopping stops), folded]
      exact flowsOn_stopping (u := { U with order := some stopped }) stopping _ _ _
    have judgesQuiet : (u.state = .stopping ∧ max (J.point p).stoppingAt ((J.point p).meter.lastPulse.getD 0) + 1000 ≤ J.clock) ↔ quiet := by
      refine and_congr_right fun stops => ?_
      rw [jstops stops, hU, judgedU (judged_of_stopping stops), show J.clock = now.clock by rw [jrest]; exact (rmoves.same .clock).trans cclock]
      rfl
    have jclock : J.clock = now.clock := by
      rw [jrest]
      exact (rmoves.same .clock).trans cclock
    have ended : pointWindowEvent p reading s = judgeQuiet u.state p J := by
      have untold : s.handsHoseBreak p w = false := by
        rw [Bool.eq_false_iff]
        intro hands
        simp only [State.handsHoseBreak, Bool.and_eq_true, decide_eq_true_eq] at hands
        obtain ⟨⟨judged, -⟩, count⟩ := hands
        have awake : ¬waiting := fun waits => by rcases waits with h | h <;> · rw [h] at judged; cases judged
        unfold hoseBreakAfter at count
        split at count
        · next gush => exact tame ⟨⟨awake, gush⟩, Nat.succ.inj count⟩
        · cases count
      rw [pointWindowEvent, working]
      dsimp only
      rw [untold]
      exact pointWindowEnd_eq reading
    obtain ⟨t, ends, tmoves, tothers, records, waits, closes⟩ : ∃ t, judgeQuiet u.state p J = t ∧ Moves closeParts ∅ J t ∧
        (∀ q, q ≠ p → t.point q = J.point q) ∧ J.Journaled t ∧ (¬quiet → t = J) ∧ (quiet → t = finishClose p J) := by
      by_cases stills : quiet
      · have held : (J.point p).order = some stopped := by rw [jstops stills.1]
        refine ⟨finishClose p J, judgeQuiet_quiet (judgesQuiet.2 stills), finishClose_moves p J,
          fun q ne => finishClose_point_ne J ne.symm, finishClose_journaled held, fun no => absurd stills no, fun _ => rfl⟩
      · exact ⟨J, judgeQuiet_waits (judgesQuiet.not.2 stills), .refl .., fun _ _ => rfl, .refl J, fun _ => rfl, fun yes => absurd yes stills⟩
    have rrecords : R.Journaled t := (windowJudged_journaled p w reading s).trans records
    have tclock : t.clock = now.clock := (tmoves.same .clock).trans jclock
    have awaits (waits : waiting) : u.state.judged = false ∧ ¬quiet := by
      rcases waits with h | h <;> exact ⟨by rw [h]; rfl, fun still => by cases h.symm.trans still.1⟩
    have flowsAwake (meters : metered) : u.state.judged = true ∧ ¬quiet := by
      rcases meters with h | h <;> exact ⟨by rw [h]; rfl, fun still => by cases h.symm.trans still.1⟩
    have countedU (judged : u.state.judged = true) : U = counted := by
      have gush : set.maxFlow * 5 < r.flow * 4 ↔ gushes :=
        ⟨fun h => ⟨fun waits => (nomatch judged.symm.trans (awaits waits).1), h⟩, And.right⟩
      rw [hU, judgedU judged]
      exact (PointUnit.mk.injEq ..).mpr
        ⟨rfl, rfl, rfl, rfl, rfl, rfl, rfl, rfl, (ite_and ..).symm, if_congr gush rfl rfl, rfl, rfl, rfl, rfl⟩
    have tstock : t.stock = { c.stock with reports := [] } := by
      rw [tmoves.stock, jrest]
      exact rstock
    have run : exec (.windowEnd (.point p) reading) s = .next t :=
      congrArg Host.Outcome.next ((takeEvent_eq ready.1 (by
        rw [show windowEndEvent (.point p) reading s = t from ended.trans ends]
        exact congrArg StockUnit.reports tstock)).trans (ended.trans ends))
    refine ⟨t, run, ?_, ?_, ?_, ?_, fun nothing => ?_, fun some => ⟨?_, fun j ne => ?_, fun j => ?_, ?_⟩, fun i => ?_, fun q ne => ?_,
      fun no awake => ?_, fun waits' no => ?_, fun waits' yes => ?_, fun meters none => ?_, fun meters cause' rest all => ?_,
      fun stops awake => ?_, fun stills => ?_⟩
    · exact tclock
    · rw [tmoves.store, jrest]
      exact rmoves.store.trans (by rw [crest]; exact store)
    · rw [tmoves.shutdown, jrest]
      exact rmoves.shutdown.trans (by rw [crest]; exact State.reach_shutdown ..)
    · rw [tmoves.bay, jrest]
      exact rmoves.bay.trans (by rw [crest]; exact State.reach_bay ..)
    · rw [tstock, (credited.none nothing).1, stock]
      exact (StockUnit.mk.injEq ..).mpr ⟨rfl, rfl, rfl, ready.2.symm, rfl⟩
    · rw [State.tank, tstock]
      exact credited.tank.trans (if_neg some)
    · rw [State.tank, tstock]
      exact credited.tank_ne ne
    · rw [State.draw, tstock]
      exact credited.draws some j
    · rw [tstock]
    · rw [State.inlet, tmoves.same .inlets, jrest, rinlets]
      exact cinlets i
    · by_cases yes : exhausted
      · have each := rtaken yes t rrecords (tclock.trans cclock.symm) q ((tothers q ne).trans (jothers q ne))
        unfold State.ReportTaken at each ⊢
        rw [cothers q ne] at each
        simpa only [yes, true_and] using each
      · rw [if_neg fun h => yes h.1, tothers q ne, jothers q ne, still yes, cothers q ne]
    · rw [waits awake, jrest, still no, crest]
      exact ⟨State.reach_pumps .., State.reach_accounts .., State.reach_journal ..⟩
    · obtain ⟨unjudged, awake⟩ := awaits waits'
      rw [waits awake, junjudged unjudged, still no, cunit, hU, windowed_unjudged unjudged]
      rfl
    · obtain ⟨unjudged, awake⟩ := awaits waits'
      have each := rtaken yes t rrecords (tclock.trans cclock.symm) p (by rw [waits awake, junjudged unjudged])
      rw [cunit, if_pos ⟨added, uorder, rfl⟩, State.ReportTaken, cunit, uorder, ustate] at each
      rcases waits' with h | h
      all_goals
        rw [h] at each
        exact each
    · obtain ⟨judged, awake⟩ := flowsAwake meters
      have flows' : (u.state = .priming ∧ counted.state = .priming ∧ set.noFlowThreshold ≤ r.flow) ↔ flows :=
        ⟨fun h => ⟨h.1, h.2.2⟩, fun h => ⟨h.1, h.1, h.2⟩⟩
      rw [waits awake, junit judged, none, countedU judged]
      refine (if_congr flows' rfl rfl).trans ?_
      split
      · next flow =>
        have nothing : low = 0 := if_neg fun h => by cases flow.1.symm.trans h.1
        exact (PointUnit.mk.injEq ..).mpr
          ⟨rfl, rfl, rfl, rfl, rfl, rfl, rfl, rfl, nothing.symm, rfl, rfl, rfl, rfl, rfl⟩
      · rfl
    · obtain ⟨judged, awake⟩ := flowsAwake meters
      have folded := foldl_meets_flows (now := now.clock) (u := U) (ustate.symm ▸ meters) uorder cause' rest
      rw [waits awake, junit judged, all, folded, countedU judged]
      exact flowsOn_stopping rfl ..
    · rw [waits awake, jstops stops, countedU (judged_of_stopping stops)]
    · have held : (J.point p).order = some stopped := by rw [jstops stills.1]
      have point := (finishClose_point held p).trans (if_pos rfl)
      have journal := finishClose_journal held
      have jset : J.pointSet p = set := by
        rw [State.pointSet, jrest, rmoves.store]
        exact cset
      rw [closes stills]
      refine ⟨by rw [point]; rfl, by rw [point]; rfl, by rw [point]; rfl, by rw [point]; rfl, by rw [point]; rfl, ?_,
        _, by rw [journal]; exact List.getLast?_concat .., rfl, rfl, rfl, rfl, rfl, rfl, rfl, ?_⟩
      · rw [← jset]
        exact finishClose_claims held
      · rw [State.seconds, State.seconds, ← jclock]

end Sys2Proof.Machine

/-! # The units that a restart leaves (R47, R62, R86, R104, R144, R193) -/

namespace Sys2Proof.Machine

open Sys2Proof

/-- R86: the readings and the book of a tank, which no later step of a restart changes. -/
def Tank.measured (x : Tank) : GaugeState × Option Int × Option Int × Bool × Int × Bool :=
  (x.gauge, x.gauged, x.variance, x.stable, x.book, x.rebasePending)

/-- R47, R62, R86, R104, R144, R193: the units of a restart that has begun from a state, whatever operations it has still to
close. -/
structure State.AtRestart (s t : State) : Prop where
  points : ∀ p, (t.point p).valve = false ∧ (t.point p).meter.working = none ∧ (t.point p).receiver = .uncoupled ∧
    (t.point p).state = if (t.pointSet p).enabled then .idle else .disabled
  inlets : ∀ i, (t.inlet i).state = .idle ∧ (t.inlet i).valve = false ∧ (t.inlet i).meter.working = none ∧
    (t.inlet i).coupled = (s.inlet i).coupled
  pumps : ∀ m, (t.pump m).state = .off ∧ (t.pump m).claims = [] ∧ (t.pump m).run = false ∧
    (t.pump m).faultLine = (s.pump m).faultLine
  queue : t.pumps.queue = []
  links : ∀ l, (t.link l).rate = none ∧ (t.link l).running = none ∧ (t.link l).result = none ∧
    (t.link l).service = none ∧ (t.link l).restartOwed = .none
  cursors : t.accounts.cursors = fill 3 0
  tanks : ∀ k, (t.tank k).gauge = .waiting ∧ (t.tank k).gauged = none ∧ (t.tank k).variance = none ∧
    (t.tank k).stable = false

/-- The pumps as they are, or as the BAY latch leaves them. -/
def State.PumpsTripped (s t : State) : Prop := t.pumps = s.pumps ∨ t.pumps = (bayTripPumps s).pumps

/-- What an event of the restart sequence leaves of the units. -/
structure State.KeepsUnits (t u : State) : Prop where
  store : u.store = t.store
  points : ∀ p, u.point p = { t.point p with order := (u.point p).order }
  inlets : ∀ i, u.inlet i = t.inlet i ∨ u.inlet i = (t.inlet i).closed
  pumps : t.PumpsTripped u
  links : t.Noticed u
  cursors : u.accounts.cursors = t.accounts.cursors
  tanks : ∀ k, (u.tank k).measured = (t.tank k).measured

section
variable {s t u : State}

theorem State.AtRestart.keeps (h : s.AtRestart t) (next : t.KeepsUnits u) : s.AtRestart u where
  points p := by
    rw [next.points p, State.pointSet, next.store]
    exact h.points p
  inlets i := by
    rcases next.inlets i with same | closed
    · rw [same]
      exact h.inlets i
    · rw [closed]
      exact ⟨rfl, rfl, rfl, (h.inlets i).2.2.2⟩
  pumps m := by
    rcases next.pumps with same | tripped
    · rw [State.pump, same]
      exact h.pumps m
    · have unit : u.pump m = { (t.pump m).off with claims := [] } := by
        rw [State.pump, tripped]
        exact look_mapTable ..
      rw [unit]
      exact ⟨rfl, rfl, rfl, (h.pumps m).2.2.2⟩
  queue := by
    rcases next.pumps with same | tripped
    · rw [same, h.queue]
    · rw [tripped]
      rfl
  links l := by
    rw [(next.links l).rest]
    exact h.links l
  cursors := next.cursors.trans h.cursors
  tanks k := by
    have same := next.tanks k
    simp only [Tank.measured, Prod.mk.injEq] at same
    obtain ⟨gauge, gauged, variance, stable, -, -⟩ := same
    rw [gauge, gauged, variance, stable]
    exact h.tanks k

/-! ## The restart states (R200, step 1) -/

theorem changeMode_noticed (new : Mode) (source : ModeSource) (s : State) : s.Noticed (changeMode new source s) :=
  (post_noticed (.bayMode s.bay.mode new source) { s with bay := { s.bay with mode := new } }).once rfl

theorem wake_noticed (source : ModeSource) (s : State) : s.Noticed (wake source s) := by
  unfold wake
  split
  · exact changeMode_noticed _ _ s
  · exact .of_links rfl

theorem restartStock_tank (k : TankId) (s : State) : (restartStock s).tank k = Tank.restarted s.seconds (s.tank k) := look_mapTable ..

theorem restartLinks_link (l : Link) (s : State) : (restartLinks s).link l = .restarted := look_fill ..

theorem restartUnits_pumps (s : State) : (restartUnits s).pumps = (restartPumps s).pumps :=
  (wake_moves .restart _).same .pumps

theorem restartUnits_cursors (s : State) : (restartUnits s).accounts.cursors = fill 3 0 :=
  (congrArg AccountUnit.cursors (wake_moves .restart _).accounts).trans rfl

theorem restartUnits_tank (k : TankId) (s : State) : ((restartUnits s).tank k) = Tank.restarted s.seconds (s.tank k) :=
  (congrFun (tank_of_same ((wake_moves .restart _).same .tanks)) k).trans (restartStock_tank k (restartInlets (restartPumps (restartPoints s))))

theorem restartUnits_link (l : Link) (s : State) : ∃ v, (restartUnits s).link l = v ∧ LinkUnit.restarted.Noticed v := by
  refine ⟨_, rfl, ?_⟩
  have noticed := wake_noticed .restart (restartLinks (restartCursors (restartStock (restartInlets (restartPumps (restartPoints s)))))) l
  rw [restartLinks_link] at noticed
  exact noticed

theorem restartUnits_atRestart (s : State) : s.AtRestart (restartUnits s) := by
  have inlet (i : InletId) : (restartUnits s).inlet i = { InletUnit.restarted (s.inlet i).coupled with delivery := (s.inlet i).delivery } := by
    rw [State.inlet, restartUnits_inlets]
    exact look_mapTable ..
  have pump (m : PumpId) : (restartUnits s).pump m = .restarted (s.pump m).faultLine := by
    rw [State.pump, restartUnits_pumps]
    exact look_mapTable ..
  refine ⟨fun p => ?_, fun i => ?_, fun m => ?_, ?_, fun l => ?_, restartUnits_cursors s, fun k => ?_⟩
  · have point : (restartUnits s).point p = { PointUnit.restarted (s.pointSet p).enabled s.clock with order := (s.point p).order } := by
      rw [State.point, restartUnits_points]
      exact look_ofFn ..
    rw [point, State.pointSet, State.pointSet, (restartUnits_moves s).store]
    exact ⟨rfl, rfl, rfl, rfl⟩
  · rw [inlet]
    exact ⟨rfl, rfl, rfl, rfl⟩
  · rw [pump]
    exact ⟨rfl, rfl, rfl, rfl⟩
  · rw [restartUnits_pumps]
    rfl
  · obtain ⟨v, same, noticed⟩ := restartUnits_link l s
    rw [same, noticed.rest]
    exact ⟨rfl, rfl, rfl, rfl, rfl⟩
  · rw [restartUnits_tank]
    exact ⟨rfl, rfl, rfl, rfl⟩

end

end Sys2Proof.Machine

/-! # What the events of a restart leave of the units (R200, steps 1 to 3) -/

namespace Sys2Proof.Machine

open Sys2Proof

section
variable {s t u : State}

theorem evaluateConditions_measured (k j : TankId) (s : State) : ((evaluateConditions k s).tank j).measured = (s.tank j).measured := by
  rw [evaluateConditions_eq, tank_updTank]
  split
  · next same =>
    subst same
    rfl
  · rfl

theorem dropReports_noticed (h : s.Noticed t) : s.Noticed (dropReports t) := h

/-- R86: the stock of a blank store. -/
theorem checkBlankStore_keeps (s : State) : s.KeepsUnits (checkBlankStore s) := by
  have moves := checkBlankStore_moves s
  refine ⟨moves.store, fun p => by rw [point_of_points (moves.same .points)], fun i => .inl (by rw [inlet_of_inlets (moves.same .inlets)]),
    .inl (moves.same .pumps), ?_, congrArg AccountUnit.cursors moves.accounts, fun k => ?_⟩
  · have evaluated := (evaluateAll_frame allTanks s).same .links
    have checked := State.Noticed.forEach (fun k u => chainCheck_noticed k true u) allProducts (forEach allTanks evaluateConditions s)
    exact dropReports_noticed ((State.Noticed.of_links evaluated).trans checked)
  · have checked := (chainChecks_start_moves allProducts (forEach allTanks evaluateConditions s)).same .tanks
    rw [checkBlankStore, tank_of_same ((dropReports_moves _).same .tanks), tank_of_same checked]
    exact forEach_invariant (P := fun u => (u.tank k).measured = (s.tank k).measured) allTanks evaluateConditions
      (fun j u hu => (evaluateConditions_measured j k u).trans hu) s rfl

theorem restartBlocks_atRestart (check : MemoryCheck) (s : State) : s.AtRestart (restartBlocks check s) := by
  rw [restartBlocks_eq]
  split
  · exact restartUnits_atRestart s
  · exact (restartUnits_atRestart s).keeps (checkBlankStore_keeps _)

/-- R200, step 2. -/
theorem restartShift_keeps (s : State) : s.KeepsUnits (restartShift s) := by
  have moves := restartShift_moves s
  refine ⟨moves.store, fun p => by rw [point_of_points (moves.same .points)], fun i => .inl (by rw [inlet_of_inlets (moves.same .inlets)]),
    .inl (moves.same .pumps), .of_links (moves.same .links), ?_, fun k => by rw [tank_of_same (moves.same .tanks)]⟩
  unfold restartShift
  split <;> rfl

theorem settledReportsAfterClose_idle (idle : ∀ l, (s.link l).running = none) : settledReportsAfterClose s = s :=
  forEach_invariant (P := (· = s)) allLinks settledReportCheck
    (fun l u hu => by subst hu; simp only [settledReportCheck, idle]) s rfl

/-- R200, step 3: the close of an order. -/
theorem interruptOrder_keeps (p : PointId) (s : State) : s.KeepsUnits (interruptOrder p s) := by
  have frame := interruptOrder_frame p s
  refine ⟨frame.store, fun q => ?_, fun i => .inl (by rw [interruptOrder_inlet]), .inl (frame.same .pumps), ?_, (frame.same .accountsRest).2.1,
    fun k => by rw [tank_of_same (frame.same .tanks)]⟩
  · rw [interruptOrder_point]
    split <;> rfl
  · cases order : (s.point p).order with
    | none =>
      rw [interruptOrder_none order]
      exact .of_links rfl
    | some o =>
      rw [interruptOrder_some order]
      exact (recordOrder_noticed p o.interrupted .interrupted s).trans (.of_links rfl)

/-- R73, R78: a hold let go leaves the readings of every tank. -/
theorem clearReceiving_measured (i : InletId) (k : TankId) (s : State) : ((clearReceiving i s).tank k).measured = (s.tank k).measured := by
  unfold clearReceiving
  split
  · rfl
  · next d _ =>
    dsimp only
    split
    · rw [tank_of_same ((chainCheck_moves ..).same .tanks), restartQuiet, tank_updTank]
      split
      · next same =>
        subst same
        rfl
      · rfl
    · rfl

/-- R200, step 3: the close of a delivery. -/
theorem interruptDelivery_keeps (i : InletId) (idle : ∀ l, (s.link l).running = none) : s.KeepsUnits (interruptDelivery i s) := by
  have moves := interruptDelivery_moves i s
  refine ⟨moves.store, fun p => by rw [interruptDelivery_point], fun j => ?_, .inl (moves.same .pumps), ?_,
    congrArg AccountUnit.cursors moves.accounts, fun k => ?_⟩
  · rw [interruptDelivery_inlet]
    split
    · next same =>
      subst same
      split
      · exact .inr rfl
      · exact .inl rfl
    · exact .inl rfl
  all_goals
    rw [interruptDelivery_eq]
    set c := s.updDelivery i Delivery.interrupted with hc
    cases delivery : (c.inlet i).delivery
  · rw [closeDelivery_none delivery]
    exact .of_links rfl
  · next d =>
    rw [closeDelivery_some delivery]
    have noticed := (clearReceiving_noticed i c).trans (recordDelivery_noticed i (letGo d) (d.termination.getD .stopped)
      (notReconciled .interrupted) (clearReceiving i c))
    generalize recordDelivery i (letGo d) (d.termination.getD .stopped) (notReconciled .interrupted) (clearReceiving i c) = r at noticed ⊢
    rw [settledReportsAfterClose_idle fun l => ?_]
    · exact dropReports_noticed noticed
    · refine Eq.trans (congrArg LinkUnit.running (noticed l).rest) ?_
      exact idle l
  · rw [closeDelivery_none delivery]
    rfl
  · next d =>
    rw [closeDelivery_some delivery]
    refine Eq.trans ?_ (clearReceiving_measured i k c)
    have recorded := recordDelivery_moves i (letGo d) (d.termination.getD .stopped) (notReconciled .interrupted) (clearReceiving i c)
    generalize recordDelivery i (letGo d) (d.termination.getD .stopped) (notReconciled .interrupted) (clearReceiving i c) = r at recorded ⊢
    rw [tank_of_same ((dropReports_moves _).same .tanks), tank_of_same ((settledReportsAfterClose_moves _).same .tanks), ← tank_of_same (recorded.same .tanks)]
    rfl

end

end Sys2Proof.Machine

/-! # The start of the shutdown unit at a restart (R167, R200, step 4) -/

namespace Sys2Proof.Machine

open Sys2Proof

/-! ## A cause handed where nothing is open (R155) -/

/-- What the shutdown unit touches where nothing is open. -/
def emptyTripParts : List Part := [.latches, .log, .shutdownRest, .links, .stockRest, .draws, .reports, .pumps]

section
variable {s t : State}

theorem State.Empty.of_same (h : s.Empty) (points : Part.points.same s t) (inlets : Part.inlets.same s t) : t.Empty := by
  obtain ⟨rested, orders, deliveries⟩ := h
  rw [State.Empty, point_of_points points, inlet_of_inlets inlets]
  exact ⟨rested.of_same points inlets, orders, deliveries⟩

theorem handReportsUpTo_empty (orders : ∀ p, (s.point p).order = none) (ended : Option PointId) (n : Nat) :
    handReportsUpTo ended n s = dropReports s := by
  induction n generalizing s with
  | zero => rfl
  | succ n ih =>
    unfold handReportsUpTo
    split
    · next none => exact (dropReports_none none).symm
    · next r rest _ =>
      rw [takeReport_unordered (s := { s with stock := { s.stock with reports := rest } }) fun p o order => ?_]
      · exact ih orders
      · cases (orders p).symm.trans order

/-- R155: a hand-on where nothing is open. -/
theorem handOn_empty (empty : s.Empty) (h : Handing) (leaves : Bool) : handOn h leaves s = dropReports (handOnStock h leaves s) := by
  have kept := handOnStock_moves h leaves s
  obtain ⟨⟨points, -⟩, orders, deliveries⟩ := empty.of_same (kept.same .points) (kept.same .inlets)
  set x := handOnStock h leaves s with hx
  have inlets : x.inletsTripped h = [] := by
    have none : x.inletsOf h.latch = [] := by simp [State.inletsOf, deliveries]
    rw [State.inletsTripped, none, List.filter_nil]
  have stops : forEach ((pointsOf h.latch).filter fun p => h.exemptPoint ≠ some p) (stopPoint none .trip) x = x :=
    forEach_invariant (P := (· = x)) _ _ (fun p u hu => by rw [hu]; exact stopPoint_free ((points p).1.symm)) x rfl
  rw [handOn_eq, ← hx, inlets]
  change handReports (forEach _ _ x) = _
  rw [stops]
  exact handReportsUpTo_empty orders none 16

theorem handOnStock_noticed (h : Handing) (leaves : Bool) (s : State) : s.Noticed (handOnStock h leaves s) := by
  have checked : s.Noticed (checkProducts h.latch s) := State.Noticed.forEach (fun k u => chainCheck_noticed k false u) _ _
  unfold handOnStock
  split
  · exact checked.trans (.of_links rfl)
  · exact checked

theorem handOnStock_pumps (h : Handing) (leaves : Bool) (s : State) : s.PumpsTripped (handOnStock h leaves s) := by
  have checked : (checkProducts h.latch s).pumps = s.pumps := (checkProducts_moves ..).same .pumps
  unfold handOnStock
  split
  · exact .inr (by rw [bayTripPumps, checked]; rfl)
  · exact .inl checked

/-- R150, R155: a cause handed to a latch where nothing is open. -/
theorem handCause_empty (empty : s.Empty) (h : Handing) :
    Moves emptyTripParts (tripLaws ∪ drawLaws) s (handCause h s) ∧ s.Noticed (handCause h s) ∧ s.PumpsTripped (handCause h s) := by
  set leaves := decide ((s.latch h.latch).state = .normal) with hleaves
  obtain ⟨n, sent⟩ : ∃ n, causeHandedOn h s = (handOn h leaves (((latchTaken h s).post n).marked true)).marked false := ⟨_, rfl⟩
  set x := ((latchTaken h s).post n).marked true with hx
  have before : Moves [.latches, .log, .shutdownRest, .links, .stockRest] (tripLaws ∪ drawLaws) s x :=
    ((latchTaken_moves h s).andThen (((post_moves n _).andThen (marked_moves true _)).weaken _)).mono (by decide)
  have told : s.Noticed x := ((post_noticed n (latchTaken h s)).once ((latchTaken_moves h s).same .links)).trans (.of_links rfl)
  rw [handOn_empty (empty.of_same (before.same .points) (before.same .inlets))] at sent
  have stock := handOnStock_moves h leaves x
  have noticed := handOnStock_noticed h leaves x
  have pumps := handOnStock_pumps h leaves x
  set y := handOnStock h leaves x with hy
  have handed : Moves [.draws, .reports, .links, .pumps, .stockRest] ∅ x (causeHandedOn h s) := by
    rw [sent]
    exact (stock.andThen ((dropReports_moves y).andThen (marked_moves false _))).mono (by decide)
  have last : Moves [.log, .latches, .links] ∅ (causeHandedOn h s) (handCause h s) := by
    rw [handCause_stopped]
    exact ((changeEntry_moves ..).andThen (examine_moves ..)).mono (by decide)
  refine ⟨(before.andThen ((handed.andThen last).weaken _)).mono (by decide), told.trans ?_, ?_⟩
  · have links : x.Noticed (causeHandedOn h s) := by
      rw [sent]
      exact noticed.trans (.of_links rfl)
    rw [handCause_stopped]
    exact links.trans ((State.Noticed.of_links ((changeEntry_moves ..).same .links)).trans (examine_noticed _ _))
  · have same : (handCause h s).pumps = y.pumps := by
      rw [show (handCause h s).pumps = (causeHandedOn h s).pumps from last.same .pumps, sent]
      rfl
    have first : x.pumps = s.pumps := before.same .pumps
    rw [State.PumpsTripped, same]
    simpa only [State.PumpsTripped, bayTripPumps, first] using pumps

/-! ## The shutdown unit starts -/

/-- R167: the line inputs at a restart. -/
structure State.InputsStarted (s t : State) : Prop where
  bypass : ∀ x, t.bypass x = none
  debounced : ∀ x, t.debounced x = restartInput s.clock (debounceTenths s.store.debounce x) (s.debounced x)
  estop : t.shutdown.estop = ⟨s.shutdown.estop.level, settledAt s.shutdown.estop.level, none⟩

theorem restartInputs_started (s : State) : s.InputsStarted ((restartInputs s).setEstop s.shutdown.estop.level) := by
  refine ⟨fun x => ?_, fun x => ?_, rfl⟩
  · cases x <;> exact look_fill ..
  · cases x <;> exact look_mapTable ..

/-- R167: the ESTOP input at the start of the shutdown unit hands its cause, or has the latches that hold it examined. -/
theorem startShutdown_eq (s : State) : startShutdown s = dropReports (if s.shutdown.estop.level then
    handCause (handing .bay .estop (some .estop)) ((restartInputs s).setEstop s.shutdown.estop.level)
    else examineHolding .estop ((restartInputs s).setEstop s.shutdown.estop.level)) := rfl

theorem startShutdown_empty (empty : s.Empty) :
    Moves emptyTripParts (tripLaws ∪ drawLaws) s (startShutdown s) ∧ s.Noticed (startShutdown s) ∧
      s.PumpsTripped (startShutdown s) ∧ s.InputsStarted (startShutdown s) := by
  rw [startShutdown_eq]
  set x := (restartInputs s).setEstop s.shutdown.estop.level with hx
  have before : Moves [.shutdownRest] ∅ s x := ((restartInputs_moves s).andThen (setEstop_moves ..)).mono (by decide)
  have started : s.InputsStarted x := restartInputs_started s
  have began : x.Empty := empty.of_same (before.same .points) (before.same .inlets)
  have pumps : x.pumps = s.pumps := before.same .pumps
  have links : s.Noticed x := .of_links (before.same .links)
  have ends {y : State} (moves : Moves emptyTripParts (tripLaws ∪ drawLaws) x y) (noticed : x.Noticed y) (tripped : x.PumpsTripped y)
      (inputs : x.SameInputs y) : Moves emptyTripParts (tripLaws ∪ drawLaws) s (dropReports y) ∧ s.Noticed (dropReports y) ∧
        s.PumpsTripped (dropReports y) ∧ s.InputsStarted (dropReports y) := by
    refine ⟨((before.weaken _).andThen (moves.andThen ((dropReports_moves y).weaken _))).mono (by decide),
      dropReports_noticed (links.trans noticed), ?_, ⟨fun b => ?_, fun b => ?_, inputs.estop.trans started.estop⟩⟩
    · simp only [State.PumpsTripped, bayTripPumps, pumps] at tripped ⊢
      exact tripped
    · exact (congrFun inputs.bypass b).trans (started.bypass b)
    · exact (congrFun inputs.debounced b).trans (started.debounced b)
  split
  · obtain ⟨moves, noticed, tripped⟩ := handCause_empty began (handing .bay .estop (some .estop))
    exact ends moves noticed tripped (handCause_inputs _ x)
  · have examined := examineHolding_moves .estop x
    exact ends ((examined.weaken _).mono (by decide)) (State.Noticed.forEach (fun l u => examine_noticed l u) _ _)
      (.inl (examined.same .pumps)) (.of_moves examined)

/-- R167, R200, step 4: the shutdown unit starts with nothing open. -/
theorem startShutdown_keeps (empty : s.Empty) : s.KeepsUnits (startShutdown s) := by
  obtain ⟨moves, noticed, pumps, -⟩ := startShutdown_empty empty
  exact ⟨moves.store, fun p => by rw [point_of_points (moves.same .points)], fun i => .inl (by rw [inlet_of_inlets (moves.same .inlets)]),
    pumps, noticed, congrArg AccountUnit.cursors moves.accounts, fun k => by rw [tank_of_same (moves.same .tanks)]⟩

end

end Sys2Proof.Machine

/-! # The operations that a restart closes (R104, R200, step 3) -/

namespace Sys2Proof.Machine

open Sys2Proof

/-! ## In ascending order of number -/

theorem insertByNumber_perm {α : Type} (x : Nat × α) (xs : List (Nat × α)) : (insertByNumber x xs).Perm (x :: xs) := by
  induction xs with
  | nil => exact .refl _
  | cons y ys ih =>
    unfold insertByNumber
    split
    · exact .refl _
    · exact (ih.cons y).trans (.swap x y ys)

theorem sortByNumber_perm {α : Type} (xs : List (Nat × α)) : (sortByNumber xs).Perm xs := by
  induction xs with
  | nil => exact .refl _
  | cons x xs ih => exact (insertByNumber_perm x _).trans (ih.cons x)

theorem insertByNumber_sorted {α : Type} {x : Nat × α} {xs : List (Nat × α)} (h : xs.Pairwise fun a b => a.1 ≤ b.1) :
    (insertByNumber x xs).Pairwise fun a b => a.1 ≤ b.1 := by
  induction xs with
  | nil => exact List.pairwise_singleton ..
  | cons y ys ih =>
    obtain ⟨first, rest⟩ := List.pairwise_cons.1 h
    unfold insertByNumber
    split
    · next low =>
      refine List.pairwise_cons.2 ⟨fun z mem => ?_, h⟩
      rcases List.mem_cons.1 mem with rfl | mem
      · exact Nat.le_of_lt low
      · exact Nat.le_trans (Nat.le_of_lt low) (first z mem)
    · next high =>
      refine List.pairwise_cons.2 ⟨fun z mem => ?_, ih rest⟩
      rcases mem_insertByNumber.1 mem with rfl | mem
      · exact Nat.le_of_not_lt high
      · exact first z mem

theorem sortByNumber_sorted {α : Type} (xs : List (Nat × α)) : (sortByNumber xs).Pairwise fun a b => a.1 ≤ b.1 := by
  induction xs with
  | nil => exact .nil
  | cons x xs ih => exact insertByNumber_sorted ih

/-! ## The open operations -/

/-- The order number of an operation, where it is open. -/
def State.numberOf? (s : State) : OpenOperation → Option Nat
  | .order p => (s.point p).order.map Order.number
  | .delivery i => (s.inlet i).delivery.map Delivery.number

theorem mem_openOperations {s : State} {x : Nat × OpenOperation} (h : x ∈ s.openOperations) : s.numberOf? x.2 = some x.1 := by
  simp only [State.openOperations, List.mem_append, List.mem_filterMap] at h
  rcases h with ⟨p, -, hp⟩ | ⟨i, -, hi⟩
  · obtain ⟨o, order, rfl⟩ := Option.map_eq_some_iff.1 hp
    simp only [State.numberOf?, order, Option.map_some]
  · obtain ⟨d, delivery, rfl⟩ := Option.map_eq_some_iff.1 hi
    simp only [State.numberOf?, delivery, Option.map_some]

theorem openOperations_nodup (s : State) : (s.openOperations.map Prod.snd).Nodup := by
  rw [State.openOperations, List.map_append, List.map_filterMap, List.map_filterMap]
  have orders : (allPoints.filterMap fun p => ((s.point p).order.map fun o => (o.number, OpenOperation.order p)).map Prod.snd).Nodup := by
    refine List.Nodup.filterMap (fun p q x hp hq => ?_) (show allPoints.Nodup by decide)
    simp only [Option.mem_def, Option.map_map, Option.map_eq_some_iff, Function.comp_apply] at hp hq
    obtain ⟨_, _, rfl⟩ := hp
    obtain ⟨_, _, same⟩ := hq
    exact (OpenOperation.order.inj same).symm
  have deliveries : (allInlets.filterMap fun i => ((s.inlet i).delivery.map fun d => (d.number, OpenOperation.delivery i)).map Prod.snd).Nodup := by
    refine List.Nodup.filterMap (fun i j x hi hj => ?_) (show allInlets.Nodup by decide)
    simp only [Option.mem_def, Option.map_map, Option.map_eq_some_iff, Function.comp_apply] at hi hj
    obtain ⟨_, _, rfl⟩ := hi
    obtain ⟨_, _, same⟩ := hj
    exact (OpenOperation.delivery.inj same).symm
  refine orders.append deliveries fun x order delivery => ?_
  simp only [List.mem_filterMap, Option.map_map, Option.map_eq_some_iff, Function.comp_apply] at order delivery
  obtain ⟨_, -, _, -, rfl⟩ := order
  obtain ⟨_, -, _, -, same⟩ := delivery
  cases same

/-! ## The newest records of the journal -/

theorem foldl_ringAfter (news held : List Record) (few : news.length ≤ 512) : ∃ old, news.foldl ringAfter held = old ++ news := by
  induction news using List.reverseRecOn with
  | nil => exact ⟨held, (List.append_nil _).symm⟩
  | append_singleton news r ih =>
    rw [List.length_append, List.length_singleton] at few
    obtain ⟨old, eq⟩ := ih (by omega)
    rw [List.foldl_append, eq]
    simp only [List.foldl_cons, List.foldl_nil, ringAfter]
    split
    · exact ⟨old, List.append_assoc ..⟩
    · next full =>
      have slots : Config.journalSlots = 512 := rfl
      cases old with
      | nil =>
        rw [slots, List.nil_append] at full
        omega
      | cons first old => exact ⟨old, List.append_assoc ..⟩

theorem drop_append_length {α : Type} (xs ys : List α) : (xs ++ ys).drop ((xs ++ ys).length - ys.length) = ys := by
  rw [List.length_append, Nat.add_sub_cancel, List.drop_left]

end Sys2Proof.Machine

/-! # The records of the operations that a restart closes (R104, R200, step 3) -/

namespace Sys2Proof.Machine

open Sys2Proof

/-- R200: the record of an order interrupted by a restart. -/
def IsInterruptedOrder (p : PointId) (o : Order) (seconds : Nat) (r : DispenseRecord) : Prop :=
  r.number = o.number ∧ r.point = p ∧ r.termination = .interrupted ∧
    r.secondaries = (o.termination.toList ++ o.secondaries).take 3 ∧ r.closeTime = seconds ∧
    r.openTime = o.openTime ∧ r.kind = o.kind ∧ r.product = o.product ∧ r.machine = o.machine ∧ r.hours = o.hours ∧
    r.hourSource = o.hourSource ∧ r.gross = o.gross ∧ r.net = o.net ∧ r.entries = o.entries ∧ r.limit = o.limit ∧
    r.lastTemp = o.lastTemp ∧ r.uncompensated = o.uncompensated ∧ r.manualId = o.manualId ∧
    r.clamped = o.clamped ∧ r.override = o.override ∧ r.overrange = o.overrange

/-- R104, R200: the record of a delivery interrupted by a restart. -/
def IsInterruptedDelivery (i : InletId) (d : Delivery) (seconds : Nat) (r : DeliveryRecord) : Prop :=
  r.number = d.number ∧ r.inlet = i ∧ r.termination = .interrupted ∧
    r.secondaries = (d.termination.toList ++ d.secondaries).take 3 ∧ r.closeTime = seconds ∧
    r.openTime = d.openTime ∧ r.tank = d.tank ∧ r.product = d.product ∧ r.gross = d.gross ∧ r.net = d.net ∧
    r.lastTemp = d.lastTemp ∧ r.reconciliation = .interrupted ∧ r.after = none ∧ r.variance = none ∧
    r.debits = none ∧ r.docketVariance = d.declared.map (fun x => decilitres d.net - x)

/-- R104, R200: the record of an open operation interrupted by a restart. -/
def State.IsInterrupted (s : State) (x : OpenOperation) (r : Record) : Prop :=
  match x with
  | .order p => ∀ o, (s.point p).order = some o → ∃ d, r = .dispense d ∧ IsInterruptedOrder p o s.seconds d
  | .delivery i => ∀ d, (s.inlet i).delivery = some d → ∃ x, r = .delivery x ∧ IsInterruptedDelivery i d s.seconds x

/-- R171: the journal after the records of some operations. -/
def Journal.after (j : Journal) (news : List Record) : Journal :=
  { j with
    held := news.foldl ringAfter j.held, nextPosition := j.nextPosition + news.length
    uncollected := j.uncollected + news.length, openCount := j.openCount - news.length }

section
variable {s : State} {x y : OpenOperation}

/-- What a close of a restart touches. -/
def interruptParts : List Part :=
  [.points, .inlets, .tanks, .draws, .reports, .links, .journal, .table, .deferred]

theorem interrupt_moves (x : OpenOperation) (s : State) : Moves interruptParts restartHoles s (interrupt x s) := by
  cases x with
  | order p => exact (interruptOrder_frame p s).mono (by decide)
  | delivery i => exact ((interruptDelivery_moves i s).weaken _).mono (by decide)

theorem forEach_interrupt_moves (xs : List OpenOperation) (s : State) :
    Moves interruptParts restartHoles s (forEach xs interrupt s) := .forEach xs interrupt (fun x _ s => interrupt_moves x s) s

/-! ## One operation closed -/

theorem interrupt_order (x : OpenOperation) (p : PointId) (s : State) :
    ((interrupt x s).point p).order = if x = .order p then none else (s.point p).order := by
  cases x with
  | order q =>
    rw [interrupt, interruptOrder_point]
    by_cases same : q = p
    · rw [if_pos same, if_pos (by rw [same])]
    · rw [if_neg same, if_neg fun h => same (OpenOperation.order.inj h)]
  | delivery i => rw [interrupt, interruptDelivery_point, if_neg nofun]

theorem interrupt_delivery (x : OpenOperation) (i : InletId) (s : State) :
    ((interrupt x s).inlet i).delivery = if x = .delivery i then none else (s.inlet i).delivery := by
  cases x with
  | order p => rw [interrupt, interruptOrder_inlet, if_neg nofun]
  | delivery j =>
    rw [interrupt, interruptDelivery_inlet]
    by_cases same : j = i
    · subst same
      rw [if_pos rfl, if_pos rfl]
      cases delivery : (s.inlet j).delivery with
      | none => exact delivery
      | some d => rfl
    · rw [if_neg same, if_neg fun h => same (OpenOperation.delivery.inj h)]

theorem interrupt_numberOf? (ne : y ≠ x) : (interrupt x s).numberOf? y = s.numberOf? y := by
  cases y with
  | order p => simp only [State.numberOf?, interrupt_order, if_neg ne.symm]
  | delivery i => simp only [State.numberOf?, interrupt_delivery, if_neg ne.symm]

theorem interrupt_isInterrupted (ne : y ≠ x) {r : Record} : (interrupt x s).IsInterrupted y r ↔ s.IsInterrupted y r := by
  have seconds : (interrupt x s).seconds = s.seconds := by
    rw [State.seconds, show (interrupt x s).clock = s.clock from (interrupt_moves x s).same .clock]
    rfl
  cases y with
  | order p => simp only [State.IsInterrupted, interrupt_order, if_neg ne.symm, seconds]
  | delivery i => simp only [State.IsInterrupted, interrupt_delivery, if_neg ne.symm, seconds]

/-- R171, R200: the journal once one operation has been closed. -/
theorem interrupt_journal (opened : s.opened x = true) : ∃ r : Record, (interrupt x s).journal = s.journal.after [r] ∧
    s.numberOf? x = some r.number ∧ s.IsInterrupted x r := by
  cases x with
  | order p =>
    obtain ⟨o, order⟩ := Option.isSome_iff_exists.1 opened
    refine ⟨dispenseRecord p o.interrupted .interrupted (s.assess o.interrupted) s.seconds s.journal.nextPosition, ?_,
      by simp only [State.numberOf?, order]; rfl, fun o' same => ?_⟩
    · rw [interrupt, interruptOrder_some order]
      exact recordOrder_journal ..
    · cases order.symm.trans same
      exact ⟨_, rfl, rfl, rfl, rfl, rfl, rfl, rfl, rfl, rfl, rfl, rfl, rfl, rfl, rfl, rfl, rfl, rfl, rfl, rfl, rfl, rfl, rfl⟩
  | delivery i =>
    obtain ⟨d, delivery⟩ := Option.isSome_iff_exists.1 opened
    refine ⟨.delivery (deliveryRecord i d.interrupted .interrupted (notReconciled .interrupted) s.seconds s.journal.nextPosition), ?_,
      by simp only [State.numberOf?, delivery]; rfl, fun d' same => ?_⟩
    · exact interruptDelivery_journal delivery
    · cases delivery.symm.trans same
      exact ⟨_, rfl, rfl, rfl, rfl, rfl, rfl, rfl, rfl, rfl, rfl, rfl, rfl, rfl, rfl, rfl, rfl, rfl⟩

/-! ## Some operations closed -/

theorem forEach_interrupt_order (xs : List OpenOperation) (p : PointId) (s : State) :
    ((forEach xs interrupt s).point p).order = if .order p ∈ xs then none else (s.point p).order := by
  induction xs generalizing s with
  | nil => rfl
  | cons x xs ih =>
    refine (ih (interrupt x s)).trans ?_
    rw [interrupt_order]
    by_cases first : x = .order p
    · rw [if_pos first, ite_self, if_pos (by rw [first]; exact List.mem_cons_self)]
    · rw [if_neg first]
      exact if_congr (List.mem_cons.trans (or_iff_right (Ne.symm first))).symm rfl rfl

theorem forEach_interrupt_delivery (xs : List OpenOperation) (i : InletId) (s : State) :
    ((forEach xs interrupt s).inlet i).delivery = if .delivery i ∈ xs then none else (s.inlet i).delivery := by
  induction xs generalizing s with
  | nil => rfl
  | cons x xs ih =>
    refine (ih (interrupt x s)).trans ?_
    rw [interrupt_delivery]
    by_cases first : x = .delivery i
    · rw [if_pos first, ite_self, if_pos (by rw [first]; exact List.mem_cons_self)]
    · rw [if_neg first]
      exact if_congr (List.mem_cons.trans (or_iff_right (Ne.symm first))).symm rfl rfl

/-- R171, R200: the journal once some operations have been closed. -/
theorem forEach_interrupt_journal {xs : List OpenOperation} (distinct : xs.Nodup) (opened : ∀ x ∈ xs, s.opened x = true) :
    ∃ news : List Record, (forEach xs interrupt s).journal = s.journal.after news ∧ news.length = xs.length ∧
      (news.map fun r => some r.number) = xs.map s.numberOf? ∧ ∀ x ∈ xs, ∃ r ∈ news, s.IsInterrupted x r := by
  induction xs generalizing s with
  | nil => exact ⟨[], rfl, rfl, rfl, nofun⟩
  | cons x xs ih =>
    obtain ⟨fresh, distinct⟩ := List.nodup_cons.1 distinct
    have other {y : OpenOperation} (mem : y ∈ xs) : y ≠ x := ne_of_mem_of_not_mem mem fresh
    obtain ⟨r, first, number, is⟩ := interrupt_journal (opened x List.mem_cons_self)
    obtain ⟨news, journal, length, numbers, are⟩ := ih (s := interrupt x s) distinct fun y mem => by
      rw [interrupt_opened, opened y (List.mem_cons_of_mem x mem), Bool.and_true]
      exact decide_eq_true (other mem)
    refine ⟨r :: news, ?_, congrArg (· + 1) length, ?_, fun y mem => ?_⟩
    · refine journal.trans ?_
      rw [first]
      simp only [Journal.after, List.length_cons, List.length_nil, List.foldl_cons, List.foldl_nil]
      exact (Journal.mk.injEq ..).mpr ⟨rfl, by omega, rfl, by omega, by omega, rfl⟩
    · rw [List.map_cons, List.map_cons, number, numbers]
      exact congrArg (_ :: ·) (List.map_congr_left fun y mem => interrupt_numberOf? (other mem))
    · rcases List.mem_cons.1 mem with rfl | mem
      · exact ⟨r, List.mem_cons_self, is⟩
      · obtain ⟨r', held, are'⟩ := are y mem
        exact ⟨r', List.mem_cons_of_mem r held, (interrupt_isInterrupted (other mem)).1 are'⟩

end

end Sys2Proof.Machine

/-! # The accounts at a restart (R116, R126, R127, R200) -/

namespace Sys2Proof.Machine

open Sys2Proof

section
variable {s : State} {o : Order} {machine : Nat} {a : Account} (netDl : Nat) (cause : Cause) (ok : Option Bool)

/-! ## The close-time updates of one order -/

/-- R116: the close of an order changes no account but its own. -/
theorem closeUpdates_account_ne {n : Nat} (apart : o.machine ≠ some n) : (closeUpdates o netDl cause ok s).account n = s.account n := by
  rcases closeUpdates_cases o netDl cause ok s with same | ⟨machine, a, names, found, stands⟩
  · rw [same]
  · have ne : n ≠ machine := fun e => apart (by rw [names, e])
    rw [closeUpdates_stands netDl cause ok names found (by simpa using stands)]
    set b := s.accountClosed o netDl cause ok a
    have posted (ns : List Notice) (v : State) : (postAll ns v).account n = v.account n := by simp only [State.account, postAll_accounts]
    have updated : (s.updAccount machine fun _ => b).account n = s.account n := by rw [account_updAccount, if_neg ne]
    have own : (s.updAccount machine fun _ => b).account machine = some (a.numberedAs b) := by
      rw [account_updAccount, if_pos rfl, found]
      rfl
    rw [posted]
    split
    · rw [(applyDeferred_eq own).2, if_neg ne, updated]
    · exact updated

/-- R127: the close of an order leaves no deferred change but those there were. -/
theorem closeUpdates_deferred (o : Order) (s : State) : ∀ e ∈ (closeUpdates o netDl cause ok s).accounts.deferred, e ∈ s.accounts.deferred := by
  rcases closeUpdates_cases o netDl cause ok s with same | ⟨machine, a, names, found, stands⟩
  · rw [same]
    exact fun _ mem => mem
  · rw [closeUpdates_stands netDl cause ok names found (by simpa using stands), postAll_accounts]
    split
    · rw [applyDeferred_accounts]
      exact fun e mem => (List.mem_filter.1 mem).1
    · exact fun _ mem => mem

/-- R116, R117, R127: the account of a FUEL order, the only one open for it, with no change deferred. -/
theorem closeUpdates_fuel (names : o.machine = some machine) (found : s.account machine = some a) (fuel : o.kind = .fuel)
    (alone : a.openSet = [o.number]) (calm : ∀ e ∈ s.accounts.deferred, e.machine ≠ machine) :
    ∃ b, (closeUpdates o netDl cause ok s).account machine = some b ∧ b.openSet = [] ∧
      b.shiftUsed = min 9999999 (a.shiftUsed + netDl) := by
  set b := s.accountClosed o netDl cause ok a with hb
  have emptied : b.openSet = [] := by
    rw [hb, accountClosed_eq, alone]
    simp
  have used : b.shiftUsed = min 9999999 (a.shiftUsed + netDl) := by
    rw [hb, accountClosed_eq, updateAtClose_rest]
    dsimp only
    rw [accountCharged_fuel fuel, fullToFull_rest]
    dsimp only
    rw [addFuel, readingTaken_rest]
    rfl
  have numbered : a.numberedAs b = b := numberedAs_same (accountClosed_machine s o netDl cause ok a)
  refine ⟨b, ?_, emptied, used⟩
  set u := s.updAccount machine fun _ => b with hu
  have own : u.account machine = some b := by
    rw [hu, account_updAccount, if_pos rfl, found]
    exact congrArg some numbered
  have nothing : (u.accounts.deferred.filter fun e => e.machine = machine) = [] :=
    List.filter_eq_nil_iff.2 fun e mem => by simpa using calm e mem
  rw [closeUpdates_stands netDl cause ok names found (by rw [alone]; exact List.mem_singleton_self _), ← hb, emptied]
  simp only [List.isEmpty_nil, if_true, State.account, postAll_accounts]
  refine ((applyDeferred_eq own).2 machine).trans ?_
  rw [if_pos rfl, nothing]
  exact congrArg some (numberedAs_same rfl)

end

section
variable {s : State} {x : OpenOperation} {machine : Nat} {a : Account} {o : Order} {p : PointId}

/-! ## One operation closed by a restart -/

theorem interruptOrder_accounts (order : (s.point p).order = some o) : (interruptOrder p s).accounts =
    (closeUpdates o.interrupted (decilitres o.net).toNat .interrupted (s.assess o.interrupted) s).accounts := by
  rw [interruptOrder_some order, State.updPoint_accounts]
  unfold recordOrder
  dsimp only
  refine closeUpdates_congr _ _ _ ?_ ?_ _
  · rw [State.post_accounts]
    rfl
  · rw [State.post_clock]
    rfl

theorem account_of_accounts {s t : State} (h : t.accounts = s.accounts) : t.account = s.account := by
  funext n
  simp only [State.account, h]

theorem interrupt_account_ne (apart : ∀ p, ∀ o ∈ (s.point p).order, o.machine ≠ some machine) (x : OpenOperation) :
    (interrupt x s).account machine = s.account machine := by
  cases x with
  | delivery i => rw [interrupt, account_of_accounts (interruptDelivery_moves i s).accounts]
  | order p =>
    cases order : (s.point p).order with
    | none => rw [interrupt, interruptOrder_none order]
    | some o =>
      rw [interrupt, account_of_accounts (interruptOrder_accounts order)]
      exact closeUpdates_account_ne _ _ _ (apart p o order)

theorem interrupt_deferred (x : OpenOperation) (s : State) : ∀ e ∈ (interrupt x s).accounts.deferred, e ∈ s.accounts.deferred := by
  cases x with
  | delivery i =>
    rw [interrupt, (interruptDelivery_moves i s).accounts]
    exact fun _ mem => mem
  | order p =>
    cases order : (s.point p).order with
    | none =>
      rw [interrupt, interruptOrder_none order]
      exact fun _ mem => mem
    | some o =>
      rw [interrupt, interruptOrder_accounts order]
      exact closeUpdates_deferred _ _ _ _ s

/-- R200: a close of a restart opens no order. -/
theorem mem_interrupt_order (x : OpenOperation) {p : PointId} (order : o ∈ ((interrupt x s).point p).order) : o ∈ (s.point p).order := by
  rw [interrupt_order] at order
  split at order
  · cases order
  · exact order

/-! ## Some operations closed -/

theorem forEach_interrupt_account_ne (apart : ∀ p, ∀ o ∈ (s.point p).order, o.machine ≠ some machine) (xs : List OpenOperation) :
    (forEach xs interrupt s).account machine = s.account machine := by
  induction xs generalizing s with
  | nil => rfl
  | cons x xs ih =>
    refine (ih (s := interrupt x s) fun p o order => apart p o (mem_interrupt_order x order)).trans ?_
    exact interrupt_account_ne apart x

/-- R116, R117, R200: the account of a FUEL order, the only one open for it, that a restart closes. -/
theorem forEach_interrupt_account {xs : List OpenOperation} (closes : .order p ∈ xs) (order : (s.point p).order = some o)
    (names : o.machine = some machine) (found : s.account machine = some a) (fuel : o.kind = .fuel) (alone : a.openSet = [o.number])
    (calm : ∀ e ∈ s.accounts.deferred, e.machine ≠ machine)
    (apart : ∀ q, q ≠ p → ∀ x ∈ (s.point q).order, x.machine ≠ some machine) :
    ∃ b, (forEach xs interrupt s).account machine = some b ∧ b.openSet = [] ∧
      b.shiftUsed = min 9999999 (a.shiftUsed + (o.net + 50000) / 100000) := by
  induction xs generalizing s with
  | nil => cases closes
  | cons x xs ih =>
    by_cases own : x = .order p
    · obtain ⟨b, account, emptied, used⟩ := closeUpdates_fuel (s := s) (o := o.interrupted) (decilitres o.net).toNat .interrupted
        (s.assess o.interrupted) names found fuel alone calm
      refine ⟨b, ?_, emptied, by rw [used, decilitres_toNat]⟩
      rw [← account, ← account_of_accounts (interruptOrder_accounts order)]
      subst own
      refine forEach_interrupt_account_ne (s := interruptOrder p s) (fun q x held => ?_) xs
      rw [interruptOrder_point] at held
      split at held
      · cases held
      · next ne => exact apart q (Ne.symm ne) x held
    · refine ih (s := interrupt x s) ((List.mem_cons.1 closes).resolve_left (Ne.symm own)) ?_ ?_
        (fun e mem => calm e (interrupt_deferred x s e mem)) fun q ne y held => apart q ne y (mem_interrupt_order x held)
      · rw [interrupt_order, if_neg own, order]
      · rw [← found]
        cases x with
        | delivery i => rw [interrupt, account_of_accounts (interruptDelivery_moves i s).accounts]
        | order q =>
          have ne : q ≠ p := fun e => own (by rw [e])
          cases order' : (s.point q).order with
          | none => rw [interrupt, interruptOrder_none order']
          | some o' =>
            rw [interrupt, account_of_accounts (interruptOrder_accounts order')]
            exact closeUpdates_account_ne _ _ _ (apart q ne o' order')

/-! ## The missed shift start (R126, R200, step 2) -/

theorem account_shiftChange (s : State) (n : Nat) :
    (shiftChange s).account n = (s.account n).map fun a => { a with shiftUsed := 0 } := by
  rw [State.account, shiftChange, List.find?_map]
  rfl

/-- R126, R200: what the missed shift start leaves of an account. -/
theorem restartShift_account (s : State) (n : Nat) : (restartShift s).account n =
    (s.account n).map fun a => { a with shiftUsed := if s.bay.nextShift ≤ s.calendar then 0 else a.shiftUsed } := by
  by_cases reached : s.bay.nextShift ≤ s.calendar
  · simp only [restartShift_reached reached, if_pos reached]
    exact account_shiftChange s n
  · simp only [restartShift_ahead (Nat.lt_of_not_le reached), if_neg reached]
    exact Option.map_id'.symm

end

end Sys2Proof.Machine

/-! # The end of the restart sequence, whole or cut (R200, R202) -/

namespace Sys2Proof.Machine

open Sys2Proof

/-- What the end of the restart sequence leaves of the state once its operations are closed. -/
structure State.Ended (s t : State) : Prop where
  clock : t.clock = s.clock
  store : t.store = s.store
  mode : t.bay.mode = s.bay.mode
  curtailed : t.bay.curtailed = s.bay.curtailed
  offset : t.bay.offset = s.bay.offset
  clockSet : t.bay.clockSet = s.bay.clockSet
  nextShift : t.bay.nextShift = s.bay.nextShift
  orders : ∀ p, (t.point p).order = (s.point p).order
  deliveries : ∀ i, (t.inlet i).delivery = (s.inlet i).delivery
  journal : t.journal = s.journal
  accounts : t.accounts = s.accounts
  tanks : t.stock.tanks = s.stock.tanks
  units : ∀ r : State, r.AtRestart s → r.AtRestart t

section
variable {s t u : State}

theorem State.Ended.trans (h : s.Ended t) (h' : t.Ended u) : s.Ended u where
  clock := h'.clock.trans h.clock
  store := h'.store.trans h.store
  mode := h'.mode.trans h.mode
  curtailed := h'.curtailed.trans h.curtailed
  offset := h'.offset.trans h.offset
  clockSet := h'.clockSet.trans h.clockSet
  nextShift := h'.nextShift.trans h.nextShift
  orders p := (h'.orders p).trans (h.orders p)
  deliveries i := (h'.deliveries i).trans (h.deliveries i)
  journal := h'.journal.trans h.journal
  accounts := h'.accounts.trans h.accounts
  tanks := h'.tanks.trans h.tanks
  units r rests := h'.units r (h.units r rests)

/-- R167, R200, step 4. -/
theorem startShutdown_ended (empty : s.Empty) : s.Ended (startShutdown s) := by
  obtain ⟨moves, -⟩ := startShutdown_empty empty
  have bay := moves.bay
  exact ⟨moves.same .clock, moves.store, by rw [bay], by rw [bay], by rw [bay], by rw [bay], by rw [bay],
    fun p => by rw [point_of_points (moves.same .points)], fun i => by rw [inlet_of_inlets (moves.same .inlets)],
    moves.same .journal, moves.accounts, moves.same .tanks, fun r rests => rests.keeps (startShutdown_keeps empty)⟩

/-! ## The record of the restart (R202) -/

/-- R202: the restart cause record. -/
def State.restartRecord (s : State) (cause : RestartCause) (check : MemoryCheck) (n : Nat) (link : Option Link) : RestartRecord :=
  ⟨cause, check.imageValid, check.settingsValid, n, s.seconds, s.calendar, link⟩

section
variable (cause : RestartCause) (check : MemoryCheck) (n : Nat) (link : Option Link)

theorem recordRestart_bay (s : State) :
    (recordRestart cause check n link s).bay = { s.bay with restart := s.restartRecord cause check n link } := by
  have posts (u : State) : Moves [.links] ∅ u
      (forEach allLinks (fun l => State.postTo l (.restarted (s.restartRecord cause check n link))) u) :=
    .forEach _ _ (fun l _ u => postTo_moves l _ u) u
  exact (posts _).bay

theorem recordRestart_noticed (s : State) : s.Noticed (recordRestart cause check n link s) :=
  (State.Noticed.forEach (fun l u => postTo_noticed l (.restarted (s.restartRecord cause check n link)) u) allLinks
    { s with bay := { s.bay with restart := s.restartRecord cause check n link } }).once rfl

theorem recordRestart_ended (s : State) : s.Ended (recordRestart cause check n link s) := by
  have moves := recordRestart_moves cause check n link s
  have bay := recordRestart_bay cause check n link s
  have keeps : s.KeepsUnits (recordRestart cause check n link s) :=
    ⟨moves.store, fun p => by rw [point_of_points (moves.same .points)], fun i => .inl (by rw [inlet_of_inlets (moves.same .inlets)]),
      .inl (moves.same .pumps), recordRestart_noticed cause check n link s, congrArg AccountUnit.cursors moves.accounts,
      fun k => by rw [tank_of_same (moves.same .tanks)]⟩
  exact ⟨moves.same .clock, moves.store, by rw [bay], by rw [bay], by rw [bay], by rw [bay], by rw [bay],
    fun p => by rw [point_of_points (moves.same .points)], fun i => by rw [inlet_of_inlets (moves.same .inlets)],
    moves.same .journal, moves.accounts, moves.same .tanks, fun r rests => rests.keeps keeps⟩

/-- R189, R202: RESTARTED waits last in the queue of every link that had room. -/
theorem recordRestart_queue (l : Link) (room : ((recordRestart cause check n link s).link l).overflow = false) :
    ((recordRestart cause check n link s).link l).queue.getLast? = some ⟨.restarted (s.restartRecord cause check n link), s.seconds⟩ := by
  obtain ⟨as, bs, before, after, round⟩ := forEach_round (show allLinks.Nodup by decide) (mem_allLinks l)
    fun m => State.postTo m (.restarted (s.restartRecord cause check n link))
  have others {ms : List Link} (out : l ∉ ms) (u : State) :
      (forEach ms (fun m => State.postTo m (.restarted (s.restartRecord cause check n link))) u).link l = u.link l :=
    forEach_induction (P := fun v => v.link l = u.link l)
      (fun m mem v hv => by rw [State.postTo, link_updLink, if_neg (ne_of_mem_of_not_mem mem out), hv]) rfl
  have seconds {ms : List Link} (u : State) :
      (forEach ms (fun m => State.postTo m (.restarted (s.restartRecord cause check n link))) u).seconds = u.seconds := by
    have moves : Moves [.links] ∅ u (forEach ms (fun m => State.postTo m (.restarted (s.restartRecord cause check n link))) u) :=
      .forEach ms _ (fun m _ v => postTo_moves m _ v) u
    rw [State.seconds, State.seconds, show _ = u.clock from moves.same .clock]
  have whole : recordRestart cause check n link s = forEach allLinks
      (fun m => State.postTo m (.restarted (s.restartRecord cause check n link)))
      { s with bay := { s.bay with restart := s.restartRecord cause check n link } } := rfl
  rw [whole, round, others after, State.postTo, link_updLink, if_pos rfl, others before, seconds] at room ⊢
  unfold LinkUnit.enqueue at room ⊢
  split at room
  · next space =>
    rw [if_pos space]
    exact List.getLast?_concat ..
  · cases room

end

/-! ## A sequence cut (R199, R200) -/

theorem stopController_ended (s : State) : s.Ended (stopController s) where
  clock := rfl
  store := rfl
  mode := rfl
  curtailed := rfl
  offset := rfl
  clockSet := rfl
  nextShift := rfl
  orders p := by rw [stopController_point]
  deliveries i := by rw [stopController_inlet]
  journal := rfl
  accounts := rfl
  tanks := rfl
  units r rests := by
    refine ⟨fun p => ?_, fun i => ?_, fun m => ?_, rests.queue, fun l => ?_, rests.cursors, rests.tanks⟩
    · obtain ⟨-, -, receiver, state⟩ := rests.points p
      rw [stopController_point]
      exact ⟨rfl, rfl, receiver, state⟩
    · obtain ⟨state, -, -, coupled⟩ := rests.inlets i
      rw [stopController_inlet]
      exact ⟨state, rfl, rfl, coupled⟩
    · obtain ⟨state, claims, -, fault⟩ := rests.pumps m
      rw [stopController_pump]
      exact ⟨state, claims, rfl, fault⟩
    · obtain ⟨rate, running, result, -, -⟩ := rests.links l
      rw [stopController_link]
      exact ⟨rate, running, result, rfl, rfl⟩

end

end Sys2Proof.Machine

/-! # How far the restart sequence comes (R200) -/

namespace Sys2Proof.Machine

open Sys2Proof

/-! ## The events before the shutdown unit starts -/

/-- R200: the operations that the sequence closes before the supply fails again. -/
def State.closeList (s : State) (check : MemoryCheck) : List OpenOperation :=
  match check.cutAfter with
  | none => s.toClose
  | some n => s.toClose.take (n - 1)

/-- R126, R200, step 2: a shift start that has been reached is taken before the supply fails again. -/
abbrev State.shiftTaken (s : State) (check : MemoryCheck) : Prop := check.cutAfter ≠ some 0 ∧ s.bay.nextShift ≤ s.calendar

/-- R200, step 2, as far as the sequence comes. -/
def State.shiftedBy (s : State) (check : MemoryCheck) : State := if check.cutAfter = some 0 then s else restartShift s

/-- R200, steps 2 and 3, as far as the sequence comes. -/
def State.closedBy (s : State) (check : MemoryCheck) : State := forEach (s.closeList check) interrupt (s.shiftedBy check)

section
variable {r s t : State} {check : MemoryCheck}

theorem closeList_sublist (s : State) (check : MemoryCheck) : (s.closeList check).Sublist s.toClose := by
  unfold State.closeList
  split
  · exact .refl _
  · exact List.take_sublist ..

theorem shiftedBy_moves (check : MemoryCheck) (s : State) : Moves [.bayRest, .table, .accountsRest] ∅ s (s.shiftedBy check) := by
  unfold State.shiftedBy
  split
  · exact .refl ..
  · exact restartShift_moves s

theorem shiftedBy_keeps (check : MemoryCheck) (s : State) : s.KeepsUnits (s.shiftedBy check) := by
  unfold State.shiftedBy
  split
  · exact ⟨rfl, fun _ => rfl, fun _ => .inl rfl, .inl rfl, .of_links rfl, rfl, fun _ => rfl⟩
  · exact restartShift_keeps s

theorem shiftedBy_bay (check : MemoryCheck) (s : State) : (s.shiftedBy check).bay = { s.bay with
    nextShift := if s.shiftTaken check then nextShiftStart s.calendar s.store.shifts else s.bay.nextShift } := by
  unfold State.shiftedBy
  split
  · next cut => rw [if_neg fun h => h.1 cut]
  · next on =>
    by_cases reached : s.bay.nextShift ≤ s.calendar
    · rw [if_pos ⟨on, reached⟩, restartShift_reached reached]
      rfl
    · rw [if_neg fun h => reached h.2, restartShift_ahead (Nat.lt_of_not_le reached)]

theorem shiftedBy_lastShiftChange (check : MemoryCheck) (s : State) : (s.shiftedBy check).accounts.lastShiftChange =
    if s.shiftTaken check then s.seconds else s.accounts.lastShiftChange := by
  unfold State.shiftedBy
  split
  · next cut => rw [if_neg fun h => h.1 cut]
  · next on =>
    by_cases reached : s.bay.nextShift ≤ s.calendar
    · rw [if_pos ⟨on, reached⟩, restartShift_reached reached]
      rfl
    · rw [if_neg fun h => reached h.2, restartShift_ahead (Nat.lt_of_not_le reached)]

theorem shiftedBy_account (check : MemoryCheck) (s : State) (n : Nat) : (s.shiftedBy check).account n =
    (s.account n).map fun a => { a with shiftUsed := if s.shiftTaken check then 0 else a.shiftUsed } := by
  unfold State.shiftedBy
  split
  · next cut =>
    simp only [if_neg fun h : s.shiftTaken check => h.1 cut]
    exact Option.map_id'.symm
  · next on => simpa only [State.shiftTaken, ne_eq, on, not_false_eq_true, true_and] using restartShift_account s n

theorem interrupt_keeps (x : OpenOperation) (rests : r.AtRestart s) : s.KeepsUnits (interrupt x s) := by
  cases x with
  | order p => exact interruptOrder_keeps p s
  | delivery i => exact interruptDelivery_keeps i fun l => (rests.links l).2.1

theorem closedBy_atRestart (check : MemoryCheck) (rests : r.AtRestart s) : r.AtRestart (s.closedBy check) :=
  forEach_induction (P := r.AtRestart) (fun x _ _ h => h.keeps (interrupt_keeps x h)) (rests.keeps (shiftedBy_keeps check s))

/-- What steps 2 and 3 touch. -/
def closedParts : List Part := [.bayRest, .accountsRest] ++ interruptParts

theorem closedBy_moves (check : MemoryCheck) (s : State) : Moves closedParts restartHoles s (s.closedBy check) :=
  (((shiftedBy_moves check s).weaken _).andThen (forEach_interrupt_moves (s.closeList check) (s.shiftedBy check))).mono (by decide)

theorem closedBy_bay (check : MemoryCheck) (s : State) : (s.closedBy check).bay = { s.bay with
    nextShift := if s.shiftTaken check then nextShiftStart s.calendar s.store.shifts else s.bay.nextShift } :=
  (forEach_interrupt_moves (s.closeList check) (s.shiftedBy check)).bay.trans (shiftedBy_bay check s)

/-! ## The whole sequence, or a part of it -/

/-- R200: the end of a restart sequence: whole, with its record; cut before the shutdown unit starts; or cut after it, which
takes more than so many events. -/
inductive State.Ends (s : State) (cause : RestartCause) (check : MemoryCheck) (n : Nat) (link : Option Link) (before : Nat) : State → Prop where
  | whole (kept : check.cutAfter = none) (empty : s.Empty) :
    State.Ends s cause check n link before (recordRestart cause check n link (startShutdown s))
  | cut (k : Nat) (cut : check.cutAfter = some k) : State.Ends s cause check n link before (stopController s)
  | cutLast (k : Nat) (cut : check.cutAfter = some k) (empty : s.Empty) (late : before < k) :
    State.Ends s cause check n link before (stopController (startShutdown s))

/-- R200: a sequence that is not cut before the shutdown unit starts closes every operation. -/
theorem closedBy_interrupted (on : check.cutAfter ≠ some 0) (all : s.closeList check = s.toClose) : s.closedBy check = s.interrupted := by
  rw [State.closedBy, State.shiftedBy, if_neg on, all]
  rfl

/-- R200: the sequence from the restart states of the blocks. -/
theorem runSequence_ends (rested : s.Rested) (cause : RestartCause) (check : MemoryCheck) (n : Nat) (link : Option Link) :
    (s.closedBy check).Ends cause check n link (s.toClose.length + 1) (runSequence s.sequence cause check n link s) := by
  cases cut : check.cutAfter with
  | none =>
    have all : s.closedBy check = s.interrupted := closedBy_interrupted (by rw [cut]; nofun) (by rw [State.closeList, cut])
    rw [runSequence_whole _ _ _ _ _ _ cut, forEach_sequence, all]
    exact .whole cut (interrupted_empty rested)
  | some k =>
    rw [runSequence_cut _ _ _ _ _ _ _ cut, sequence_eq]
    cases k with
    | zero =>
      have none : s.closedBy check = s := by simp [State.closedBy, State.closeList, State.shiftedBy, cut, forEach]
      rw [none]
      exact .cut 0 cut
    | succ m =>
      have on : check.cutAfter ≠ some 0 := by rw [cut]; nofun
      have closes : s.closeList check = s.toClose.take m := by rw [State.closeList, cut]; rfl
      rcases Nat.lt_or_ge s.toClose.length m with late | early
      · have all : s.closedBy check = s.interrupted := closedBy_interrupted on (by rw [closes, List.take_of_length_le (Nat.le_of_lt late)])
        rw [List.take_of_length_le (by simp; omega), ← sequence_eq, forEach_sequence, all]
        exact .cutLast (m + 1) cut (interrupted_empty rested) (Nat.succ_lt_succ late)
      · have taken : (SequenceStep.shift :: (s.toClose.map SequenceStep.close ++ [.shutdown])).take (m + 1) =
            .shift :: (s.toClose.take m).map .close := by
          rw [List.take_succ_cons, List.take_append_of_le_length (by simpa using early), List.map_take]
        have part : forEach (.shift :: (s.toClose.take m).map .close) sequenceStep s = s.closedBy check := by
          rw [State.closedBy, State.shiftedBy, if_neg on, closes]
          exact forEach_map ..
        rw [taken, part]
        exact .cut (m + 1) cut

section
variable {cause : RestartCause} {n before : Nat} {link : Option Link}

theorem State.Ends.ended (ends : s.Ends cause check n link before t) : s.Ended t := by
  cases ends with
  | whole kept empty => exact (startShutdown_ended empty).trans (recordRestart_ended cause check n link _)
  | cut k cut => exact stopController_ended s
  | cutLast k cut empty late => exact (startShutdown_ended empty).trans (stopController_ended _)

end

end

end Sys2Proof.Machine

/-! # The start and the end of a restart with a valid image (R200) -/

namespace Sys2Proof.Machine

open Sys2Proof

section
variable {s t : State} {cause : RestartCause} {check : MemoryCheck} {n before : Nat} {link : Option Link}

/-! ## The end of the sequence -/

/-- R167, R202: what a restart whose sequence is not cut leaves, `s` the state before the shutdown unit starts. -/
structure State.Restarted (s : State) (cause : RestartCause) (check : MemoryCheck) (n : Nat) (link : Option Link) (t : State) : Prop where
  stopped : t.bay.stopped = s.bay.stopped
  record : t.bay.restart = t.restartRecord cause check n link
  posted : ∀ l, (t.link l).overflow = false → (t.link l).queue.getLast? = some ⟨.restarted t.bay.restart, t.seconds⟩
  inputs : s.InputsStarted t

theorem recordRestart_restarted (empty : s.Empty) : s.Restarted cause check n link (recordRestart cause check n link (startShutdown s)) := by
  obtain ⟨moves, -, -, started⟩ := startShutdown_empty empty
  have recorded := recordRestart_moves cause check n link (startShutdown s)
  have bay := recordRestart_bay cause check n link (startShutdown s)
  have clock : (recordRestart cause check n link (startShutdown s)).clock = (startShutdown s).clock := recorded.same .clock
  have seconds : (recordRestart cause check n link (startShutdown s)).seconds = (startShutdown s).seconds := by
    rw [State.seconds, clock, State.seconds]
  have calendar : (recordRestart cause check n link (startShutdown s)).calendar = (startShutdown s).calendar := by
    rw [State.calendar, seconds, bay, State.calendar]
  have same : (startShutdown s).SameInputs (recordRestart cause check n link (startShutdown s)) := .of_moves recorded
  refine ⟨recorded.stopped.trans moves.stopped, ?_, fun l room => ?_,
    fun x => (congrFun same.bypass x).trans (started.bypass x), fun x => (congrFun same.debounced x).trans (started.debounced x),
    same.estop.trans started.estop⟩
  · rw [bay, State.restartRecord, State.restartRecord, seconds, calendar]
  · rw [recordRestart_queue cause check n link l room, bay, seconds]

theorem State.Ends.restarted (ends : s.Ends cause check n link before t) (kept : check.cutAfter = none) :
    s.Restarted cause check n link t := by
  cases ends with
  | whole kept empty => exact recordRestart_restarted empty
  | cut k cut => rw [kept] at cut; cases cut
  | cutLast k cut empty late => rw [kept] at cut; cases cut

/-- R199, R200: what a restart leaves whose sequence was cut. -/
theorem State.Ends.cut_short (ends : s.Ends cause check n link before t) {k : Nat} (short : check.cutAfter = some k) :
    t.bay.stopped = true ∧ (∀ l, (t.link l).notice = false) ∧ t.bay.restart = s.bay.restart ∧ (k ≤ before → t.shutdown = s.shutdown) := by
  have released (u : State) (l : Link) : ((stopController u).link l).notice = false := by rw [stopController_link]
  cases ends with
  | whole kept empty => rw [kept] at short; cases short
  | cut k' cut => exact ⟨rfl, released s, rfl, fun _ => rfl⟩
  | cutLast k' cut empty late =>
    cases cut.symm.trans short
    have bay : (startShutdown s).bay = s.bay := (startShutdown_empty empty).1.bay
    exact ⟨rfl, released _, show (startShutdown s).bay.restart = _ by rw [bay], fun early => absurd late (Nat.not_lt.2 early)⟩

/-! ## The restart states of the blocks -/

theorem restartBlocks_parts (check : MemoryCheck) (s : State) :
    Moves (restartParts ++ stockParts) (restartHoles ∪ drawLaws) s (restartBlocks check s) :=
  ((restartUnits_moves s).mend _ fun _ hx hn _ => absurd (.inl hx) hn).andThen (restartBlocks_frame check s)

/-- R200, step 1: LOCKED stays LOCKED; every other mode becomes OPEN. -/
theorem restartBlocks_bay (check : MemoryCheck) (s : State) :
    (restartBlocks check s).bay = { s.bay with mode := if s.bay.mode = .standby then .open else s.bay.mode } := by
  have units : (restartUnits s).bay = { s.bay with mode := if s.bay.mode = .standby then .open else s.bay.mode } := by
    rw [restartUnits]
    have bay : (restartLinks (restartCursors (restartStock (restartInlets (restartPumps (restartPoints s)))))).bay = s.bay :=
      (restartLinks_moves _).bay.trans ((restartCursors_moves _).bay.trans ((restartStock_moves _).bay.trans
        ((restartInlets_moves _).bay.trans ((restartPumps_moves _).bay.trans (restartPoints_moves s).bay))))
    generalize restartLinks (restartCursors (restartStock (restartInlets (restartPumps (restartPoints s))))) = u at bay ⊢
    rw [← bay]
    by_cases standby : u.bay.mode = .standby
    · rw [restartMode, wake_standby standby, changeMode_bay, if_pos standby]
    · rw [restartMode, wake_awake standby, if_neg standby]
  exact (restartBlocks_frame check s).bay.trans units

theorem restartBlocks_accounts (check : MemoryCheck) (s : State) :
    (restartBlocks check s).accounts = { s.accounts with cursors := fill 3 0 } :=
  (restartBlocks_frame check s).accounts.trans ((wake_moves .restart _).accounts)

theorem restartBlocks_order (check : MemoryCheck) (p : PointId) (s : State) : ((restartBlocks check s).point p).order = (s.point p).order := by
  rw [point_of_points ((restartBlocks_frame check s).same .points), point_of_points (restartUnits_points s)]
  rw [State.point, restartPoints, look_ofFn]

theorem restartBlocks_delivery (check : MemoryCheck) (i : InletId) (s : State) :
    ((restartBlocks check s).inlet i).delivery = (s.inlet i).delivery := by
  rw [inlet_of_inlets ((restartBlocks_frame check s).same .inlets), inlet_of_inlets (restartUnits_inlets s)]
  rw [State.inlet, restartInlets, look_mapTable]
  rfl

/-- R86: the books stay as they were. -/
theorem restartBlocks_tank (check : MemoryCheck) (k : TankId) (s : State) :
    ((restartBlocks check s).tank k).book = (s.tank k).book ∧ ((restartBlocks check s).tank k).rebasePending = (s.tank k).rebasePending := by
  have units : ((restartUnits s).tank k).book = (s.tank k).book ∧ ((restartUnits s).tank k).rebasePending = (s.tank k).rebasePending := by
    rw [restartUnits_tank]
    exact ⟨rfl, rfl⟩
  rw [restartBlocks_eq]
  split
  · exact units
  · have measured := (checkBlankStore_keeps (restartUnits s)).tanks k
    simp only [Tank.measured, Prod.mk.injEq] at measured
    obtain ⟨-, -, -, -, book, pending⟩ := measured
    exact ⟨book.trans units.1, pending.trans units.2⟩

theorem openOperations_congr (orders : ∀ p, (t.point p).order = (s.point p).order) (deliveries : ∀ i, (t.inlet i).delivery = (s.inlet i).delivery) :
    t.openOperations = s.openOperations := by
  simp only [State.openOperations, orders, deliveries]

end

end Sys2Proof.Machine

/-! # A restart with a valid image, up to the start of the shutdown unit (R200) -/

namespace Sys2Proof.Machine

open Sys2Proof

/-- R200: the state once step 1 of the sequence is taken. -/
def State.begun (s : State) (check : MemoryCheck) : State := restartBlocks check (restartBegun check s)

section
variable {r s t u : State} {check : MemoryCheck}

/-! ## Step 1 -/

/-- R199: the check of the settings store. -/
theorem restartBegun_eq (check : MemoryCheck) (s : State) : restartBegun check s = { s with
    store := if check.settingsValid then s.store else .blank, bay := { s.bay with stopped := false } } := by
  rw [restartBegun, startController, checkStore]
  split <;> rfl

theorem begun_moves (check : MemoryCheck) (s : State) :
    Moves (restartParts ++ stockParts) (restartHoles ∪ drawLaws) (restartBegun check s) (s.begun check) := restartBlocks_parts check _

theorem begun_clock (check : MemoryCheck) (s : State) : (s.begun check).clock = s.clock := by
  rw [show (s.begun check).clock = (restartBegun check s).clock from (begun_moves check s).same .clock, restartBegun_eq]

theorem begun_bay (check : MemoryCheck) (s : State) : (s.begun check).bay =
    { s.bay with stopped := false, mode := if s.bay.mode = .standby then .open else s.bay.mode } := by
  rw [State.begun, restartBlocks_bay, restartBegun_eq]

theorem begun_accounts (check : MemoryCheck) (s : State) : (s.begun check).accounts = { s.accounts with cursors := fill 3 0 } := by
  rw [State.begun, restartBlocks_accounts, restartBegun_eq]

theorem begun_order (check : MemoryCheck) (p : PointId) (s : State) : ((s.begun check).point p).order = (s.point p).order := by
  rw [State.begun, restartBlocks_order, restartBegun_eq]
  rfl

theorem begun_delivery (check : MemoryCheck) (i : InletId) (s : State) : ((s.begun check).inlet i).delivery = (s.inlet i).delivery := by
  rw [State.begun, restartBlocks_delivery, restartBegun_eq]
  rfl

theorem begun_tank (check : MemoryCheck) (k : TankId) (s : State) :
    ((s.begun check).tank k).book = (s.tank k).book ∧ ((s.begun check).tank k).rebasePending = (s.tank k).rebasePending := by
  have kept := restartBlocks_tank check k (restartBegun check s)
  rw [restartBegun_eq] at kept
  rw [State.begun, restartBegun_eq]
  exact kept

theorem begun_journal (check : MemoryCheck) (s : State) : (s.begun check).journal = s.journal := by
  rw [show (s.begun check).journal = (restartBegun check s).journal from (begun_moves check s).same .journal, restartBegun_eq]

theorem begun_shutdown (check : MemoryCheck) (s : State) : (s.begun check).shutdown = s.shutdown := by
  rw [(begun_moves check s).shutdown, restartBegun_eq]

theorem begun_store (check : MemoryCheck) (s : State) : (s.begun check).store = if check.settingsValid then s.store else .blank := by
  rw [(begun_moves check s).store, restartBegun_eq]

theorem begun_rested (check : MemoryCheck) (s : State) : (s.begun check).Rested := restartBlocks_rested check _

theorem State.AtRestart.of_units (h : s.AtRestart t) (inlets : r.inlet = s.inlet) (pumps : r.pump = s.pump) : r.AtRestart t where
  points := h.points
  inlets i := by
    rw [inlets]
    exact h.inlets i
  pumps m := by
    rw [pumps]
    exact h.pumps m
  queue := h.queue
  links := h.links
  cursors := h.cursors
  tanks := h.tanks

theorem begun_atRestart (check : MemoryCheck) (s : State) : s.AtRestart (s.begun check) :=
  (restartBlocks_atRestart check (restartBegun check s)).of_units (by rw [restartBegun_eq]; rfl) (by rw [restartBegun_eq]; rfl)

theorem begun_seconds (check : MemoryCheck) (s : State) : (s.begun check).seconds = s.seconds := by
  rw [State.seconds, begun_clock, State.seconds]

theorem begun_calendar (check : MemoryCheck) (s : State) : (s.begun check).calendar = s.calendar := by
  rw [State.calendar, begun_seconds, begun_bay, State.calendar]

theorem begun_account (check : MemoryCheck) (s : State) : (s.begun check).account = s.account := by
  funext n
  rw [State.account, begun_accounts, State.account]

theorem begun_openOperations (check : MemoryCheck) (s : State) : (s.begun check).openOperations = s.openOperations :=
  openOperations_congr (fun p => begun_order check p s) fun i => begun_delivery check i s

theorem begun_closeList (check : MemoryCheck) (s : State) : (s.begun check).closeList check = s.closeList check := by
  rw [State.closeList, State.closeList, State.toClose, State.toClose, begun_openOperations]

theorem begun_shiftTaken (check : MemoryCheck) (s : State) : (s.begun check).shiftTaken check ↔ s.shiftTaken check := by
  rw [State.shiftTaken, begun_calendar, begun_bay]

/-! ## Steps 2 and 3 -/

/-- R200: what a restart with a valid image has kept, and what its sequence has closed. -/
structure State.KeptBy (s : State) (check : MemoryCheck) (t : State) : Prop where
  clock : t.clock = s.clock
  mode : t.bay.mode = if s.bay.mode = .standby then .open else s.bay.mode
  orders : ∀ p, (t.point p).order = if .order p ∈ s.closeList check then none else (s.point p).order
  deliveries : ∀ i, (t.inlet i).delivery = if .delivery i ∈ s.closeList check then none else (s.inlet i).delivery
  journal : ∃ news : List Record, t.journal = s.journal.after news ∧ news.length = (s.closeList check).length ∧
    (news.map fun r => some r.number) = (s.closeList check).map s.numberOf? ∧
    ∀ x ∈ s.closeList check, ∃ r ∈ news, s.IsInterrupted x r
  tanks : ∀ k, (t.tank k).book = (s.tank k).book ∧ (t.tank k).rebasePending = (s.tank k).rebasePending
  nextShift : t.bay.nextShift = if s.shiftTaken check then nextShiftStart s.calendar t.store.shifts else s.bay.nextShift
  lastShiftChange : t.accounts.lastShiftChange = if s.shiftTaken check then s.seconds else s.accounts.lastShiftChange
  otherAccounts : ∀ machine a, s.account machine = some a → (∀ p, ∀ o ∈ (s.point p).order, o.machine ≠ some machine) →
    t.account machine = some { a with shiftUsed := if s.shiftTaken check then 0 else a.shiftUsed }
  ownAccounts : ∀ machine a p o, s.account machine = some a → (s.point p).order = some o → o.machine = some machine →
    o.kind = .fuel → a.openSet = [o.number] → (∀ e ∈ s.accounts.deferred, e.machine ≠ machine) →
    (∀ q, q ≠ p → ∀ x ∈ (s.point q).order, x.machine ≠ some machine) → .order p ∈ s.closeList check →
    ∃ b, t.account machine = some b ∧ b.openSet = [] ∧
      b.shiftUsed = min 9999999 ((if s.shiftTaken check then 0 else a.shiftUsed) + (o.net + 50000) / 100000)

theorem State.KeptBy.ended (h : s.KeptBy check t) (ended : t.Ended u) : s.KeptBy check u where
  clock := ended.clock.trans h.clock
  mode := ended.mode.trans h.mode
  orders p := (ended.orders p).trans (h.orders p)
  deliveries i := (ended.deliveries i).trans (h.deliveries i)
  journal := by
    rw [ended.journal]
    exact h.journal
  tanks k := by
    rw [tank_of_same ended.tanks]
    exact h.tanks k
  nextShift := by
    rw [ended.nextShift, ended.store]
    exact h.nextShift
  lastShiftChange := by
    rw [ended.accounts]
    exact h.lastShiftChange
  otherAccounts := by
    rw [account_of_accounts ended.accounts]
    exact h.otherAccounts
  ownAccounts := by
    rw [account_of_accounts ended.accounts]
    exact h.ownAccounts

/-- R200: the books stay as they were. -/
theorem closedBy_tank (check : MemoryCheck) (k : TankId) (rests : r.AtRestart s) :
    ((s.closedBy check).tank k).book = (s.tank k).book ∧ ((s.closedBy check).tank k).rebasePending = (s.tank k).rebasePending := by
  have shifted := shiftedBy_keeps check s
  obtain ⟨-, measured⟩ : r.AtRestart (s.closedBy check) ∧ ((s.closedBy check).tank k).measured = (s.tank k).measured :=
    forEach_induction (P := fun u => r.AtRestart u ∧ (u.tank k).measured = (s.tank k).measured)
      (fun x _ _ h => ⟨h.1.keeps (interrupt_keeps x h.1), ((interrupt_keeps x h.1).tanks k).trans h.2⟩)
      ⟨rests.keeps shifted, shifted.tanks k⟩
  simp only [Tank.measured, Prod.mk.injEq] at measured
  obtain ⟨-, -, -, -, book, pending⟩ := measured
  exact ⟨book, pending⟩

/-- What steps 2 and 3 leave of the operations of a state. -/
theorem closedBy_keptBy (check : MemoryCheck) (rests : r.AtRestart s) (awake : s.bay.mode ≠ .standby) : s.KeptBy check (s.closedBy check) := by
  have shifted := shiftedBy_moves check s
  have point : (s.shiftedBy check).point = s.point := point_of_points (shifted.same .points)
  have inlet : (s.shiftedBy check).inlet = s.inlet := inlet_of_inlets (shifted.same .inlets)
  have moves := closedBy_moves check s
  have closes := forEach_interrupt_moves (s.closeList check) (s.shiftedBy check)
  have account (n : Nat) := shiftedBy_account check s n
  refine ⟨moves.same .clock, ?_, fun p => ?_, fun i => ?_, ?_, fun k => ?_, ?_, ?_, fun machine a found apart => ?_,
    fun machine a p o found order names fuel alone calm apart closed => ?_⟩
  · rw [closedBy_bay, if_neg awake]
  · rw [State.closedBy, forEach_interrupt_order, point]
  · rw [State.closedBy, forEach_interrupt_delivery, inlet]
  · have distinct : s.toClose.Nodup :=
      ((sortByNumber_perm s.openOperations).map Prod.snd).nodup_iff.2 (openOperations_nodup s)
    have opened (x : OpenOperation) : (s.shiftedBy check).opened x = s.opened x := by
      cases x <;> simp only [State.opened, point, inlet]
    have numbers : (s.shiftedBy check).numberOf? = s.numberOf? := by
      funext x
      cases x <;> simp only [State.numberOf?, point, inlet]
    have seconds : (s.shiftedBy check).seconds = s.seconds := by
      rw [State.seconds, show (s.shiftedBy check).clock = s.clock from shifted.same .clock, State.seconds]
    have are (x : OpenOperation) (r : Record) : (s.shiftedBy check).IsInterrupted x r ↔ s.IsInterrupted x r := by
      cases x <;> simp only [State.IsInterrupted, point, inlet, seconds]
    obtain ⟨news, journal, length, named, held⟩ := forEach_interrupt_journal (s := s.shiftedBy check)
      (distinct.sublist (closeList_sublist s check)) fun x mem => by
        rw [opened]
        exact mem_toClose.1 ((closeList_sublist s check).subset mem)
    refine ⟨news, ?_, length, by rw [named, numbers], fun x mem => ?_⟩
    · rw [State.closedBy, journal, show (s.shiftedBy check).journal = s.journal from shifted.same .journal]
    · obtain ⟨r, new, is⟩ := held x mem
      exact ⟨r, new, (are x r).1 is⟩
  · exact closedBy_tank check k rests
  · rw [closedBy_bay, moves.store]
  · have rest := closes.same .accountsRest
    exact rest.2.2.trans (shiftedBy_lastShiftChange check s)
  · rw [State.closedBy, forEach_interrupt_account_ne (by rw [point]; exact apart), account, found]
    rfl
  · obtain ⟨b, own, emptied, used⟩ := forEach_interrupt_account (s := s.shiftedBy check)
      (a := { a with shiftUsed := if s.shiftTaken check then 0 else a.shiftUsed }) closed (by rw [point]; exact order) names
      (by rw [account, found]; rfl) fuel alone (by rw [show (s.shiftedBy check).accounts.deferred = s.accounts.deferred from shifted.same .deferred]; exact calm)
      (by rw [point]; exact apart)
    exact ⟨b, own, emptied, used⟩

end

end Sys2Proof.Machine

/-! # A restart with a lost image (R201), and every restart -/

namespace Sys2Proof.Machine

open Sys2Proof

section
variable {s t : State} {cause : RestartCause} {check : MemoryCheck} {n before : Nat} {link : Option Link}

/-! ## With every tank waiting for its rebase -/

/-- R201: no product has a draw tank, and every tank waits for its rebase. -/
def State.Undrawn (s : State) : Prop := (∀ k, s.draw k = ⟨none, none⟩) ∧ ∀ k, (s.tank k).rebasePending = true

theorem State.Undrawn.of_same (h : s.Undrawn) (draws : Part.draws.same s t) (tanks : Part.tanks.same s t) : t.Undrawn := by
  rw [State.Undrawn, draw_of_same draws, tank_of_same tanks]
  exact h

/-- R69: a tank that waits for its rebase is eligible for nothing. -/
theorem State.Undrawn.chainCheck (undrawn : s.Undrawn) (k : ProductId) : chainCheck k false s = s := by
  obtain ⟨draws, pending⟩ := undrawn
  have none : (s.draw k).current = none := by rw [draws]
  have unfit (j : TankId) : s.eligible k j = false := by simp [State.eligible, State.ready, pending]
  rw [Machine.chainCheck, drawAfter_first (.inl none), List.find?_eq_none.2 fun j _ => by simp [unfit], moveDraw_none none]

theorem State.Undrawn.checkProducts (undrawn : s.Undrawn) (x : LatchId) : checkProducts x s = s :=
  forEach_invariant (P := (· = s)) _ _ (fun k u hu => by rw [hu]; exact undrawn.chainCheck k) s rfl

theorem State.Undrawn.handCause (undrawn : s.Undrawn) (empty : s.Empty) (h : Handing) : (handCause h s).Undrawn := by
  set leaves := decide ((s.latch h.latch).state = .normal) with hleaves
  obtain ⟨n, sent⟩ : ∃ n, causeHandedOn h s = (handOn h leaves (((latchTaken h s).post n).marked true)).marked false := ⟨_, rfl⟩
  set x := ((latchTaken h s).post n).marked true with hx
  have before : Moves [.latches, .log, .shutdownRest, .links, .stockRest] (tripLaws ∪ drawLaws) s x :=
    ((latchTaken_moves h s).andThen (((post_moves n _).andThen (marked_moves true _)).weaken _)).mono (by decide)
  have still : x.Undrawn := undrawn.of_same (before.same .draws) (before.same .tanks)
  rw [handOn_empty (empty.of_same (before.same .points) (before.same .inlets)), handOnStock, still.checkProducts] at sent
  have last : Moves [.log, .latches, .links] ∅ (causeHandedOn h s) (Machine.handCause h s) := by
    rw [handCause_stopped]
    exact ((changeEntry_moves ..).andThen (examine_moves ..)).mono (by decide)
  refine State.Undrawn.of_same ?_ (last.same .draws) (last.same .tanks)
  rw [sent]
  split <;> exact still

/-- R167, R201: the shutdown unit starts after a lost image. -/
theorem State.Undrawn.startShutdown (undrawn : s.Undrawn) (empty : s.Empty) : (startShutdown s).Undrawn := by
  rw [startShutdown_eq]
  set x := (restartInputs s).setEstop s.shutdown.estop.level with hx
  have before : Moves [.shutdownRest] ∅ s x := ((restartInputs_moves s).andThen (setEstop_moves ..)).mono (by decide)
  have still : x.Undrawn := undrawn.of_same (before.same .draws) (before.same .tanks)
  have drops {u : State} (h : u.Undrawn) : (dropReports u).Undrawn := h.of_same rfl rfl
  refine drops ?_
  split
  · exact still.handCause (empty.of_same (before.same .points) (before.same .inlets)) _
  · have examined := examineHolding_moves .estop x
    exact still.of_same (examined.same .draws) (examined.same .tanks)

/-- R153, R167: no latch but that of the BAY holds the ESTOP input. -/
theorem startShutdown_latch {y : LatchId} (other : y ≠ .bay) (clear : s.latch y = .clear) : (startShutdown s).latch y = .clear := by
  rw [startShutdown_eq]
  set x := (restartInputs s).setEstop s.shutdown.estop.level with hx
  have same : x.latch y = .clear := clear
  rw [latch_of_shutdown (dropReports_moves _).shutdown]
  split
  · have apart : (handing .bay .estop (some .estop)).latch ≠ y := other.symm
    rw [handCause_latch, if_neg apart, same]
  · rw [examineHolding_latch, same]
    rfl

end

end Sys2Proof.Machine

/-! # Every restart (R199 to R202) -/

namespace Sys2Proof.Machine

open Sys2Proof

section
variable {s t c : State} {cause : RestartCause} {check : MemoryCheck} {n before : Nat} {link : Option Link}

/-! ## What a restart with a valid image has kept -/

theorem State.KeptBy.of_begun (h : (s.begun check).KeptBy check t) : s.KeptBy check t where
  clock := h.clock.trans (begun_clock check s)
  mode := by
    rw [h.mode, begun_bay]
    cases s.bay.mode <;> rfl
  orders p := by rw [h.orders, begun_closeList, begun_order]
  deliveries i := by rw [h.deliveries, begun_closeList, begun_delivery]
  journal := by
    obtain ⟨news, journal, length, numbers, held⟩ := h.journal
    rw [begun_closeList] at length numbers held
    have named : (s.begun check).numberOf? = s.numberOf? := by
      funext x
      cases x <;> simp only [State.numberOf?, begun_order, begun_delivery]
    refine ⟨news, by rw [journal, begun_journal], length, by rw [numbers, named], fun x mem => ?_⟩
    obtain ⟨r, new, is⟩ := held x mem
    refine ⟨r, new, ?_⟩
    cases x <;> simpa only [State.IsInterrupted, begun_order, begun_delivery, begun_seconds] using is
  tanks k := by
    obtain ⟨book, pending⟩ := h.tanks k
    exact ⟨book.trans (begun_tank check k s).1, pending.trans (begun_tank check k s).2⟩
  nextShift := by rw [h.nextShift, if_congr (begun_shiftTaken check s) rfl rfl, begun_calendar, begun_bay]
  lastShiftChange := by rw [h.lastShiftChange, if_congr (begun_shiftTaken check s) rfl rfl, begun_seconds, begun_accounts]
  otherAccounts machine a found apart := by
    rw [h.otherAccounts machine a (by rw [begun_account, found]) (by simpa only [begun_order] using apart)]
    simp only [begun_shiftTaken]
  ownAccounts machine a p o found order names fuel alone calm apart closed := by
    obtain ⟨b, own, emptied, used⟩ := h.ownAccounts machine a p o (by rw [begun_account, found]) (by rw [begun_order, order]) names fuel alone
      (by rw [begun_accounts]; exact calm) (by simpa only [begun_order] using apart) (by rw [begun_closeList]; exact closed)
    exact ⟨b, own, emptied, by rw [used]; simp only [begun_shiftTaken]⟩

/-! ## What a restart with a lost image leaves -/

/-- R201: what a restart with a lost image leaves. -/
structure State.Lost (t : State) : Prop where
  clock : t.clock = 0
  mode : t.bay.mode = .locked
  offset : t.bay.offset = 0
  clockSet : t.bay.clockSet = false
  curtailed : t.bay.curtailed = false
  table : t.accounts.table = []
  deferred : t.accounts.deferred = []
  journal : t.journal = ⟨[], 1, 0, 0, 0, 1⟩
  orders : ∀ p, (t.point p).order = none
  deliveries : ∀ i, (t.inlet i).delivery = none
  tanks : ∀ k, (t.tank k).rebasePending = true ∧ (t.tank k).book = 0
  draws : ∀ k, t.draw k = ⟨none, none⟩
  latches : ∀ y, y ≠ .bay → t.latch y = .clear

theorem lost_undrawn (check : MemoryCheck) (s : State) : (s.lost check).Undrawn :=
  ⟨lost_draw check s, fun k => by rw [lost_tank]; rfl⟩

theorem lost_latch (check : MemoryCheck) (s : State) (y : LatchId) : (s.lost check).latch y = .clear := by
  cases y with
  | point p => exact look_fill ..
  | bund b => exact look_fill ..
  | bay => rfl

theorem State.Ended.lost (ended : (s.lost check).Ended t) (draws : ∀ k, t.draw k = ⟨none, none⟩)
    (latches : ∀ y, y ≠ .bay → t.latch y = .clear) : t.Lost where
  clock := ended.clock
  mode := ended.mode
  offset := ended.offset
  clockSet := ended.clockSet
  curtailed := ended.curtailed
  table := by rw [ended.accounts]; rfl
  deferred := by rw [ended.accounts]; rfl
  journal := ended.journal
  orders p := (ended.orders p).trans ((lost_empty check s).2.1 p)
  deliveries i := (ended.deliveries i).trans ((lost_empty check s).2.2 i)
  tanks k := by
    rw [tank_of_same ended.tanks, lost_tank]
    exact ⟨rfl, rfl⟩
  draws := draws
  latches := latches

theorem State.Ends.lost (ends : (s.lost check).Ends cause check n link before t) : t.Lost := by
  have undrawn (empty : (s.lost check).Empty) (k : ProductId) := ((lost_undrawn check s).startShutdown empty).1 k
  have clear (y : LatchId) (other : y ≠ .bay) := startShutdown_latch other (lost_latch check s y)
  obtain ⟨draws, latches⟩ : (∀ k, t.draw k = ⟨none, none⟩) ∧ ∀ y, y ≠ .bay → t.latch y = .clear := by
    cases ends with
    | whole kept empty =>
      have recorded := recordRestart_moves cause check n link (startShutdown (s.lost check))
      rw [draw_of_same (recorded.same .draws), latch_of_shutdown recorded.shutdown]
      exact ⟨undrawn empty, clear⟩
    | cut k cut => exact ⟨lost_draw check s, fun y _ => lost_latch check s y⟩
    | cutLast k cut empty late => exact ⟨undrawn empty, clear⟩
  exact ends.ended.lost draws latches

/-! ## From the check of the memory to the end of the sequence -/

/-- R199 to R201: a restart before its shutdown unit starts. -/
structure State.RestartCore (s : State) (check : MemoryCheck) (c : State) : Prop where
  stopped : c.bay.stopped = false
  store : c.store = if check.settingsValid then s.store else .blank
  levels : ∀ x, (c.debounced x).level = (s.debounced x).level
  estop : c.shutdown.estop.level = s.shutdown.estop.level
  units : s.AtRestart c
  kept : check.imageValid = true → c.bay.restart = s.bay.restart ∧ c.shutdown = s.shutdown ∧ s.KeptBy check c
  lost : check.imageValid = false → c = s.lost check

theorem keptCore (check : MemoryCheck) (s : State) (kept : check.imageValid = true) :
    s.RestartCore check ((s.begun check).closedBy check) := by
  have moves := closedBy_moves check (s.begun check)
  have bay := closedBy_bay check (s.begun check)
  have shutdown : ((s.begun check).closedBy check).shutdown = s.shutdown := moves.shutdown.trans (begun_shutdown check s)
  have rests := begun_atRestart check s
  have awake : (s.begun check).bay.mode ≠ .standby := by
    rw [begun_bay]
    cases s.bay.mode <;> exact nofun
  refine ⟨?_, moves.store.trans (begun_store check s), fun x => ?_, by rw [shutdown], closedBy_atRestart check rests, fun _ => ⟨?_, shutdown, ?_⟩,
    fun lost => ?_⟩
  · exact (congrArg BayUnit.stopped bay).trans (congrArg BayUnit.stopped (begun_bay check s))
  · cases x <;> simp only [State.debounced, shutdown]
  · exact Eq.trans (congrArg BayUnit.restart bay) (show (s.begun check).bay.restart = _ by rw [begun_bay])
  · exact (closedBy_keptBy check rests awake).of_begun
  · rw [kept] at lost
    cases lost

theorem lost_atRestart (check : MemoryCheck) (s : State) : s.AtRestart (s.lost check) where
  points p := by
    rw [lost_point]
    exact ⟨rfl, rfl, rfl, rfl⟩
  inlets i := by
    rw [lost_inlet]
    refine ⟨rfl, rfl, rfl, ?_⟩
    rw [checkStore]
    split <;> rfl
  pumps m := by
    have unit : (s.lost check).pump m = .restarted ((checkStore check s).pump m).faultLine := look_mapTable ..
    rw [unit]
    refine ⟨rfl, rfl, rfl, ?_⟩
    rw [checkStore]
    split <;> rfl
  queue := rfl
  links l := by
    rw [State.lost, restartLinks_link]
    exact ⟨rfl, rfl, rfl, rfl, rfl⟩
  cursors := rfl
  tanks k := by
    rw [lost_tank]
    exact ⟨rfl, rfl, rfl, rfl⟩

theorem lostCore (check : MemoryCheck) (s : State) (lost : check.imageValid = false) : s.RestartCore check (s.lost check) := by
  have shutdown : (checkStore check s).shutdown = s.shutdown := by
    rw [checkStore]
    split <;> rfl
  refine ⟨rfl, ?_, fun x => ?_, congrArg (fun u => u.estop.level) shutdown, lost_atRestart check s, fun kept => ?_, fun _ => rfl⟩
  · change (checkStore check s).store = _
    rw [checkStore]
    split <;> rfl
  · have same : ((s.lost check).debounced x) = ((checkStore check s).debounced x) := by cases x <;> rfl
    rw [same]
    cases x <;> simp only [State.debounced, shutdown]
  · rw [kept] at lost
    cases lost

/-- R199 to R202: every restart, by what its check of the memory finds. -/
theorem restart_ends (cause : RestartCause) (check : MemoryCheck) (link : Option Link) (s : State) :
    ∃ c, s.RestartCore check c ∧ c.Ends cause check (if check.imageValid then s.openOperations.length else 0) link
      (if check.imageValid then s.openOperations.length + 1 else 0) (restart cause check link s) := by
  cases valid : check.imageValid with
  | true =>
    refine ⟨_, keptCore check s valid, ?_⟩
    have length : (s.begun check).toClose.length = s.openOperations.length := by
      rw [State.toClose, List.length_map, (sortByNumber_perm _).length_eq, begun_openOperations]
    have ends := runSequence_ends (begun_rested check s) cause check (s.begun check).openOperations.length link
    rw [length, begun_openOperations] at ends
    rw [restart, if_pos valid, restartKept_eq]
    change State.Ends _ cause check s.openOperations.length link (s.openOperations.length + 1) (runSequence (s.begun check).sequence cause check
      (s.begun check).openOperations.length link (s.begun check))
    rw [begun_openOperations]
    exact ends
  | false =>
    refine ⟨_, lostCore check s valid, ?_⟩
    have lost : restart cause check link s = runSequence [.shutdown] cause check 0 link (s.lost check) :=
      if_neg (by rw [valid]; exact Bool.false_ne_true)
    have empty := lost_empty check s
    rw [lost]
    cases cut : check.cutAfter with
    | none =>
      rw [runSequence_whole _ _ _ _ _ _ cut]
      exact .whole cut empty
    | some k =>
      rw [runSequence_cut _ _ _ _ _ _ _ cut]
      cases k with
      | zero => exact .cut 0 cut
      | succ m =>
        rw [List.take_succ_cons, List.take_nil]
        exact .cutLast (m + 1) cut empty (Nat.succ_pos m)

end

end Sys2Proof.Machine

/-! # What a restart leaves of the journal and of the outputs (R171, R199, R200) -/

namespace Sys2Proof.Machine

open Sys2Proof

/-- R200: the operations that the sequence closes before the supply fails again, with their order numbers. -/
def State.closedOperations (s : State) (check : MemoryCheck) : List (Nat × OpenOperation) :=
  match check.cutAfter with
  | none => sortByNumber s.openOperations
  | some n => (sortByNumber s.openOperations).take (n - 1)

section
variable {s t : State} {check : MemoryCheck}

theorem closeList_eq (s : State) (check : MemoryCheck) : s.closeList check = (s.closedOperations check).map Prod.snd := by
  cases cut : check.cutAfter with
  | none =>
    simp only [State.closeList, State.closedOperations, cut]
    rfl
  | some n =>
    simp only [State.closeList, State.closedOperations, cut, List.map_take]
    rfl

theorem mem_closeList {x : OpenOperation} : x ∈ s.closeList check ↔ ∃ y ∈ s.closedOperations check, y.2 = x := by
  rw [closeList_eq, List.mem_map]

theorem closedOperations_sublist (s : State) (check : MemoryCheck) : (s.closedOperations check).Sublist (sortByNumber s.openOperations) := by
  unfold State.closedOperations
  split
  · exact .refl _
  · exact List.take_sublist ..

theorem closedOperations_sorted (s : State) (check : MemoryCheck) : ((s.closedOperations check).map Prod.fst).Pairwise (· ≤ ·) :=
  List.pairwise_map.2 ((sortByNumber_sorted s.openOperations).sublist (closedOperations_sublist s check))

theorem closedOperations_length_le (s : State) (check : MemoryCheck) : (s.closedOperations check).length ≤ 512 := by
  have few := (closedOperations_sublist s check).length_le
  rw [(sortByNumber_perm s.openOperations).length_eq] at few
  exact few.trans ((openOperations_length_le s).trans (by decide))

theorem closedOperations_numbers (s : State) (check : MemoryCheck) :
    (s.closeList check).map s.numberOf? = (s.closedOperations check).map fun x => some x.1 := by
  rw [closeList_eq, List.map_map]
  refine List.map_congr_left fun x mem => mem_openOperations ?_
  exact mem_sortByNumber.1 ((closedOperations_sublist s check).subset mem)

/-- R171, R200: the records that the sequence wrote are the newest of the journal, in ascending order of number. -/
structure State.JournalClosed (s : State) (check : MemoryCheck) (t : State) : Prop where
  newest : (t.journal.held.drop (t.journal.held.length - (s.closedOperations check).length)).map Record.number =
    (s.closedOperations check).map Prod.fst
  nextPosition : t.journal.nextPosition = s.journal.nextPosition + (s.closedOperations check).length
  uncollected : t.journal.uncollected = s.journal.uncollected + (s.closedOperations check).length
  openCount : t.journal.openCount = s.journal.openCount - (s.closedOperations check).length
  nextOrder : t.journal.nextOrder = s.journal.nextOrder
  mark : t.journal.mark = s.journal.mark
  orders : ∀ p o, (s.point p).order = some o → (∃ y ∈ s.closedOperations check, y.2 = .order p) → t.HoldsInterruptedOrder p o
  deliveries : ∀ i d, (s.inlet i).delivery = some d → (∃ y ∈ s.closedOperations check, y.2 = .delivery i) →
    t.HoldsInterruptedDelivery i d

theorem State.KeptBy.journalClosed (h : s.KeptBy check t) : s.JournalClosed check t := by
  obtain ⟨news, journal, count, numbers, are⟩ := h.journal
  have length : news.length = (s.closedOperations check).length := by rw [count, closeList_eq, List.length_map]
  have named : news.map Record.number = (s.closedOperations check).map Prod.fst := by
    refine List.map_injective_iff.2 (Option.some_injective Nat) ?_
    rw [List.map_map, List.map_map]
    exact numbers.trans (closedOperations_numbers s check)
  have seconds : t.seconds = s.seconds := by rw [State.seconds, h.clock, State.seconds]
  obtain ⟨old, held⟩ := foldl_ringAfter news s.journal.held (length.le.trans (closedOperations_length_le s check))
  have newest : t.journal.held = old ++ news := by rw [journal, ← held]; rfl
  have holds {x : OpenOperation} (closed : ∃ y ∈ s.closedOperations check, y.2 = x) :
      ∃ r ∈ t.journal.held, s.IsInterrupted x r := by
    obtain ⟨r, new, is⟩ := are x (mem_closeList.2 closed)
    exact ⟨r, newest ▸ List.mem_append_right old new, is⟩
  refine ⟨?_, ?_, ?_, ?_, by rw [journal]; rfl, by rw [journal]; rfl, fun p o order closed => ?_, fun i d delivery closed => ?_⟩
  · rw [newest, ← length, drop_append_length, named]
  · rw [journal, ← length]
    rfl
  · rw [journal, ← length]
    rfl
  · rw [journal, ← length]
    rfl
  · obtain ⟨r, mem, is⟩ := holds closed
    obtain ⟨d, rfl, of⟩ := is o order
    rw [← seconds] at of
    exact ⟨d, mem, of⟩
  · obtain ⟨r, mem, is⟩ := holds closed
    obtain ⟨x, rfl, of⟩ := is d delivery
    rw [← seconds] at of
    exact ⟨x, mem, of⟩

end

end Sys2Proof.Machine

/-! # Restarts (O60) -/

namespace Sys2Proof.Machine

open Sys2Proof

section
variable {s t : State} {cause : RestartCause} {check : MemoryCheck} {link : Option Link}

/-- R199: the restart begins once the reply of its request is over. -/
theorem restartRequest_taken (v : Via) (ready : s.Ready) (zero : partNumber v = 0) (allowed : (s.perms v.link).configure = true) :
    exec (.restartRequest v) s = .next (answered v 0x54 .ok []
      { s with links := put s.links v.link { s.link v.link with
        restartOwed := if (s.link v.link).rate.isSome then .replying else .over } }) := by
  have taken : requestAnswer (.restartRequest v) s =
      done (s.updLink v.link fun u => { u with restartOwed := if u.rate.isSome then .replying else .over }) := by
    change restartRequestTaken v s = _
    rw [restartRequestTaken, allowed]
    rfl
  exact congrArg Host.Outcome.next (request_done (code := 0x54) ready rfl zero taken ready.2)

/-- R199: the commands by which a restart begins. -/
theorem exec_restart {i : Instr} {offMs : Nat}
    (begins : (i = .powerOn check offMs ∧ cause = .powerOn ∧ link = none) ∨
      (i = .supplyReturn check ∧ cause = .supplyDip ∧ link = none ∧ offMs = 0 ∧ s.bay.stopped = true) ∨
      (∃ l, i = .requestedRestart l check ∧ cause = .request ∧ link = some l ∧ offMs = 0 ∧ s.Running ∧ (s.link l).restartOwed = .over)) :
    exec i s = .next (restart cause check link { s with clock := s.clock + offMs }) := by
  rcases begins with ⟨rfl, rfl, rfl⟩ | ⟨rfl, rfl, rfl, rfl, stopped⟩ | ⟨l, rfl, rfl, rfl, rfl, running, owed⟩
  · rfl
  · exact congrArg Host.Outcome.next (if_pos stopped)
  · refine congrArg Host.Outcome.next ?_
    rw [whileRunning, if_neg (by rw [running]; exact Bool.false_ne_true)]
    exact if_pos owed

/-- R199: a supply dip takes every output and window, and what the links had in progress, and leaves the retained memory. -/
theorem exec_supplyDip (running : s.Running) : exec .supplyDip s = .next (stopController s) :=
  congrArg Host.Outcome.next (if_neg (by rw [running]; exact Bool.false_ne_true))

end

/-- Settles O60: a restart is its steps 1 to 3 (`RestartCore`) and the end that its sequence comes to (`Ends`). -/
theorem restarts : Obligations.Restarts := by
  refine ⟨fun v s ready zero allowed => restartRequest_taken v ready zero allowed, fun s running => ?_,
    fun l check s running owed => ?_, fun check s running => ?_, fun i cause check link offMs s begins => ?_⟩
  · refine ⟨_, exec_supplyDip running, rfl, fun p => ?_, fun i => ?_, fun m => ?_, fun l => ?_, rfl, rfl, rfl, rfl, rfl, rfl⟩
    · rw [stopController_point]
      exact ⟨rfl, rfl, rfl, rfl⟩
    · rw [stopController_inlet]
      exact ⟨rfl, rfl, rfl, rfl⟩
    · rw [stopController_pump]
      exact ⟨rfl, rfl⟩
    · rw [stopController_link]
      exact ⟨rfl, rfl, rfl, rfl⟩
  · refine congrArg Host.Outcome.next ?_
    rw [whileRunning, if_neg (by rw [running]; exact Bool.false_ne_true)]
    exact if_neg owed
  · exact congrArg Host.Outcome.next (if_neg (by rw [running]; exact Bool.false_ne_true))
  intro now operations closed isClosed shifted
  obtain ⟨c, core, ends⟩ := restart_ends cause check link now
  have ended := ends.ended
  have units : now.AtRestart (restart cause check link now) := ended.units now core.units
  refine ⟨restart cause check link now, exec_restart begins, ended.store.trans core.store, restart_pending now, units.points, units.inlets,
    units.pumps, units.queue, fun l => ?_, units.tanks, fun valid => ?_, fun lost => ?_, fun whole => ?_, fun n cut => ?_⟩
  · obtain ⟨rate, running, result, service, owed⟩ := units.links l
    exact ⟨rate, running, result, service, owed, by rw [units.cursors, look_fill]⟩
  · have kept := (core.kept valid).2.2.ended ended
    have journal := kept.journalClosed
    have isClosed_iff (x : OpenOperation) : x ∈ now.closeList check ↔ isClosed x := mem_closeList
    refine ⟨kept.clock, ?_, ?_, fun p => (kept.orders p).trans (if_congr (isClosed_iff _) rfl rfl),
      fun n => (kept.deliveries n).trans (if_congr (isClosed_iff _) rfl rfl), journal.orders, journal.deliveries,
      journal.newest, closedOperations_sorted now check, journal.nextPosition, journal.uncollected, journal.openCount,
      journal.nextOrder, journal.mark, kept.tanks, kept.nextShift, ?_, kept.otherAccounts,
      fun machine a p o found order names fuel alone calm apart closed => kept.ownAccounts machine a p o found order names fuel alone
        calm apart ((isClosed_iff _).2 closed)⟩
    · rw [kept.mode]
      cases s.bay.mode <;> decide
    · rw [kept.mode]
      cases s.bay.mode <;> decide
    · have seconds : (restart cause check link now).seconds = now.seconds := by rw [State.seconds, kept.clock, State.seconds]
      rw [seconds]
      exact kept.lastShiftChange
  · obtain rfl := core.lost lost
    have image := ends.lost
    exact ⟨image.clock, image.mode, image.offset, image.clockSet, image.curtailed, image.table, image.deferred, image.journal, image.orders,
      image.deliveries, image.tanks, image.draws, image.latches⟩
  · obtain ⟨stopped, record, posted, inputs⟩ := ends.restarted whole
    refine ⟨stopped.trans core.stopped, by rw [record]; rfl, by rw [record]; rfl, by rw [record]; rfl, by rw [record]; rfl, by rw [record]; rfl,
      by rw [record]; rfl, posted, inputs.bypass, fun x => ?_, ?_⟩
    · rw [inputs.debounced x, ended.clock, ended.store]
      exact ⟨rfl, core.levels x, rfl⟩
    · rw [inputs.estop, core.estop]
      rfl
  · obtain ⟨stopped, notice, record, shutdown⟩ := ends.cut_short cut
    refine ⟨stopped, notice, ?_, fun valid early => ?_⟩
    · rw [record]
      cases valid : check.imageValid with
      | true => exact (core.kept valid).1
      | false => rw [core.lost valid]; rfl
    · rw [(sortByNumber_perm _).length_eq] at early
      exact (shutdown (by rw [if_pos valid]; exact early)).trans (core.kept valid).2.1

end Sys2Proof.Machine
